-- ==== Sys2Proof/Word.lean ====
section
/-! DEFINITION. The words of the LN480: bytes, 32-bit words, and the plainest splitting and joining of them
(R1, R2: multi-byte quantities are little-endian). -/

namespace Sys2Proof

/-- One byte. -/
abbrev Byte := BitVec 8

/-- One 32-bit parameter, payload, plan or result word. -/
abbrev Word := BitVec 32

/-- The word whose value is `n` modulo 2^32. -/
abbrev Word.of (n : Nat) : Word := BitVec.ofNat 32 n

/-- Bits `[lo + n - 1 : lo]` of a word, as a number (R1). -/
def Word.bits (w : Word) (lo n : Nat) : Nat := w.toNat / 2 ^ lo % 2 ^ n

/-- Bit `i` of a word. -/
def Word.bit (w : Word) (i : Nat) : Bool := w.getLsbD i

/-- The word with bit `i` set to `b`. -/
def Word.setBit (w : Word) (i : Nat) (b : Bool) : Word :=
  if b then w ||| (1#32 <<< i) else w &&& ~~~(1#32 <<< i)

/-- The word with bits `[lo + n - 1 : lo]` replaced by the value `v`. -/
def Word.setBits (w : Word) (lo n v : Nat) : Word :=
  (w &&& ~~~(Word.of ((2 ^ n - 1) * 2 ^ lo))) ||| Word.of (v % 2 ^ n * 2 ^ lo)

/-- The four bytes of a word, least significant first (R2). -/
def Word.bytes (w : Word) : List Byte :=
  [w.setWidth 8, (w >>> 8).setWidth 8, (w >>> 16).setWidth 8, (w >>> 24).setWidth 8]

/-- The word made of four bytes, least significant first (R2). -/
def Word.ofBytes (a b c d : Byte) : Word :=
  a.setWidth 32 ||| (b.setWidth 32 <<< 8) ||| (c.setWidth 32 <<< 16) ||| (d.setWidth 32 <<< 24)

/-- A byte list read as words, four bytes each; a shorter rest is dropped. -/
def wordsOfBytes : List Byte → List Word
  | a :: b :: c :: d :: r => Word.ofBytes a b c d :: wordsOfBytes r
  | _ => []

/-- A signed number read from the low `n` bits of a word, two's complement. -/
def Word.signed (w : Word) (n : Nat) : Int :=
  let v := w.bits 0 n
  if v < 2 ^ (n - 1) then (v : Int) else (v : Int) - 2 ^ n

/-- The low `n` bits of a signed number, as a number. -/
def intBits (i : Int) (n : Nat) : Nat := (i % (2 ^ n : Int)).toNat

end Sys2Proof
end

