-- ==== Sys2Proof/Syntax.lean ====
section
/-! DEFINITION. The commands of the LN480: one constructor per row of spec/opcode_table.json, with what its rule says
arrives with it. Log 1 says how rows and operands were chosen. -/

namespace Sys2Proof

/-- The five Cecor transports (R233, R260). -/
inductive Transport
  | spi | uart0 | uart1 | uart2 | uart3
  deriving DecidableEq, Repr

/-- Converter A or B, and with it sequencer A or B; also slot A or B of the boot flash. -/
inductive Side
  | a | b
  deriving DecidableEq, Repr

/-- What every request carries besides its words: the transport, the SEQ (R220), and the system cycles that pass
before its commit point (R226). -/
structure Hdr where
  tr  : Transport
  seq : Byte
  dt  : Nat
  deriving DecidableEq, Repr

/-- One pin's measurements by the check monitor, in millivolts (R427, R429): before and with the test current, and
the difference to the partner before and with the excitation step. -/
structure WireMeas where
  pin : Fin 24
  v0  : Int
  v1  : Int
  d0  : Int
  d1  : Int
  deriving DecidableEq, Repr

/-- A slice measurement: the correction terms O, G, T of Table CONV-1 and the residue (R473). -/
structure SliceMeas where
  o : Int
  g : Int
  t : Int
  r : Nat
  deriving DecidableEq, Repr

/-- The correction terms O, G, T of a slice alone (Table CONV-1). -/
structure Terms where
  o : Int
  g : Int
  t : Int
  deriving DecidableEq, Repr

/-- Terms and residue as one measurement. -/
def Terms.with (x : Terms) (resid : Nat) : SliceMeas := { o := x.o, g := x.g, t := x.t, r := resid }

/-- A converted entry (R469): the slice code in quarter LSB, saturation of the slice (`some true` at the upper end),
and the slice codes of the two grid neighbours (used only where R469 uses them). -/
structure Sample where
  x    : Int
  sat  : Option Bool
  prev : Int
  next : Int
  deriving DecidableEq, Repr

/-- What a read of a memory finds: no error, a corrected SRAM word, an uncorrectable one — the one that holds word `k` of what
is read (R734, R735) —, or a data strobe with a wrong number of edges on an external port (R752). -/
inductive Ecc
  | clean | single | uncorr (k : Nat) | strobe
  deriving DecidableEq, Repr

/-- The critical fuse regions (Table SINT-1). -/
inductive FuseRegion
  | trim | option | security
  deriving DecidableEq, Repr

/-- The supply domains besides VDD_CORE that power up at a time of their own (R830). -/
inductive Domain
  | vioH | vioM | ana
  deriving DecidableEq, Repr

/-- The two blocks of 1,024 samples from which a seed is made (R668, R669), oldest sample first. -/
structure Blocks where
  a : List Bool
  b : List Bool
  deriving DecidableEq, Repr

/-- The inputs P and N of an analog cell, in nanovolts (R387, R392). -/
structure CellInputs where
  p : Int
  n : Int
  deriving DecidableEq, Repr

/-- The lock of the PLL (R118, R836): the cycles that pass before it, and the temperature sensor's reading then. -/
structure Lock where
  dt   : Nat
  temp : BitVec 16
  deriving DecidableEq, Repr

/-- A reply in preparation (R230, R231, R244): on which transport, and whether it is an error reply. -/
structure Prepared where
  tr    : Transport
  error : Bool
  deriving DecidableEq, Repr

/-- How an SRAM bank answers a fabric port (R630, R734): what the read finds, and the cycles until the reply arrives. -/
structure BankAnswer where
  ecc : Ecc
  lat : Nat
  deriving DecidableEq, Repr

/-- The input ports of the fabric that carry words of a stream (Table FAB-6): of a sequencer, a chain or a receive queue. -/
inductive StreamPort
  | seq | filt | uart
  deriving DecidableEq, Repr

/-- How many ports of a kind there are (Table FAB-6). -/
def StreamPort.count : StreamPort → Nat
  | .seq => 2
  | .filt => 8
  | .uart => 4

/-- The commands. -/
inductive Instr
  -- Cecor opcodes (chapter 6): a request whose frame and CRC are good
  | ident (h : Hdr) (ws : List Word)
  | status (h : Hdr) (ws : List Word)
  | poll (h : Hdr) (ws : List Word)
  | echo (h : Hdr) (ws : List Word)
  | nop (h : Hdr) (ws : List Word)
  | get (h : Hdr) (ws : List Word)
  | set (h : Hdr) (ws : List Word)
  | setNow (h : Hdr) (ws : List Word)
  | setGroup (h : Hdr) (ws : List Word)
  | cancelPending (h : Hdr) (ws : List Word)
  | unitPowerOn (h : Hdr) (unit : Byte)
  | unitPowerOff (h : Hdr) (unit : Byte)
  | unitReset (h : Hdr) (ws : List Word)
  | unitState (h : Hdr) (ws : List Word)
  | planLoad (h : Hdr) (ws : List Word)
  | planSwap (h : Hdr) (ws : List Word)
  | regionLoad (h : Hdr) (ws : List Word)
  | regionSwap (h : Hdr) (ws : List Word)
  | coefLoad (h : Hdr) (ws : List Word)
  | coefSwap (h : Hdr) (ws : List Word)
  | convert (h : Hdr) (ws : List Word)
  | captureArm (h : Hdr) (conv : Side) (entry : Fin 32) (addr count timeout : Word)
  | captureRead (h : Hdr) (xspi : Bool) (addr count : Word) (ecc : Ecc)
  | fuseRead (h : Hdr) (ws : List Word)
  | fuseProg (h : Hdr) (ws : List Word)
  | counterRead (h : Hdr) (ws : List Word)
  | counterAdvance (h : Hdr) (ws : List Word)
  | random (h : Hdr) (ws : List Word)
  | imageOpen (h : Hdr) (ws : List Word)
  | imageWrite (h : Hdr) (ws : List Word) (slow : Bool)
  | imageVerify (h : Hdr) (ws : List Word)
  | imageActivate (h : Hdr) (ws : List Word)
  | imageInfo (h : Hdr) (ws : List Word)
  | logRead (h : Hdr) (ws : List Word)
  | logClear (h : Hdr) (ws : List Word)
  | debugUnlockChallenge (h : Hdr)
  | debugUnlockResponse (h : Hdr) (slot : Bool) (scope : Fin 256) (sig : List Word)
  | softReset (h : Hdr) (ws : List Word)
  -- accesses to one parameter
  | tickCountLoRead (h : Hdr)
  | tickCntClr (h : Hdr) (v : Word)
  | hostCntClr (h : Hdr) (v : Word)
  | sinterScan (h : Hdr) (v : Word)
  | ringRdWrite (h : Hdr) (ring : Fin 16) (v : Word)
  | dmaHeadWrite (h : Hdr) (ch : Fin 24) (v : Word)
  | rxPop (h : Hdr) (u : Fin 4)
  | txPush (h : Hdr) (u : Fin 4) (v : Word)
  | autobaudArm (h : Hdr) (u : Fin 4) (v : Word)
  | secRelock (h : Hdr) (v : Word)
  | alertLatchClear (h : Hdr) (v : Word)
  | txContendClear (h : Hdr) (u : Fin 4) (v : Word)
  -- transports (chapter 5)
  | spiFrameStart
  | spiFirstByte (bits : List Bool) (hsck : Nat)
  | spiFrameEnd (seq : Byte)
  | requestCommit (tr : Transport) (dt : Nat) (bytes : List Byte)
  | replyReady (p : Prepared)
  | gapTimeout (u : Fin 4)
  | transportReplySend (u : Fin 4)
  -- reset and start-up (chapters 3, 4)
  | rstNAssert (ns : Nat)
  | rstNRelease (bootsel : BitVec 2)
  | sinterDelivery (trim option : Option (List Word)) (security : Option (List (Word × Word)))
  | pllLock (lock : Lock)
  | trimReread (r : FuseRegion) (rows : Option (List Word))
  | slotAttempt (slot : Side) (dt : Nat) (readErr : Bool)
  | slotAttemptTimeout (slot : Side) (dt : Nat)
  | referencesSettled (dt : Nat)
  | phase3Timeout (dt : Nat)
  -- the tick (chapters 1, 2)
  | tickBoundary (temp : BitVec 16)
  | regionFreezeEnd (r : Fin 8)
  | captureTimeout (c : Side)
  | seqStart (i : Fin 64)
  | dmaBurst (i : Fin 64)
  | dmaBurstComplete (ch : Fin 24) (ecc : Ecc)
  | dacUpdate (i : Fin 64)
  | wireCheck (i : Fin 64) (meas : List WireMeas)
  | wireCheckFinish
  | filtEmit (i : Fin 64)
  | fabricStrobe (i : Fin 64)
  | fabricStrobeDone (r : Fin 8) (strobe : Fin 8)
  | geyserDrain (i : Fin 64)
  | drainComplete (q : Fin 16)
  | calRotate (i : Fin 64) (m : SliceMeas)
  | calRotateSwap (c : Side)
  | overbudget (i : Fin 64)
  | tickPulse (low : Bool)
  | tickEdge (dt : Nat) (marked : Bool)
  | guardExpiry
  | missedEdge
  | pllRestart
  | pllRelock
  -- programming, jobs, restart
  | fuseStep (verified : Bool)
  | sinterScanDone
  | regionLoadStep (r : Fin 8)
  | imageEraseDone
  | imageVerifyDone (readErr : Bool)
  | markerBlockErase (block : Bool)
  | restart (bootsel : BitVec 2)
  | wakeComplete (unit : Fin 64)
  | wakeFail (unit : Fin 64)
  | stateSkew (unit : Fin 64)
  | fumaLogTake
  -- analog front (chapter 8)
  | amtxSwitchClose
  | cellPowerUp (cell : Fin 16)
  | cellSettled (cell : Fin 16)
  | comparatorEdge (cell : Fin 16) (x : CellInputs)
  | acellSat (cell : Fin 16) (x : CellInputs)
  | shHold (cell : Fin 16) (source : Fin 25)
  | shTrackReturn (cell : Fin 16)
  | cellDozePowerUp (cell : Fin 16)
  | dacCompliance (ch : Fin 8) (out : Bool)
  | dacPortWrite (ch : Fin 8) (dt : Nat) (code : BitVec 16)
  | dacHeldLatch (ch : Fin 8)
  | dacOutputResume (ch : Fin 8)
  -- wire faults (chapter 9)
  | wireClamp (pin : Fin 24) (high : Bool)
  | clampRelease (pin : Fin 24)
  | clampSwitchReturn (pin : Fin 24)
  -- converters (chapter 10)
  | coldStep (c : Side) (terms : Terms) (resid : Nat)
  | coldSpareSwap (c : Side)
  | convCalTimeout (c : Side)
  -- sequences (chapter 11)
  | ttPulse (k : Fin 8)
  | fevEdge (n : Fin 16) (rising : Bool)
  | triggerReady (c : Side)
  | resultWordDelivery (c : Side) (dt : Nat) (clsA : Bool) (smp : Sample)
  | ringWrite (uncorr : Bool)
  | filtOutput (f : Fin 8)
  | captureWord (c : Side)
  -- fabric (chapter 13)
  | fabScrubFix (r : Fin 8) (cluster : Fin 128)
  | fabConfigUpset (r : Fin 8) (cluster : Fin 128)
  | fabExtClockLost (line : Fin 6)
  | fabPortInputWord (r : Fin 8) (kind : StreamPort) (n : Fin 8) (dt : Nat)
  | fabricSramRequest (port : Fin 8) (addr : Word) (wr : Option (BitVec 64)) (answer : BankAnswer)
  | dmaStreamWord (ch : Fin 4) (w : Word) (busy : Bool)
  | uartFabricWrite (u : Fin 4) (b : Byte)
  | uartFabricHandoff (u : Fin 4) (dt : Nat)
  | rngTake
  -- random numbers (chapter 14)
  | rngHealthFail (before window : List (List Bool))
  | rngRetestEnd (sources : List (List Bool))
  | rngRecovered (seed : Blocks)
  | drbgReseed (seed : Blocks)
  -- memory (chapter 16)
  | sramScrubStep (single : Bool)
  | sramEccUncorr (addr : Word)
  | geyserBackgroundDrain (q : Fin 16)
  | dmaAutoBurst (ch : Fin 24)
  | xspiPattern (ok : Bool)
  -- serial ports (chapter 17)
  | uartStartBit (u : Fin 4) (edges : List Nat)
  | uartCharComplete (u : Fin 4) (edges : List Nat)
  | xoffSend (u : Fin 4)
  | uartRxIdle (u : Fin 4)
  | uartTxChar (u : Fin 4)
  | uartTxContend (u : Fin 4)
  | uartAutobaud (u : Fin 4) (stamps : List Nat) (stopHigh : Bool)
  | autobaudAbandon (u : Fin 4) (brk : Bool)
  | linBreak (u : Fin 4)
  | linResponseTimeout (u : Fin 4)
  | linPublishResponse (u : Fin 4) (readBack : List Byte)
  | linHeader (u : Fin 4) (readBackOk : Bool)
  -- PLL and test access (chapters 18, 19)
  | pwrPllUnlock
  | pwrPllRelock (dt : Nat)
  | tapReset (trst : Bool)
  | extest
  | idcode
  | samplePreload (sample : BitVec 164) (preload : BitVec 164)
  | clamp
  | highz
  | bypass
  | privateDebug (code : BitVec 8)
  | imageWriteDone
  | drbgGenerate
  | powerUp (d : Domain)
  deriving DecidableEq, Repr

end Sys2Proof
end

