-- ==== Sys2Proof/Machine/Crypto.lean ====
section
/-! DEFINITION. The checks and ciphers the spec names: CRC-16 (R169) and CRC-32C (R224), written from the spec's own
text; SHA-256, ECDSA P-256 verification and CTR_DRBG with AES-256, PRESUMED from the standards the spec cites
(FIPS 180-4, FIPS 186-5, FIPS 197, SP 800-90A; log 11). -/

namespace Sys2Proof.Machine

/-! ### CRCs -/

/-- One bit of CRC-16: polynomial 0x1021, most significant bit first (R169). -/
def crc16Bit (c : BitVec 16) : BitVec 16 := if c.getLsbD 15 then (c <<< 1) ^^^ 0x1021#16 else c <<< 1

/-- CRC-16 over bytes, initial value 0xFFFF, no final XOR (R169). -/
def crc16 (bs : List Byte) : BitVec 16 :=
  bs.foldl (fun c b => (List.range 8).foldl (fun c _ => crc16Bit c) (c ^^^ BitVec.shiftLeft (b.setWidth 16) 8)) 0xFFFF#16

/-- One bit of CRC-32C in its bit-reversed form (R224). -/
def crc32cBit (c : Word) : Word := if c.getLsbD 0 then (c >>> 1) ^^^ 0x82F63B78#32 else c >>> 1

/-- The register after one more byte (R225). -/
def crc32cByte (c : Word) (b : Byte) : Word := (List.range 8).foldl (fun c _ => crc32cBit c) (c ^^^ b.setWidth 32)

/-- CRC-32C over bytes (R224). -/
def crc32c (bs : List Byte) : Word := bs.foldl crc32cByte 0xFFFFFFFF#32 ^^^ 0xFFFFFFFF#32

/-! ### SHA-256 -/

/-- The round constants. -/
def shaK : List Word := [0x428A2F98, 0x71374491, 0xB5C0FBCF, 0xE9B5DBA5, 0x3956C25B, 0x59F111F1, 0x923F82A4, 0xAB1C5ED5] ++
  [0xD807AA98, 0x12835B01, 0x243185BE, 0x550C7DC3, 0x72BE5D74, 0x80DEB1FE, 0x9BDC06A7, 0xC19BF174] ++
  [0xE49B69C1, 0xEFBE4786, 0x0FC19DC6, 0x240CA1CC, 0x2DE92C6F, 0x4A7484AA, 0x5CB0A9DC, 0x76F988DA] ++
  [0x983E5152, 0xA831C66D, 0xB00327C8, 0xBF597FC7, 0xC6E00BF3, 0xD5A79147, 0x06CA6351, 0x14292967] ++
  [0x27B70A85, 0x2E1B2138, 0x4D2C6DFC, 0x53380D13, 0x650A7354, 0x766A0ABB, 0x81C2C92E, 0x92722C85] ++
  [0xA2BFE8A1, 0xA81A664B, 0xC24B8B70, 0xC76C51A3, 0xD192E819, 0xD6990624, 0xF40E3585, 0x106AA070] ++
  [0x19A4C116, 0x1E376C08, 0x2748774C, 0x34B0BCB5, 0x391C0CB3, 0x4ED8AA4A, 0x5B9CCA4F, 0x682E6FF3] ++
  [0x748F82EE, 0x78A5636F, 0x84C87814, 0x8CC70208, 0x90BEFFFA, 0xA4506CEB, 0xBEF9A3F7, 0xC67178F2]

/-- The initial hash value. -/
def shaH0 : List Word := [0x6A09E667, 0xBB67AE85, 0x3C6EF372, 0xA54FF53A, 0x510E527F, 0x9B05688C, 0x1F83D9AB, 0x5BE0CD19]

/-- The bytes of a number, most significant first. -/
def beBytes : Nat → Nat → List Byte
  | 0, _ => []
  | n + 1, v => BitVec.ofNat 8 (v / 256 ^ n) :: beBytes n v

/-- The number that bytes spell, most significant first. -/
def beNat (bs : List Byte) : Nat := bs.foldl (fun a b => a * 256 + b.toNat) 0

/-- Big-endian words of a byte list. -/
def beWords : List Byte → List Word
  | a :: b :: c :: d :: r => Word.ofBytes d c b a :: beWords r
  | _ => []

/-- Padding of a message of `bs.length` bytes to whole 64-byte blocks. -/
def shaPad (bs : List Byte) : List Byte :=
  bs ++ [0x80] ++ List.replicate ((119 - bs.length % 64) % 64) 0 ++ beBytes 8 (bs.length * 8)

/-- One word of the message schedule from the sixteen before it (newest first). -/
def shaNext (w : List Word) : Word :=
  let x := w.getD 14 0
  let y := w.getD 1 0
  w.getD 15 0 + (x.rotateRight 7 ^^^ x.rotateRight 18 ^^^ (x >>> 3)) + w.getD 6 0 +
    (y.rotateRight 17 ^^^ y.rotateRight 19 ^^^ (y >>> 10))

/-- The schedule, newest first, extended `n` times. -/
def shaExtend : Nat → List Word → List Word
  | 0, w => w
  | n + 1, w => shaExtend n (shaNext w :: w)

/-- One round on the eight working variables. -/
def shaRound (v : List Word) (kw : Word × Word) : List Word :=
  match v with
  | [a, b, c, d, e, f, g, h] =>
    let t1 := h + (e.rotateRight 6 ^^^ e.rotateRight 11 ^^^ e.rotateRight 25) + ((e &&& f) ^^^ (~~~e &&& g)) +
      kw.1 + kw.2
    let t2 := (a.rotateRight 2 ^^^ a.rotateRight 13 ^^^ a.rotateRight 22) + ((a &&& b) ^^^ (a &&& c) ^^^ (b &&& c))
    [t1 + t2, a, b, c, d + t1, e, f, g]
  | v => v

/-- The hash value after one block of sixteen words. -/
def shaBlock (h blk : List Word) : List Word :=
  let w := (shaExtend 48 blk.reverse).reverse
  List.zipWith (· + ·) h ((List.zip shaK w).foldl shaRound h)

/-- The hash value after `n` blocks. -/
def shaBlocks : Nat → List Word → List Word → List Word
  | 0, h, _ => h
  | n + 1, h, ws => shaBlocks n (shaBlock h (ws.take 16)) (ws.drop 16)

/-- SHA-256 of a byte list: 32 bytes. -/
def sha256 (bs : List Byte) : List Byte :=
  let ws := beWords (shaPad bs)
  (shaBlocks (ws.length / 16) shaH0 ws).flatMap fun w => beBytes 4 w.toNat

/-! ### ECDSA on P-256 -/

def p256P : Nat := 0xFFFFFFFF00000001000000000000000000000000FFFFFFFFFFFFFFFFFFFFFFFF
def p256N : Nat := 0xFFFFFFFF00000000FFFFFFFFFFFFFFFFBCE6FAADA7179E84F3B9CAC2FC632551
def p256B : Nat := 0x5AC635D8AA3A93E7B3EBBD55769886BC651D06B0CC53B0F63BCE3C3E27D2604B
def p256Gx : Nat := 0x6B17D1F2E12C4247F8BCE6E563A440F277037D812DEB33A0F4A13945D898C296
def p256Gy : Nat := 0x4FE342E2FE1A7F9B8EE7EB4A7C0F9E162BCE33576B315ECECBB6406837BF51F5

/-- `b ^ e` modulo `m`, over the low `fuel` bits of `e`. -/
def powMod (m : Nat) : Nat → Nat → Nat → Nat
  | 0, _, _ => 1
  | f + 1, b, e => (if e % 2 = 1 then b else 1) * powMod m f (b * b % m) (e / 2) % m

/-- The inverse modulo a prime. -/
def invMod (m a : Nat) : Nat := powMod m 256 (a % m) (m - 2)

/-- A point in Jacobian coordinates; Z = 0 is the point at infinity. -/
abbrev Jac := Nat × Nat × Nat

/-- The difference modulo P-256's prime. -/
def subP (a b : Nat) : Nat := (a + (p256P - b % p256P)) % p256P

/-- Doubling on P-256 (a = -3). -/
def jacDouble (q : Jac) : Jac :=
  let (x, y, z) := q
  let zz := z * z % p256P
  let yy := y * y % p256P
  let s := 4 * x * yy % p256P
  let m := 3 * subP x zz * (x + zz) % p256P
  let x' := subP (m * m % p256P) (2 * s)
  (x', subP (m * subP s x' % p256P) (8 * yy * yy), 2 * y * z % p256P)

/-- Addition on P-256. -/
def jacAdd (q r : Jac) : Jac :=
  let (x1, y1, z1) := q
  let (x2, y2, z2) := r
  if z1 = 0 then r else if z2 = 0 then q else
  let a := z1 * z1 % p256P
  let b := z2 * z2 % p256P
  let u1 := x1 * b % p256P
  let u2 := x2 * a % p256P
  let s1 := y1 * b * z2 % p256P
  let s2 := y2 * a * z1 % p256P
  let h := subP u2 u1
  let d := subP s2 s1
  if h = 0 then (if d = 0 then jacDouble q else (1, 1, 0)) else
  let hh := h * h % p256P
  let hhh := h * hh % p256P
  let v := u1 * hh % p256P
  let x3 := subP (subP (d * d % p256P) hhh) (2 * v)
  (x3, subP (d * subP v x3 % p256P) (s1 * hhh), h * z1 * z2 % p256P)

/-- The multiple of a point by the low `fuel` bits of a number. -/
def jacMul : Nat → Nat → Jac → Jac
  | 0, _, _ => (1, 1, 0)
  | f + 1, k, q => jacAdd (if k % 2 = 1 then q else (1, 1, 0)) (jacMul f (k / 2) (jacDouble q))

/-- The signature r, s over a message verifies with a public key of 64 bytes, X then Y, each most significant byte
first (R652, R663). -/
def ecdsaVerify (key msg r s : List Byte) : Bool :=
  let x := beNat (key.take 32)
  let y := beNat (key.drop 32)
  let rn := beNat r
  let sn := beNat s
  let onCurve := decide (x < p256P ∧ y < p256P ∧ (y * y) % p256P = (x * x * x + (p256P - 3) * x + p256B) % p256P)
  let inRange := decide (0 < rn ∧ rn < p256N ∧ 0 < sn ∧ sn < p256N)
  let w := invMod p256N sn
  let e := beNat (sha256 msg)
  let (px, _, pz) := jacAdd (jacMul 256 (e * w % p256N) (p256Gx, p256Gy, 1)) (jacMul 256 (rn * w % p256N) (x, y, 1))
  let zi := invMod p256P pz
  onCurve && inRange && decide (pz ≠ 0 ∧ px * zi % p256P * zi % p256P % p256N = rn)

/-! ### AES-256 and CTR_DRBG -/

/-- The AES substitution box. -/
def aesSbox : List Nat := [0x63, 0x7C, 0x77, 0x7B, 0xF2, 0x6B, 0x6F, 0xC5, 0x30, 0x01, 0x67, 0x2B, 0xFE, 0xD7, 0xAB, 0x76] ++
  [0xCA, 0x82, 0xC9, 0x7D, 0xFA, 0x59, 0x47, 0xF0, 0xAD, 0xD4, 0xA2, 0xAF, 0x9C, 0xA4, 0x72, 0xC0] ++
  [0xB7, 0xFD, 0x93, 0x26, 0x36, 0x3F, 0xF7, 0xCC, 0x34, 0xA5, 0xE5, 0xF1, 0x71, 0xD8, 0x31, 0x15] ++
  [0x04, 0xC7, 0x23, 0xC3, 0x18, 0x96, 0x05, 0x9A, 0x07, 0x12, 0x80, 0xE2, 0xEB, 0x27, 0xB2, 0x75] ++
  [0x09, 0x83, 0x2C, 0x1A, 0x1B, 0x6E, 0x5A, 0xA0, 0x52, 0x3B, 0xD6, 0xB3, 0x29, 0xE3, 0x2F, 0x84] ++
  [0x53, 0xD1, 0x00, 0xED, 0x20, 0xFC, 0xB1, 0x5B, 0x6A, 0xCB, 0xBE, 0x39, 0x4A, 0x4C, 0x58, 0xCF] ++
  [0xD0, 0xEF, 0xAA, 0xFB, 0x43, 0x4D, 0x33, 0x85, 0x45, 0xF9, 0x02, 0x7F, 0x50, 0x3C, 0x9F, 0xA8] ++
  [0x51, 0xA3, 0x40, 0x8F, 0x92, 0x9D, 0x38, 0xF5, 0xBC, 0xB6, 0xDA, 0x21, 0x10, 0xFF, 0xF3, 0xD2] ++
  [0xCD, 0x0C, 0x13, 0xEC, 0x5F, 0x97, 0x44, 0x17, 0xC4, 0xA7, 0x7E, 0x3D, 0x64, 0x5D, 0x19, 0x73] ++
  [0x60, 0x81, 0x4F, 0xDC, 0x22, 0x2A, 0x90, 0x88, 0x46, 0xEE, 0xB8, 0x14, 0xDE, 0x5E, 0x0B, 0xDB] ++
  [0xE0, 0x32, 0x3A, 0x0A, 0x49, 0x06, 0x24, 0x5C, 0xC2, 0xD3, 0xAC, 0x62, 0x91, 0x95, 0xE4, 0x79] ++
  [0xE7, 0xC8, 0x37, 0x6D, 0x8D, 0xD5, 0x4E, 0xA9, 0x6C, 0x56, 0xF4, 0xEA, 0x65, 0x7A, 0xAE, 0x08] ++
  [0xBA, 0x78, 0x25, 0x2E, 0x1C, 0xA6, 0xB4, 0xC6, 0xE8, 0xDD, 0x74, 0x1F, 0x4B, 0xBD, 0x8B, 0x8A] ++
  [0x70, 0x3E, 0xB5, 0x66, 0x48, 0x03, 0xF6, 0x0E, 0x61, 0x35, 0x57, 0xB9, 0x86, 0xC1, 0x1D, 0x9E] ++
  [0xE1, 0xF8, 0x98, 0x11, 0x69, 0xD9, 0x8E, 0x94, 0x9B, 0x1E, 0x87, 0xE9, 0xCE, 0x55, 0x28, 0xDF] ++
  [0x8C, 0xA1, 0x89, 0x0D, 0xBF, 0xE6, 0x42, 0x68, 0x41, 0x99, 0x2D, 0x0F, 0xB0, 0x54, 0xBB, 0x16]

/-- The substitution of a byte. -/
def aesSub (b : Byte) : Byte := BitVec.ofNat 8 (aesSbox.getD b.toNat 0)

/-- Multiplication by x in the AES field. -/
def aesX (b : Byte) : Byte := if b.getLsbD 7 then (b <<< 1) ^^^ 0x1B#8 else b <<< 1

/-- One more word of the key schedule; `i` is its index, `w` the words before it, newest first. -/
def aesKeyWord (i : Nat) (rcon : Byte) (w : List (List Byte)) : List Byte :=
  let p := w.getD 0 []
  let q := w.getD 7 []
  let t := if i % 8 = 0 then
      match (p.drop 1 ++ p.take 1).map aesSub with
      | a :: r => (a ^^^ rcon) :: r
      | [] => []
    else if i % 8 = 4 then p.map aesSub else p
  List.zipWith (· ^^^ ·) q t

/-- The key schedule from word `i` on, newest first. -/
def aesSchedule : Nat → Nat → Byte → List (List Byte) → List (List Byte)
  | 0, _, _, w => w
  | n + 1, i, rc, w => aesSchedule n (i + 1) (if i % 8 = 0 then aesX rc else rc) (aesKeyWord i rc w :: w)

/-- A byte list cut into rows of four. -/
def chunk4 : List Byte → List (List Byte)
  | a :: b :: c :: d :: r => [a, b, c, d] :: chunk4 r
  | _ => []

/-- The sixty words of the AES-256 key schedule. -/
def aesKeys (key : List Byte) : List (List Byte) := (aesSchedule 52 8 1 (chunk4 key).reverse).reverse

/-- Rows shifted in a state of sixteen bytes, column by column. -/
def aesShift (b : List Byte) : List Byte :=
  [0, 5, 10, 15, 4, 9, 14, 3, 8, 13, 2, 7, 12, 1, 6, 11].map fun i => b.getD i 0

/-- The columns mixed. -/
def aesMix : List Byte → List Byte
  | a :: b :: c :: d :: r =>
    let t := a ^^^ b ^^^ c ^^^ d
    (a ^^^ t ^^^ aesX (a ^^^ b)) :: (b ^^^ t ^^^ aesX (b ^^^ c)) :: (c ^^^ t ^^^ aesX (c ^^^ d)) ::
      (d ^^^ t ^^^ aesX (d ^^^ a)) :: aesMix r
  | _ => []

/-- The round key of round `i`. -/
def aesRoundKey (ks : List (List Byte)) (i : Nat) : List Byte := ((ks.drop (4 * i)).take 4).flatten

/-- Rounds `i` to 13. -/
def aesRounds (ks : List (List Byte)) : Nat → Nat → List Byte → List Byte
  | 0, _, b => b
  | n + 1, i, b =>
    aesRounds ks n (i + 1) (List.zipWith (· ^^^ ·) (aesMix (aesShift (b.map aesSub))) (aesRoundKey ks i))

/-- AES-256 encryption of one block of sixteen bytes. -/
def aes256 (key blk : List Byte) : List Byte :=
  let ks := aesKeys key
  let b := aesRounds ks 13 1 (List.zipWith (· ^^^ ·) blk (aesRoundKey ks 0))
  List.zipWith (· ^^^ ·) (aesShift (b.map aesSub)) (aesRoundKey ks 14)

/-- `n` blocks of output and V afterwards: V counts up before each block. -/
def ctrBlocks (key : BitVec 256) : Nat → BitVec 128 → List Byte × BitVec 128
  | 0, v => ([], v)
  | n + 1, v =>
    let v' := v + 1
    let (r, v'') := ctrBlocks key n v'
    (aes256 (beBytes 32 key.toNat) (beBytes 16 v'.toNat) ++ r, v'')

/-- The CTR_DRBG update with provided data: the new key and V. -/
def ctrUpdate (data : BitVec 384) (key : BitVec 256) (v : BitVec 128) : BitVec 256 × BitVec 128 :=
  let x := beNat (ctrBlocks key 3 v).1 ^^^ data.toNat
  (BitVec.ofNat 256 (x / 2 ^ 128), BitVec.ofNat 128 x)

/-- One generate call of 64 bytes (R669): the bytes, and key and V afterwards. -/
def ctrGenerate (key : BitVec 256) (v : BitVec 128) : List Byte × BitVec 256 × BitVec 128 :=
  let (out, v') := ctrBlocks key 4 v
  let (k2, v2) := ctrUpdate 0 key v'
  (out, k2, v2)

end Sys2Proof.Machine
end

