-- ==== Sys2Proof/Config.lean ====
section
/-! DEFINITION. What an implementation fixes, and the free values: constants with no body for what the spec leaves
open (logs 3, 8, 9, 10). -/

namespace Sys2Proof

/-- A source that a fabric cell input can take through the crossbar (R611): a cell's combinational or flip-flop
output, a bit of a MAC slice's P or its OVF, an input port bit, or a constant. -/
inductive Net
  | comb (cell : Nat)
  | ff (cell : Nat)
  | macP (slice bit : Nat)
  | macOvf (slice : Nat)
  | port (n : Nat)
  | lit (b : Bool)
  deriving DecidableEq, Repr, Inhabited

/-- The configuration of one fabric cell (R599, R600, R602, R604). `kind` is 0 for a logic cell, 1 for RAM mode,
2 for an M-cell. The clock is a line 0 to 5, or 6 for a crossbar wire (R620). -/
structure CellCfg where
  cell  : Nat
  kind  : Nat
  init  : BitVec 16
  ins   : List Net
  wd    : Net
  we    : Net
  clk   : Nat
  ce    : Option Net
  rst   : Bool
  iv    : Bool
  deriving DecidableEq, Repr, Inhabited

/-- The configuration of one MAC slice (R607 to R610). -/
structure MacCfg where
  slice : Nat
  mode  : Nat
  sat   : Bool
  clk   : Nat
  a     : List Net
  b     : List Net
  ce    : Net
  load  : Net
  deriving DecidableEq, Repr, Inhabited

/-- What a region image's body holds (Table IMG-5, R626 to R636): ownership masks in the layout of Table FAB-7, the
class A paths as (FIO pin, clock lines), the strobe durations, the SRAM windows as (port, base, size), the classes of the
SRAM ports (R730), the pins used as outputs as (FIO pin, OUT, OE) (R631), the park states
of the pins (none: high impedance) and the park values of the receiving-side signals, the initial levels of the FEV lines, the stream
ports read with the line of their synchroniser, the line of the strobes, cells and slices. -/
structure RegionBody where
  ownPorts : Nat
  ownFev   : Nat
  ownFio   : Nat
  aPaths   : List (Nat × List Nat)
  strobes  : List (Nat × Nat)
  windows  : List (Nat × Nat × Nat)
  sramCls  : List (Nat × Nat)
  fioOut   : List (Nat × Net × Net)
  fioPark  : List (Nat × Bool)
  fevInit  : Nat
  park     : List (Net × Bool)
  strobeClk : Nat
  reads    : List (Nat × Nat)
  cells    : List CellCfg
  macs     : List MacCfg
  deriving DecidableEq, Repr, Inhabited

/-- Where the BSDL file, which the spec does not contain, puts the output cell and the control cell of a ball in the boundary
register, and the value of the control cell that enables the output (R866). A free value: log 10. -/
opaque Config.bsdl : Nat → Nat × Nat × Bool

/-- The stepping code of the device, C0 (Table BOOT-4, Table BOOT-6). -/
def Config.stepping : Nat := 0x30

/-- The meaning of a region image's body bytes, whose encoding the spec does not give (Table IMG-5 names only its
content). A free value: log 8. -/
opaque Config.regionBody : List Byte → RegionBody

/-- Whether a fuse copy whose pulse RST_N cut short reads 1 afterwards (R209). A free value: log 3. -/
opaque Config.cutCopy : Nat → Bool

/-- How many words of a burst a boundary has cut were already written (Table TICK-3). A free value: log 3. -/
opaque Config.cutWords : Nat → Nat

/-- Whether a step of an image job is in progress at a boundary: R43 binds each step to one tick and no rule gives its length.
A free value: log 23. -/
opaque Config.imageStepCut : Nat → Bool

/-- A byte that a read delivers with an uncorrectable error or a wrong data strobe (R735, R752). A free value: log 3. -/
opaque Config.freeByte : Nat → Byte

/-- The 384 bits of seed that are taken from the 64 bytes of two conditioned blocks (R669). A free value: log 70. -/
opaque Config.seedBits : List Byte → BitVec 384

/-- The fractional bits, beyond the four of R558, with which a chain's stages compute. A free value: log 9. -/
opaque Config.chainExtraBits : Nat

/-- Whether a chain stage rounds an inexact quotient up (R558 fixes only the final rounding). A free value: log 9. -/
opaque Config.chainRoundUp : Int → Int → Bool

/-- A level in the fabric that the spec or the model's commands do not give, at a step of 0.5 ns: what a clock from a pin
or a wire has captured, a level of the outside, a loop. A free value: log 28. -/
opaque Config.asyncBit : Nat → Net → Bool

/-- The content of such a RAM cell, by its number, or the registers of such a slice, by 4096 plus its number. A free value:
log 28. -/
opaque Config.asyncWord : Nat → Nat → Nat

/-- Of the first rising edge of a clock line from a pin at or after a step: how many steps later it comes, and the length
in steps, less one, of the cycle of the line that ends there. A free value: log 28. -/
opaque Config.pinEdge : Nat → Nat → Nat × Nat

/-- How many steps after the relock a fabric clock line has its first edge (R640). A free value: log 28. -/
opaque Config.lineRestart : Nat → Nat → Nat


end Sys2Proof
end

