-- ==== Sys2Proof/Machine/Operands.lean ====
section
/-! DEFINITION. The operand forms of parameter access: the parameter tables of every chapter, which row a parameter
ID names, and the key of a parameter in the register file (R4, R5, R16, R17, R377). -/

namespace Sys2Proof.Machine

/-- Access (R16): read only, read and write, write-1-to-clear bits beside read-only ones, write only. -/
inductive Access
  | ro | rw | w1c | wo
  deriving DecidableEq, Repr

/-- When a written value takes effect (R17). -/
inductive Effect
  | tick | now | stopped | boot
  deriving DecidableEq, Repr

/-- One row of a parameter table: first index, number of consecutive indices, bits, At-reset value, access, when a
write takes effect. -/
structure ParamRow where
  idx   : Nat
  count : Nat
  width : Nat
  init  : Nat
  acc   : Access
  eff   : Effect
  deriving DecidableEq, Repr

/-- The parameters of Table(s) of SYS: index, count, bits, At reset, access, takes effect. -/
def sysParams : List ParamRow := [
  ⟨0x00, 1, 3, 0x0, .ro, .now⟩, -- SYS.STATE
  ⟨0x01, 1, 3, 0x1, .ro, .now⟩, -- SYS.PHASE
  ⟨0x02, 1, 2, 0x0, .ro, .now⟩, -- SYS.BOOT_CAUSE
  ⟨0x03, 1, 2, 0x0, .ro, .now⟩, -- SYS.BOOTSEL
  ⟨0x04, 1, 16, 0x0, .ro, .now⟩, -- SYS.SLOT
  ⟨0x05, 1, 6, 0x0, .ro, .now⟩, -- SYS.BOOT_FLAGS
  ⟨0x06, 1, 16, 0x0, .ro, .now⟩, -- SYS.T_PHASE1
  ⟨0x07, 1, 32, 0x0, .ro, .now⟩, -- SYS.T_PHASE2
  ⟨0x08, 1, 32, 0x0, .ro, .now⟩, -- SYS.T_PHASE3
  ⟨0x09, 1, 24, 0x300480, .ro, .now⟩, -- SYS.DEVICE_ID
  ⟨0x0A, 4, 32, 0x0, .ro, .now⟩, -- SYS.UID0–SYS.UID3
  ⟨0x0E, 1, 16, 0x0, .ro, .now⟩, -- SYS.TEMP
  ⟨0x10, 1, 2, 0x3, .ro, .now⟩, -- SYS.IMG_TARGET
  ⟨0x11, 1, 24, 0x0, .ro, .now⟩, -- SYS.IMG_WPTR
  ⟨0x12, 1, 24, 0x0, .ro, .now⟩, -- SYS.IMG_LEN
  ⟨0x13, 1, 5, 0x0, .ro, .now⟩, -- SYS.STAGING
  ⟨0x14, 1, 32, 0x0, .ro, .now⟩, -- SYS.MARKER_SEQ
  ⟨0x15, 1, 13, 0x0, .ro, .now⟩, -- SYS.MARKER_FREE
  ⟨0x16, 1, 16, 0x730, .rw, .now⟩, -- SYS.TEMP_HI
  ⟨0x17, 1, 16, 0x8000, .ro, .now⟩, -- SYS.TEMP_PEAK
  ⟨0x18, 1, 4, 0x0, .w1c, .now⟩, -- SYS.PWR_STATUS
  ⟨0x19, 1, 32, 0x0, .ro, .now⟩, -- SYS.PLL_UNLOCKS
  ⟨0x1A, 1, 6, 0x0, .ro, .now⟩] -- SYS.REF_MHZ

/-- The parameters of Table(s) of TICK: index, count, bits, At reset, access, takes effect. -/
def tickParams : List ParamRow := [
  ⟨0x00, 1, 23, 0xC350, .rw, .tick⟩, -- TICK.PERIOD
  ⟨0x01, 1, 1, 0x0, .rw, .tick⟩, -- TICK.SOURCE
  ⟨0x02, 1, 32, 0x0, .ro, .now⟩, -- TICK.COUNT_LO
  ⟨0x03, 1, 16, 0x0, .ro, .now⟩, -- TICK.COUNT_HI
  ⟨0x04, 1, 7, 0x0, .ro, .now⟩, -- TICK.PLAN_ITEMS
  ⟨0x05, 1, 32, 0x0, .ro, .now⟩, -- TICK.PLAN_ID
  ⟨0x06, 1, 32, 0x0, .ro, .now⟩, -- TICK.LATE_B
  ⟨0x07, 1, 32, 0x0, .ro, .now⟩, -- TICK.LATE_C
  ⟨0x08, 1, 32, 0x0, .ro, .now⟩, -- TICK.SKIP_ITEMS
  ⟨0x09, 1, 32, 0x0, .ro, .now⟩, -- TICK.OVERBUDGET
  ⟨0x0A, 1, 32, 0x0, .ro, .now⟩, -- TICK.DROPPED_TICKS
  ⟨0x0B, 1, 32, 0x0, .ro, .now⟩, -- TICK.A_MERGED
  ⟨0x0C, 1, 32, 0x0, .ro, .now⟩, -- TICK.MISFIT_LO
  ⟨0x0D, 1, 32, 0x0, .ro, .now⟩, -- TICK.MISFIT_HI
  ⟨0x0E, 1, 4, 0x0, .ro, .now⟩, -- TICK.A_HOLD
  ⟨0x0F, 1, 6, 0x0, .wo, .now⟩] -- TICK.CNT_CLR

/-- The parameters of Table(s) of TBUS: index, count, bits, At reset, access, takes effect. -/
def tbusParams : List ParamRow := [
  ⟨0x00, 1, 1, 0x0, .rw, .tick⟩, -- TBUS.ROLE
  ⟨0x01, 1, 12, 0x10, .rw, .tick⟩, -- TBUS.GUARD
  ⟨0x02, 1, 16, 0x400, .rw, .tick⟩, -- TBUS.SEARCH
  ⟨0x03, 1, 1, 0x0, .rw, .tick⟩, -- TBUS.REALIGN
  ⟨0x04, 1, 8, 0x10, .rw, .tick⟩, -- TBUS.SLEW_MAX
  ⟨0x05, 1, 8, 0x8, .rw, .tick⟩, -- TBUS.ABSENT_TICKS
  ⟨0x06, 1, 4, 0x0, .rw, .tick⟩, -- TBUS.DELAY_COMP
  ⟨0x07, 1, 1, 0x0, .rw, .tick⟩, -- TBUS.DOZE
  ⟨0x08, 1, 4, 0x0, .rw, .tick⟩, -- TBUS.WAKE_EXP
  ⟨0x09, 1, 7, 0x0, .w1c, .now⟩, -- TBUS.STATUS
  ⟨0x0A, 1, 8, 0x0, .ro, .now⟩, -- TBUS.COUNT_DELTA
  ⟨0x0B, 1, 32, 0x0, .ro, .now⟩, -- TBUS.SYNC_LOSSES
  ⟨0x0C, 1, 32, 0x0, .ro, .now⟩, -- TBUS.MISSED
  ⟨0x0D, 1, 32, 0x0, .ro, .now⟩, -- TBUS.DOZE_TICKS
  ⟨0x0E, 1, 32, 0x0, .ro, .now⟩] -- TBUS.DOZE_A

/-- The parameters of Table(s) of SINTER: index, count, bits, At reset, access, takes effect. -/
def sinterParams : List ParamRow := [
  ⟨0x00, 1, 6, 0x0, .ro, .now⟩, -- SINTER.REGION
  ⟨0x01, 1, 3, 0x0, .ro, .now⟩, -- SINTER.ALARM
  ⟨0x02, 1, 5, 0x0, .ro, .now⟩, -- SINTER.SEC_EFFECTIVE
  ⟨0x03, 1, 12, 0x0, .ro, .now⟩, -- SINTER.PAIR_SPLIT
  ⟨0x04, 1, 8, 0xFF, .ro, .now⟩, -- SINTER.SPLIT_FIRST
  ⟨0x05, 1, 1, 0x0, .wo, .now⟩, -- SINTER.SCAN
  ⟨0x06, 1, 1, 0x0, .rw, .now⟩, -- SINTER.PGM_SOURCE
  ⟨0x07, 1, 30, 0x0, .ro, .now⟩, -- SINTER.PROG_RESULT
  ⟨0x08, 1, 17, 0x0, .ro, .now⟩, -- SINTER.SECVER
  ⟨0x09, 1, 17, 0x0, .ro, .now⟩, -- SINTER.LIFECYCLE
  ⟨0x0A, 1, 17, 0x0, .ro, .now⟩, -- SINTER.USER0
  ⟨0x0B, 1, 17, 0x0, .ro, .now⟩] -- SINTER.USER1

/-- The parameters of Table(s) of SEC: index, count, bits, At reset, access, takes effect. -/
def secParams : List ParamRow := [
  ⟨0x00, 1, 3, 0x0, .ro, .now⟩, -- SEC.LIFECYCLE
  ⟨0x01, 1, 3, 0x0, .ro, .now⟩, -- SEC.ACCESS
  ⟨0x02, 1, 4, 0x0, .ro, .now⟩, -- SEC.UNLOCK
  ⟨0x03, 1, 1, 0x0, .wo, .now⟩, -- SEC.RELOCK
  ⟨0x04, 1, 32, 0x0, .ro, .now⟩, -- SEC.UNLOCK_FAILS
  ⟨0x05, 1, 2, 0x3, .ro, .now⟩] -- SEC.BOOT_KEY

/-- The parameters of Table(s) of RNG: index, count, bits, At reset, access, takes effect. -/
def rngParams : List ParamRow := [
  ⟨0x00, 1, 1, 0x1, .rw, .tick⟩, -- RNG.ENABLE
  ⟨0x01, 1, 3, 0x0, .w1c, .now⟩, -- RNG.STATUS
  ⟨0x02, 1, 2, 0x0, .ro, .now⟩, -- RNG.RETRIES
  ⟨0x03, 1, 4, 0x0, .ro, .now⟩, -- RNG.LAST_FAIL
  ⟨0x04, 1, 32, 0x0, .ro, .now⟩, -- RNG.RCT_FAILS
  ⟨0x05, 1, 32, 0x0, .ro, .now⟩, -- RNG.APT_FAILS
  ⟨0x06, 1, 32, 0x0, .ro, .now⟩, -- RNG.RESEEDS
  ⟨0x07, 1, 32, 0x0, .ro, .now⟩] -- RNG.BYTES

/-- The parameters of Table(s) of FUMA: index, count, bits, At reset, access, takes effect. -/
def fumaParams : List ParamRow := [
  ⟨0x00, 1, 10, 0x0, .ro, .now⟩, -- FUMA.HELD
  ⟨0x01, 1, 32, 0x0, .ro, .now⟩, -- FUMA.NEXT_NUM
  ⟨0x02, 1, 32, 0x0, .ro, .now⟩, -- FUMA.OVERWRITES
  ⟨0x03, 1, 32, 0x0, .ro, .now⟩, -- FUMA.LOST
  ⟨0x04, 1, 4, 0xC, .rw, .now⟩, -- FUMA.ALERT_MASK
  ⟨0x05, 1, 4, 0x0, .w1c, .now⟩, -- FUMA.ALERT_LATCH
  ⟨0x06, 1, 2, 0x0, .ro, .now⟩] -- FUMA.ALERT_FIXED

/-- The parameters of Table(s) of CONV: index, count, bits, At reset, access, takes effect. -/
def convParams : List ParamRow := [
  ⟨0x00, 1, 1, 0x0, .rw, .tick⟩, -- CONV.ENABLE
  ⟨0x01, 1, 2, 0x0, .rw, .stopped⟩, -- CONV.MODE
  ⟨0x02, 1, 16, 0x190, .rw, .stopped⟩, -- CONV.TRICKLE_DIV
  ⟨0x03, 1, 8, 0x1, .rw, .tick⟩, -- CONV.ROT_TICKS
  ⟨0x04, 1, 12, 0x8, .rw, .tick⟩, -- CONV.RESID_WARN
  ⟨0x05, 1, 12, 0x40, .rw, .tick⟩, -- CONV.RESID_FAIL
  ⟨0x06, 1, 6, 0x0, .w1c, .now⟩, -- CONV.STATUS
  ⟨0x07, 1, 15, 0x4688, .ro, .now⟩, -- CONV.SLICE_MAP
  ⟨0x08, 1, 5, 0x0, .ro, .now⟩, -- CONV.RETIRED
  ⟨0x09, 1, 5, 0x0, .ro, .now⟩, -- CONV.SUSPECT
  ⟨0x0A, 1, 32, 0x0, .ro, .now⟩, -- CONV.ROT_COUNT
  ⟨0x0B, 1, 32, 0x0, .ro, .now⟩, -- CONV.OVR_COUNT
  ⟨0x0C, 1, 32, 0x0, .ro, .now⟩, -- CONV.CAL_TIME
  ⟨0x10, 5, 32, 0x0, .ro, .now⟩, -- CONV.TERM_OG0–CONV.TERM_OG4
  ⟨0x18, 5, 28, 0x0, .ro, .now⟩] -- CONV.TERM_T0–CONV.TERM_T4

/-- The parameters of Table(s) of SEQ: index, count, bits, At reset, access, takes effect. -/
def seqParams : List ParamRow := [
  ⟨0x00, 1, 1, 0x0, .rw, .tick⟩, -- SEQ.ENABLE
  ⟨0x01, 1, 16, 0x0, .rw, .tick⟩, -- SEQ.PLAN_DELAY
  ⟨0x02, 1, 16, 0x0, .rw, .tick⟩, -- SEQ.SW_DELAY
  ⟨0x03, 1, 8, 0x0, .ro, .now⟩, -- SEQ.STATUS
  ⟨0x04, 1, 32, 0x0, .ro, .now⟩, -- SEQ.TRIG_BUSY
  ⟨0x05, 1, 32, 0x0, .ro, .now⟩, -- SEQ.TRIG_IGNORED
  ⟨0x06, 1, 32, 0x0, .ro, .now⟩, -- SEQ.PREEMPTS
  ⟨0x07, 1, 32, 0x0, .ro, .now⟩, -- SEQ.A_RUNS
  ⟨0x08, 1, 32, 0x0, .ro, .now⟩, -- SEQ.ABANDONED
  ⟨0x10, 8, 21, 0x0, .rw, .tick⟩, -- SEQ.TSLOT0–SEQ.TSLOT7
  ⟨0x18, 8, 16, 0x0, .rw, .tick⟩, -- SEQ.TDELAY0–SEQ.TDELAY7
  ⟨0x20, 32, 28, 0x0, .rw, .tick⟩, -- SEQ.ENTRY0–SEQ.ENTRY31
  ⟨0x40, 4, 23, 0x80, .rw, .tick⟩, -- SEQ.TT_OFFSET0–SEQ.TT_OFFSET3
  ⟨0x44, 4, 23, 0x0, .rw, .tick⟩, -- SEQ.TT_PERIOD0–SEQ.TT_PERIOD3
  ⟨0x48, 1, 4, 0x0, .rw, .tick⟩, -- SEQ.TT_ENABLE
  ⟨0x50, 8, 32, 0x0, .rw, .tick⟩, -- SEQ.RING_BASE0–SEQ.RING_BASE7
  ⟨0x58, 8, 24, 0xA, .rw, .tick⟩, -- SEQ.RING_CFG0–SEQ.RING_CFG7
  ⟨0x60, 8, 22, 0x0, .ro, .now⟩, -- SEQ.RING_WR0–SEQ.RING_WR7
  ⟨0x68, 8, 22, 0x0, .rw, .now⟩, -- SEQ.RING_RD0–SEQ.RING_RD7
  ⟨0x70, 8, 3, 0x0, .w1c, .now⟩, -- SEQ.RING_STAT0–SEQ.RING_STAT7
  ⟨0x78, 8, 32, 0x0, .ro, .now⟩, -- SEQ.RING_WRAPS0–SEQ.RING_WRAPS7
  ⟨0x80, 8, 32, 0x0, .ro, .now⟩] -- SEQ.RING_DROPS0–SEQ.RING_DROPS7

/-- The parameters of Table(s) of FILT: index, count, bits, At reset, access, takes effect. -/
def filtParams : List ParamRow := [
  ⟨0x00, 1, 1, 0x0, .rw, .tick⟩, -- FILT.ENABLE
  ⟨0x01, 1, 11, 0x0, .rw, .tick⟩, -- FILT.INPUT
  ⟨0x02, 1, 7, 0x32, .rw, .tick⟩, -- FILT.IN_MAX
  ⟨0x03, 1, 1, 0x0, .rw, .stopped⟩, -- FILT.AMODE
  ⟨0x04, 1, 5, 0x0, .rw, .tick⟩, -- FILT.DCB_K
  ⟨0x05, 1, 1, 0x0, .rw, .tick⟩, -- FILT.DCB_FREEZE
  ⟨0x06, 1, 26, 0x0, .ro, .now⟩, -- FILT.DCB_EST
  ⟨0x07, 1, 3, 0x1, .rw, .stopped⟩, -- FILT.MA_N
  ⟨0x08, 1, 13, 0x1, .rw, .stopped⟩, -- FILT.MA_L
  ⟨0x09, 1, 13, 0x1, .rw, .stopped⟩, -- FILT.MA_D
  ⟨0x0A, 1, 7, 0x0, .rw, .stopped⟩, -- FILT.TAPS
  ⟨0x0B, 1, 1, 0x0, .rw, .stopped⟩, -- FILT.SWAP_MODE
  ⟨0x0C, 1, 4, 0x6, .rw, .tick⟩, -- FILT.FADE_EXP
  ⟨0x0D, 1, 1, 0x0, .rw, .stopped⟩, -- FILT.DELIVER
  ⟨0x0E, 1, 9, 0x40, .rw, .tick⟩, -- FILT.EMIT_MAX
  ⟨0x0F, 1, 5, 0x0, .rw, .tick⟩, -- FILT.RING
  ⟨0x10, 1, 1, 0x0, .wo, .tick⟩, -- FILT.CLEAR
  ⟨0x11, 1, 5, 0x0, .w1c, .now⟩, -- FILT.STATUS
  ⟨0x12, 1, 9, 0x0, .ro, .now⟩, -- FILT.HELD
  ⟨0x13, 1, 32, 0x0, .ro, .now⟩, -- FILT.BANK_CRC0
  ⟨0x14, 1, 32, 0x0, .ro, .now⟩, -- FILT.BANK_CRC1
  ⟨0x18, 1, 32, 0x0, .ro, .now⟩, -- FILT.IN_COUNT
  ⟨0x19, 1, 32, 0x0, .ro, .now⟩, -- FILT.OUT_COUNT
  ⟨0x1A, 1, 32, 0x0, .ro, .now⟩, -- FILT.FOREIGN_DROPS
  ⟨0x1B, 1, 32, 0x0, .ro, .now⟩, -- FILT.RATE_DROPS
  ⟨0x1C, 1, 32, 0x0, .ro, .now⟩, -- FILT.UNPRIMED
  ⟨0x1D, 1, 32, 0x0, .ro, .now⟩, -- FILT.HOLD_DROPS
  ⟨0x1E, 1, 32, 0x0, .ro, .now⟩, -- FILT.EMIT_DROPS
  ⟨0x1F, 1, 32, 0x0, .ro, .now⟩] -- FILT.OVR_COUNT

/-- The parameters of Table(s) of ACELL: index, count, bits, At reset, access, takes effect. -/
def acellParams : List ParamRow := [
  ⟨0x00, 1, 3, 0x0, .rw, .tick⟩, -- ACELL.MODE
  ⟨0x01, 1, 4, 0x2, .rw, .tick⟩, -- ACELL.GAIN
  ⟨0x02, 1, 25, 0xF4240, .rw, .tick⟩, -- ACELL.FC
  ⟨0x03, 1, 8, 0x0, .rw, .tick⟩, -- ACELL.Q
  ⟨0x04, 1, 1, 0x0, .rw, .tick⟩, -- ACELL.FTYPE
  ⟨0x05, 1, 12, 0x800, .rw, .tick⟩, -- ACELL.THRESH
  ⟨0x06, 1, 5, 0x0, .rw, .tick⟩, -- ACELL.CMP_CFG
  ⟨0x07, 1, 5, 0x18, .rw, .tick⟩, -- ACELL.SH_CFG
  ⟨0x08, 1, 16, 0x190, .rw, .tick⟩, -- ACELL.SH_HOLD
  ⟨0x09, 1, 4, 0x0, .w1c, .now⟩, -- ACELL.STATUS
  ⟨0x0A, 1, 1, 0x0, .rw, .tick⟩, -- ACELL.DOZE_OFF
  ⟨0x0B, 1, 32, 0x0, .ro, .now⟩] -- ACELL.CMP_EDGES

/-- The parameters of Table(s) of AMTX: index, count, bits, At reset, access, takes effect. -/
def amtxParams : List ParamRow := [
  ⟨0x00, 1, 8, 0xFF, .rw, .tick⟩, -- AMTX.SRC
  ⟨0x01, 1, 7, 0x0, .ro, .now⟩] -- AMTX.CLOSED

/-- The parameters of Table(s) of DAC: index, count, bits, At reset, access, takes effect. -/
def dacParams : List ParamRow := [
  ⟨0x00, 1, 16, 0x0, .rw, .tick⟩, -- DAC.CODE
  ⟨0x01, 1, 2, 0x0, .rw, .tick⟩, -- DAC.MODE
  ⟨0x02, 1, 2, 0x0, .rw, .tick⟩, -- DAC.LATCH
  ⟨0x03, 1, 16, 0x0, .ro, .now⟩, -- DAC.OUT
  ⟨0x04, 1, 1, 0x0, .rw, .tick⟩, -- DAC.ENABLE
  ⟨0x05, 1, 2, 0x0, .w1c, .now⟩, -- DAC.STATUS
  ⟨0x06, 1, 32, 0x0, .ro, .now⟩] -- DAC.HELD_OVERWRITES

/-- The parameters of Table(s) of WIRE: index, count, bits, At reset, access, takes effect. -/
def wireParams : List ParamRow := [
  ⟨0x00, 1, 3, 0x0, .rw, .tick⟩, -- WIRE.CFG
  ⟨0x01, 1, 4, 0x0, .rw, .tick⟩, -- WIRE.GROUP
  ⟨0x02, 1, 9, 0x10, .rw, .tick⟩, -- WIRE.INTERVAL
  ⟨0x03, 1, 8, 0x0, .rw, .tick⟩, -- WIRE.PHASE
  ⟨0x04, 1, 8, 0x0, .rw, .tick⟩, -- WIRE.PAIR
  ⟨0x05, 1, 7, 0x7, .ro, .now⟩, -- WIRE.RESULT
  ⟨0x06, 1, 32, 0x0, .ro, .now⟩, -- WIRE.LAST_GOOD
  ⟨0x07, 1, 32, 0x0, .ro, .now⟩, -- WIRE.LAST_CHECK
  ⟨0x08, 1, 32, 0x0, .ro, .now⟩, -- WIRE.FAILS
  ⟨0x10, 1, 16, 0xC80, .rw, .tick⟩, -- WIRE.SETTLE
  ⟨0x11, 1, 10, 0xC8, .rw, .tick⟩, -- WIRE.OPEN_MV
  ⟨0x12, 1, 11, 0x6D6, .rw, .tick⟩, -- WIRE.HIGH_LIMIT
  ⟨0x13, 1, 10, 0x32, .rw, .tick⟩, -- WIRE.LOW_LIMIT
  ⟨0x14, 1, 16, 0x200, .rw, .tick⟩, -- WIRE.REV_STEP
  ⟨0x15, 1, 10, 0x14, .rw, .tick⟩, -- WIRE.REV_MV
  ⟨0x16, 1, 24, 0x0, .ro, .now⟩, -- WIRE.SUS_MAP
  ⟨0x17, 1, 24, 0x0, .ro, .now⟩, -- WIRE.CLAMP_MAP
  ⟨0x18, 1, 24, 0x0, .w1c, .now⟩] -- WIRE.CLAMP_SEEN

/-- The parameters of Table(s) of FREG: index, count, bits, At reset, access, takes effect. -/
def fregParams : List ParamRow := [
  ⟨0x00, 1, 1, 0x0, .rw, .tick⟩, -- FREG.ENABLE
  ⟨0x01, 1, 1, 0x0, .rw, .tick⟩, -- FREG.RST_RAM
  ⟨0x02, 1, 32, 0x0, .ro, .now⟩, -- FREG.IMAGE_ID
  ⟨0x03, 1, 16, 0x0, .ro, .now⟩, -- FREG.ILEV
  ⟨0x04, 1, 18, 0x0, .ro, .now⟩, -- FREG.SHADOW
  ⟨0x05, 1, 24, 0x0, .ro, .now⟩, -- FREG.OWN_PORTS
  ⟨0x06, 1, 16, 0x0, .ro, .now⟩, -- FREG.OWN_FEV
  ⟨0x07, 1, 24, 0x0, .ro, .now⟩, -- FREG.OWN_FIO
  ⟨0x08, 1, 5, 0x0, .ro, .now⟩, -- FREG.A_PATHS
  ⟨0x09, 1, 16, 0x0, .ro, .now⟩, -- FREG.STB_STATUS
  ⟨0x0A, 1, 32, 0x0, .ro, .now⟩, -- FREG.SCRUB_FIXES
  ⟨0x0B, 1, 32, 0x0, .ro, .now⟩] -- FREG.SYNC_DROPS

/-- The parameters of Table(s) of FCLK: index, count, bits, At reset, access, takes effect. -/
def fclkParams : List ParamRow := [
  ⟨0x00, 6, 11, 0x8, .rw, .tick⟩, -- FCLK.DIV0–FCLK.DIV5
  ⟨0x08, 6, 3, 0x0, .rw, .tick⟩, -- FCLK.SRC0–FCLK.SRC5
  ⟨0x10, 1, 6, 0x0, .rw, .tick⟩, -- FCLK.EN
  ⟨0x11, 1, 6, 0x0, .ro, .now⟩, -- FCLK.STATUS
  ⟨0x12, 1, 6, 0x0, .w1c, .now⟩] -- FCLK.EXT_LOST

/-- The parameters of Table(s) of UART: index, count, bits, At reset, access, takes effect. -/
def uartParams : List ParamRow := [
  ⟨0x00, 1, 1, 0x0, .rw, .tick⟩, -- UART.ENABLE
  ⟨0x01, 1, 25, 0xD904, .rw, .tick⟩, -- UART.DIV
  ⟨0x02, 1, 5, 0x0, .rw, .tick⟩, -- UART.FORMAT
  ⟨0x03, 1, 4, 0xF, .rw, .stopped⟩, -- UART.QUEUES
  ⟨0x04, 1, 16, 0x1, .rw, .tick⟩, -- UART.TRIG
  ⟨0x05, 1, 1, 0x0, .rw, .tick⟩, -- UART.CONSUMER
  ⟨0x06, 1, 24, 0x0, .rw, .tick⟩, -- UART.FC_CFG
  ⟨0x07, 1, 16, 0x1113, .rw, .tick⟩, -- UART.FC_CHARS
  ⟨0x08, 1, 2, 0x0, .rw, .now⟩, -- UART.AUTOBAUD
  ⟨0x09, 1, 8, 0x55, .rw, .tick⟩, -- UART.AB_CHAR
  ⟨0x0A, 1, 8, 0x0, .wo, .now⟩, -- UART.TX_PUSH
  ⟨0x0B, 1, 13, 0x0, .ro, .now⟩, -- UART.RX_POP
  ⟨0x0C, 1, 16, 0x0, .ro, .now⟩, -- UART.LEVELS
  ⟨0x0D, 1, 10, 0x0, .w1c, .now⟩, -- UART.STATUS
  ⟨0x0E, 1, 2, 0x0, .rw, .tick⟩, -- UART.EVT
  ⟨0x10, 1, 32, 0x0, .ro, .now⟩, -- UART.RX_CHARS
  ⟨0x11, 1, 32, 0x0, .ro, .now⟩, -- UART.TX_CHARS
  ⟨0x12, 1, 32, 0x0, .ro, .now⟩, -- UART.RX_OVERRUNS
  ⟨0x13, 1, 32, 0x0, .ro, .now⟩, -- UART.FE_COUNT
  ⟨0x14, 1, 32, 0x0, .ro, .now⟩, -- UART.PE_COUNT
  ⟨0x15, 1, 32, 0x0, .ro, .now⟩, -- UART.NF_COUNT
  ⟨0x16, 1, 32, 0x0, .ro, .now⟩, -- UART.BREAKS
  ⟨0x17, 1, 32, 0x0, .ro, .now⟩, -- UART.GLITCHES
  ⟨0x18, 1, 32, 0x0, .ro, .now⟩, -- UART.AB_FAILS
  ⟨0x19, 1, 32, 0x0, .ro, .now⟩, -- UART.CONTENDS
  ⟨0x1A, 1, 32, 0x0, .ro, .now⟩, -- UART.DOZE_CUTS
  ⟨0x1B, 1, 32, 0x0, .ro, .now⟩, -- UART.FC_CHARS_RX
  ⟨0x1C, 1, 32, 0x0, .ro, .now⟩, -- UART.TX_DROPS
  ⟨0x20, 1, 13, 0x348, .rw, .stopped⟩, -- UART.LIN_CFG
  ⟨0x21, 1, 25, 0x0, .ro, .now⟩, -- UART.DIV_LIVE
  ⟨0x22, 1, 12, 0x0, .ro, .now⟩, -- UART.LIN_STATUS
  ⟨0x23, 1, 32, 0x0, .ro, .now⟩, -- UART.LIN_ERRS
  ⟨0x40, 64, 7, 0x0, .rw, .tick⟩] -- UART.LIN_ID0–UART.LIN_ID63

/-- The parameters of Table(s) of DMA: index, count, bits, At reset, access, takes effect. -/
def dmaParams : List ParamRow := [
  ⟨0x00, 24, 17, 0x0, .rw, .tick⟩, -- DMA.CFGn
  ⟨0x20, 24, 23, 0x0, .rw, .tick⟩, -- DMA.DESC_BASEn
  ⟨0x40, 24, 8, 0x0, .rw, .now⟩, -- DMA.HEADn
  ⟨0x60, 24, 8, 0x0, .ro, .now⟩, -- DMA.TAILn
  ⟨0x80, 24, 32, 0x0, .rw, .tick⟩, -- DMA.DRING_BASEn
  ⟨0xA0, 24, 24, 0x0, .ro, .now⟩, -- DMA.DRING_WRn
  ⟨0xC0, 24, 24, 0x0, .rw, .tick⟩, -- DMA.DRING_MARKn
  ⟨0xE0, 1, 24, 0x0, .w1c, .now⟩, -- DMA.MARK_SEEN
  ⟨0xE1, 1, 32, 0x0, .ro, .now⟩] -- DMA.STREAM_DROPS

/-- The parameters of Table(s) of GEYSER: index, count, bits, At reset, access, takes effect. -/
def geyserParams : List ParamRow := [
  ⟨0x00, 16, 23, 0x0, .rw, .tick⟩, -- GEYSER.SEG_BASEq
  ⟨0x10, 16, 5, 0x0, .rw, .tick⟩, -- GEYSER.SEG_CFGq
  ⟨0x20, 16, 19, 0x0, .ro, .now⟩, -- GEYSER.LEVELq
  ⟨0x30, 16, 32, 0x0, .ro, .now⟩, -- GEYSER.DROPSq
  ⟨0x40, 16, 19, 0x0, .ro, .now⟩, -- GEYSER.PEAKq
  ⟨0x80, 1, 13, 0x1000, .rw, .tick⟩, -- GEYSER.BURST
  ⟨0x81, 1, 19, 0x800, .rw, .tick⟩, -- GEYSER.DRAIN_MIN
  ⟨0x82, 1, 1, 0x1, .rw, .tick⟩, -- GEYSER.BG_ENABLE
  ⟨0x83, 1, 16, 0x0, .w1c, .now⟩] -- GEYSER.DROP_SEEN

/-- The parameters of Table(s) of XSPI: index, count, bits, At reset, access, takes effect. -/
def xspiParams : List ParamRow := [
  ⟨0x00, 1, 1, 0x0, .rw, .tick⟩, -- XSPI.ENABLE
  ⟨0x01, 1, 2, 0x2, .rw, .stopped⟩, -- XSPI.MODE
  ⟨0x02, 1, 5, 0x1A, .rw, .stopped⟩, -- XSPI.SIZE
  ⟨0x03, 1, 5, 0x8, .rw, .stopped⟩, -- XSPI.LATENCY
  ⟨0x04, 1, 13, 0x1000, .rw, .stopped⟩, -- XSPI.MAX_XFER
  ⟨0x05, 1, 16, 0xEEEE, .rw, .stopped⟩, -- XSPI.CMD_RD
  ⟨0x06, 1, 16, 0xDEDE, .rw, .stopped⟩, -- XSPI.CMD_WR
  ⟨0x07, 1, 16, 0x1F40, .rw, .tick⟩, -- XSPI.CHECK_TICKS
  ⟨0x08, 1, 32, 0x0, .ro, .now⟩, -- XSPI.STROBE_ERRS
  ⟨0x09, 1, 32, 0x0, .ro, .now⟩, -- XSPI.PATTERN_ERRS
  ⟨0x0A, 1, 32, 0x0, .ro, .now⟩] -- XSPI.BYTES

/-- The parameters of Table(s) of SRAM: index, count, bits, At reset, access, takes effect. -/
def sramParams : List ParamRow := [
  ⟨0x00, 1, 1, 0x1, .rw, .tick⟩, -- SRAM.SCRUB
  ⟨0x01, 1, 32, 0x0, .ro, .now⟩, -- SRAM.ECC_FIXED
  ⟨0x02, 1, 32, 0x0, .ro, .now⟩, -- SRAM.ECC_UNCORR
  ⟨0x03, 1, 23, 0x0, .ro, .now⟩, -- SRAM.ECC_LAST_ADDR
  ⟨0x04, 1, 32, 0x0, .ro, .now⟩, -- SRAM.POISONED
  ⟨0x05, 1, 32, 0x0, .ro, .now⟩] -- SRAM.SCRUB_PASSES

/-- The parameters of Table(s) of HOST: index, count, bits, At reset, access, takes effect. -/
def hostParams : List ParamRow := [
  ⟨0x00, 1, 4, 0x0, .rw, .tick⟩, -- HOST.UART_MAP
  ⟨0x01, 1, 8, 0x10, .rw, .tick⟩, -- HOST.UART_GAP
  ⟨0x02, 1, 32, 0x0, .ro, .now⟩, -- HOST.ABORTS
  ⟨0x03, 1, 32, 0x0, .ro, .now⟩, -- HOST.CRC_ERRS
  ⟨0x04, 1, 32, 0x0, .ro, .now⟩, -- HOST.FRAME_ERRS
  ⟨0x05, 1, 32, 0x0, .ro, .now⟩, -- HOST.DUPS
  ⟨0x06, 1, 32, 0x0, .ro, .now⟩, -- HOST.OVERRUNS
  ⟨0x07, 1, 32, 0x0, .ro, .now⟩, -- HOST.GAPS
  ⟨0x08, 1, 32, 0x0, .ro, .now⟩, -- HOST.JUNK
  ⟨0x09, 1, 8, 0x0, .ro, .now⟩, -- HOST.LAST_SEQ_SPI
  ⟨0x0A, 1, 32, 0x0, .ro, .now⟩, -- HOST.LAST_SEQ_UART
  ⟨0x0B, 1, 5, 0x0, .ro, .now⟩, -- HOST.SEQ_VALID
  ⟨0x0C, 1, 16, 0x0, .ro, .now⟩, -- HOST.LAST_EVENT
  ⟨0x0D, 1, 7, 0x0, .wo, .now⟩] -- HOST.CNT_CLR
/-- The state parameters of every unit (Table UNIT-7). -/
def unitParams : List ParamRow := [
  ⟨0xF0, 1, 3, 0x0, .ro, .now⟩, -- UNIT.STATE
  ⟨0xF1, 1, 8, 0x0, .ro, .now⟩, -- UNIT.EPOCH
  ⟨0xF2, 3, 32, 0x0, .ro, .now⟩] -- UNIT.GONE, UNIT.DISCARDS, UNIT.ABSENT_DROPS

/-- The units of Table UNIT-1 and the parameters of each; none for a number that names no unit (R14, R334). -/
def unitTable (u : Nat) : Option (List ParamRow) :=
  if u = 0x00 then some sysParams
  else if u = 0x01 then some tickParams
  else if u = 0x02 then some tbusParams
  else if u = 0x03 then some sinterParams
  else if u = 0x04 then some secParams
  else if u = 0x05 then some rngParams
  else if u = 0x06 then some fumaParams
  else if u = 0x08 ∨ u = 0x09 then some convParams
  else if u = 0x0A ∨ u = 0x0B then some seqParams
  else if 0x10 ≤ u ∧ u ≤ 0x17 then some filtParams
  else if u = 0x18 then some acellParams
  else if u = 0x19 then some amtxParams
  else if u = 0x1A then some dacParams
  else if u = 0x1B then some wireParams
  else if 0x20 ≤ u ∧ u ≤ 0x27 then some fregParams
  else if u = 0x28 then some fclkParams
  else if 0x30 ≤ u ∧ u ≤ 0x33 then some uartParams
  else if u = 0x38 then some dmaParams
  else if u = 0x39 then some geyserParams
  else if u = 0x3A ∨ u = 0x3B then some xspiParams
  else if u = 0x3C then some sramParams
  else if u = 0x3D then some hostParams
  else none

/-- Whether a number names a unit (R334). -/
def isUnit (u : Nat) : Bool := (unitTable u).isSome

/-- The units in ascending order (Table UNIT-1). -/
def allUnits : List Nat :=
  [0x00, 0x01, 0x02, 0x03, 0x04, 0x05, 0x06, 0x08, 0x09, 0x0A, 0x0B, 0x10, 0x11, 0x12, 0x13, 0x14, 0x15, 0x16, 0x17,
   0x18, 0x19, 0x1A, 0x1B] ++
  [0x20, 0x21, 0x22, 0x23, 0x24, 0x25, 0x26, 0x27, 0x28, 0x30, 0x31, 0x32, 0x33, 0x38, 0x39, 0x3A, 0x3B, 0x3C, 0x3D]

/-- The indexed units (R5): ACELL, AMTX, DAC and WIRE. -/
def indexedUnit (u : Nat) : Bool := u == 0x18 || u == 0x19 || u == 0x1A || u == 0x1B

/-- The row of a table that holds an index. -/
def findRow (rows : List ParamRow) (i : Nat) : Option ParamRow :=
  rows.find? fun r => r.idx ≤ i && i < r.idx + r.count

/-- The table row of a parameter ID, none where the unit or the index is not defined (R14). The XSPI1-only rows and
the rings, slots and entries count as their tables give them. -/
def paramRow (id : Nat) : Option ParamRow :=
  match unitTable (id / 256) with
  | none => none
  | some rows => match findRow rows (id % 256) with
    | some r => some r
    | none => findRow unitParams (id % 256)

/-- Whether a sub-index is in range for a parameter of an indexed unit (R5, R335, R382, R417, R458). -/
def subOk (id sub : Nat) : Bool :=
  let u := id / 256
  let i := id % 256
  if 0xF0 ≤ i then sub == 0
  else if u == 0x18 then sub < 16
  else if u == 0x19 then (if i == 1 then sub == 0 else sub < 24 || (32 ≤ sub && sub < 64))
  else if u == 0x1A then sub < 8
  else if u == 0x1B then (if 0x10 ≤ i then sub == 0 else sub < 24)
  else false

/-- The key of a parameter instance in the register file. -/
def regKey (id sub : Nat) : Nat := id * 256 + sub

/-- The At-reset value of a key of the register file. XSPI0 differs from Table MEM-9's common value in MODE and ENABLE
(R748, R753). -/
def resetOf (key : Nat) : Word :=
  let id := key / 256
  if id = 0x3A00 then 1
  else if id = 0x3A01 then 0
  else match paramRow id with
    | some r => Word.of r.init
    | none => 0

end Sys2Proof.Machine
end

