-- ==== Sys2Proof/Machine/State.lean ====
section
/-! DEFINITION. The state of the LN480 as plain data, and the machine right after reset.

Registers (the parameters of every parameter table) stand in one register file, `State.regs`: a list of
(key, word) pairs with rising keys, key = 256 × ID + sub-index, listing only registers that differ from their
At-reset value. Every indexed family of a block's own state is kept the same way, with a default for what is unlisted.
INVENTORY.md says for each piece which rule names it. -/

namespace Sys2Proof.Machine

/-- The seven unit states of Table UNIT-2. -/
inductive UState
  | off | waking | ready | running | draining | reloading | fault
  deriving DecidableEq, Repr

/-- One unit (R337 to R346, R354). `next` is the state pending for the next boundary with its cause of Table UNIT-5,
`after` the one pending for the boundary after that (R354), `restart` says that the unit takes its At-reset values
there (R341), `wakeDone` that its wake has completed, `wakeLate` that its time limit has passed; `epoch0` is the epoch in
force at cycle 0 of the present tick (R350), `wakeT` the instant at which its wake began (R342), `checkT` the instant from
which its alive indication is compared with its state (R352). -/
structure UnitSt where
  st       : UState := .off
  next     : Option (UState × Nat) := none
  after    : Option (UState × Nat) := none
  restart  : Bool := false
  epoch    : BitVec 8 := 0
  wakeDone : Bool := false
  wakeLate : Bool := false
  skewed   : Bool := false
  epoch0   : BitVec 8 := 0
  wakeT    : Nat := 0
  checkT   : Nat := 0
  deriving DecidableEq, Repr

/-- One plan item (Table TICK-1). -/
structure PlanItem where
  offset : Nat
  budget : Nat
  unit   : Nat
  action : Nat
  arg    : Nat
  deriving DecidableEq, Repr

/-- A tick plan (R33): identifier and items. -/
structure Plan where
  id    : Word
  items : List PlanItem
  deriving DecidableEq, Repr

/-- A plan item in progress (R39, R45): its index, its item, and whether its overrun has been counted. -/
structure RunItem where
  idx  : Nat
  item : PlanItem
  overdue : Bool := false
  deriving DecidableEq, Repr

/-- A setting that waits for its boundary (R28, R284). `bound` is the count of the boundary at which it commits;
`group` is 0 or the number of its SET_GROUP; `boot` marks a stored BOOT value. -/
structure Setting where
  id    : Nat
  sub   : Nat
  val   : Word
  bound : Nat
  group : Nat
  boot  : Bool
  deriving DecidableEq, Repr

/-- An event on its way to the log (Table UNIT-4): the cycle it occurred in, its stamp, unit, epoch, code, severity
and 48 data bits. -/
structure Event where
  at_   : Nat
  stamp : BitVec 48
  unit  : Nat
  epoch : BitVec 8
  code  : Nat
  sev   : Nat
  data  : Nat
  deriving DecidableEq, Repr

/-- The Fumarole log (R356 to R362): entries held, oldest first, and the input buffer. The newest entry's number is
FUMA.NEXT_NUM less one. -/
structure FumaSt where
  log : List Event := []
  buf : List Event := []
  deriving DecidableEq, Repr

/-- A reply (Table CMD-2) with the opcode of its request (R236). -/
structure Reply where
  seq    : Byte
  status : Nat
  op     : Nat
  words  : List Word
  deriving DecidableEq, Repr

/-- One transport (R229, R233, R253, R258): last executed SEQ, stored reply, the reply in preparation of the request
that is executing, that request's words and the random bytes it has drawn so far (R312), the error replies in
preparation, oldest first, the error reply that occupies the SPI port's buffer (R245); on a serial port the bytes of a
request so far with the instant of the last (R254), the replies that are ready to be sent and the bytes of the reply being
sent that have not left yet. -/
structure TrSt where
  last    : Option Byte := none
  stored  : Option Reply := none
  exec    : Option Reply := none
  ask     : List Word := []
  got     : List Byte := []
  errs    : List Reply := []
  up      : Option Reply := none
  rx      : List Byte := []
  rxT     : Nat := 0
  toSend  : List Reply := []
  out     : List Byte := []
  deriving DecidableEq, Repr

/-- The kinds of an SPI frame (R241). -/
inductive FrameKind
  | request | read | bad
  deriving DecidableEq, Repr

/-- The host SPI port (R240 to R248): frame open, the rate of its HSCK in kHz (R101, R264), its kind once the first byte is
in, whether a request of this frame has reached its commit point, whether the error reply that occupied the buffer at its
start still does, and the reply that HSDO sends; HIRQ_N pulled low. -/
structure SpiSt where
  open_     : Bool := false
  hsck      : Nat := 0
  kind      : Option FrameKind := none
  committed : Bool := false
  errAt     : Bool := false
  hsdo      : Option Reply := none
  hirqLow   : Bool := false
  deriving DecidableEq, Repr

/-- A programming job (R192 to R198): the counter it advances, if it advances one, the logical bits not finished yet
(row and bit, the head being the one in work), the copy in work and the pulses it has had, the pulses that the copies of
that bit have had, the copies finished and the copies to program, whether a split has occurred, whether a bit has been
burnt, and the bit last programmed. -/
structure FuseJob where
  counter : Option Nat
  todo    : List (Nat × Nat)
  copy    : Nat
  pulses  : Nat
  p0      : Nat
  p1      : Nat
  steps   : Nat
  total   : Nat
  split   : Bool
  burnt   : Bool
  last    : Nat × Nat
  deriving DecidableEq, Repr

/-- What a job works on (Table OPS-1, R277 to R279). -/
inductive JobKind
  | planSwap (id : Word) (at_ : Nat)
  | regionLoad (r : Nat) (staging : Bool) (done total : Nat)
  | regionSwap (r : Nat) (at_ : Nat)
  | coefSwap (f : Nat) (at_ : Nat)
  | capture (conv : Side) (entry addr count stored deadline : Nat)
  | fuse (f : FuseJob)
  | random (count : Nat) (got : List Byte)
  | imageOpen (target len : Nat)
  | imageWrite (addr : Nat) (words : List Word)
  | imageVerify (target : Nat)
  deriving DecidableEq, Repr

/-- A running job (R277). -/
structure Job where
  num  : Nat
  op   : Nat
  kind : JobKind
  deriving DecidableEq, Repr

/-- The outcome of an ended job (R279) with the percentage of its steps that were completed (R281) and its result words
(Table OPS-4). -/
structure Ended where
  num    : Nat
  op     : Nat
  status : Nat
  pct    : Nat
  words  : List Word
  deriving DecidableEq, Repr

/-- All jobs: running, ended (newest first, at most 16), next number, most recently started number; and the last commit
point that a transport has had, with that transport (R260). -/
structure JobSt where
  running : List Job := []
  ended   : List Ended := []
  next    : Nat := 1
  latest  : Nat := 0
  commit  : Option (Nat × Nat) := none
  deriving DecidableEq, Repr

/-- The start-up phases (R118 to R128, R144), and RST_N low before them. -/
inductive Phase
  | held | phase1 | phase2 | phase3 | released | limited
  deriving DecidableEq, Repr

/-- Start-up (chapter 3): phase, whether the critical rows are delivered, whether phase 3 has ended and waits for its
boundary, whether the set marks early release, when the phase began, when the slot attempt in progress began (none: no
attempt yet), the re-reads of TRIM and of OPTION made so far, a restart that is due with its cause (1 SOFT_RESET,
2 IMAGE_ACTIVATE) and the transport whose reply it waits for, and the plan and period carried by the set. -/
structure BootSt where
  phase     : Phase := .held
  delivered : Bool := false
  refs      : Bool := false
  ended     : Bool := false
  early     : Bool := false
  began     : Nat := 0
  tryT      : Nat := 0
  rereads   : Nat × Nat := (0, 0)
  restart   : Option (Nat × Nat) := none
  period    : Nat := 50000
  plan      : Option Plan := none
  deriving DecidableEq, Repr

/-- Sinter (chapter 4): the two copies by row, the delivered rows 0 to 31, whether SECURITY's ratchet bits are forced,
a scan in progress (true: the one at the end of phase 2, R206), and the previous count of split bits. -/
structure SintSt where
  copy0  : List (Nat × Word) := []
  copy1  : List (Nat × Word) := []
  dlv    : List (Nat × Word) := []
  forced : Bool := false
  scan   : Option Bool := none
  prev   : Nat := 0
  deriving DecidableEq, Repr

/-- One analog cell (R388, R389, R396, R397, R410): powering up, the instant at which its power-up or its settling time
ends, holding, off in a doze window, the tick of its last entry into saturation, and the instant at which it returns to
tracking. -/
structure CellSt where
  powering : Bool := false
  readyT   : Nat := 0
  holding  : Bool := false
  dozeOff  : Bool := false
  satTick  : Option Nat := none
  tracked  : Nat := 0
  deriving DecidableEq, Repr

/-- One DAC channel (R402, R403, R405): the staged code, the held fabric write, the instant of the last latch, and the
instant at which an output that a change of mode has turned off is driven again. -/
structure DacSt where
  staged : Option Word := none
  held   : Option Word := none
  latchT : Option Nat := none
  offT   : Option Nat := none
  deriving DecidableEq, Repr

/-- The lines of the procedure of R429 that take time: the measurement of v0, the wait with the test current, the
measurement of v1; of the reversal part, the measurement of d0, the wait with the step applied, the measurement of d1. -/
inductive CheckLine
  | v0 | current | v1 | d0 | step | d1
  deriving DecidableEq, Repr

/-- The pin that a wire check has in work (R429): the line of the procedure with the first cycle after it, the excitation
DAC, whether the expected sign is positive, and the step that is added to its code (R435 to R437). -/
structure PinCheck where
  pin   : Nat
  line  : CheckLine
  endT  : Nat
  dac   : Nat := 0
  pos   : Bool := false
  step  : Word := 0
  clamp : Bool := false
  deriving DecidableEq, Repr

/-- What a check has found of a pin: its verdict (Table WIRE-2) and REV_SKIPPED. -/
structure PinFound where
  pin     : Nat
  verdict : Nat
  skipped : Bool := false
  deriving DecidableEq, Repr

/-- A wire check in progress (R429, R430): plan item, the monitor's measurements, the due pins whose turn is to come, the
pin in work, what was found of the pins before it, the pins that were due without being monitored, the instant at which
the next pin's turn comes, and the first cycle in which the check can finish. -/
structure WireRun where
  idx   : Nat
  meas  : List WireMeas
  todo  : List Nat
  cur   : Option PinCheck := none
  found : List PinFound := []
  idle  : List Nat
  at_   : Nat
  least : Nat
  deriving DecidableEq, Repr

/-- Wire faults beyond WIRE's registers: pins isolated by the clamp, which of the flagged pins are flagged high, the
instants at which flags released (R422), the checks in progress, the tick in which a pin became SUS, the recent changes of
the SUS map, newest first: instant and map before it (R457), and those of the switches that are programmed closed (R439). -/
structure WireSt where
  iso     : Word := 0
  high    : Word := 0
  relT    : List (Nat × Nat) := []
  runs    : List WireRun := []
  susTick : List (Nat × Word) := []
  hist    : List (Nat × Word) := []
  routes  : List (Nat × List (Nat × Nat)) := []
  deriving DecidableEq, Repr

/-- A cold step (R888): the slice it measures, whether it is a spare step, the instant at which it began, and RESID_WARN as
it stood then (R496). -/
structure ColdStep where
  slice : Nat
  spare : Bool
  start : Nat
  warn  : Nat
  deriving DecidableEq, Repr

/-- A measured spare that waits for its swap: its slice, its terms, whether a cold step measured it, and RESID_WARN as it
stood when the step began (R473, R496, R888). -/
structure Waiting where
  slice : Nat
  m     : SliceMeas
  cold  : Bool
  warn  : Nat
  deriving DecidableEq, Repr

/-- One converter beyond its registers (chapter 10): wake start, grid anchor, per slice the measurements made in cold
calibration and the difference of the last two sets of terms within limits, the cold step in progress, the spare that waits
for its swap, the cold step that is next (0 a spare step, else one more than the least off slice whose turn may be next),
the timeout logged, HEALTH set by a retirement or a timeout (log 17), and the recent changes, newest first: instant, slice
map, SUSPECT marks and CONVERGED before it (R494). -/
structure ConvSt where
  wakeT    : Nat := 0
  grid     : Option Nat := none
  meas     : List (Nat × Nat) := []
  close    : List (Nat × Bool) := []
  cold     : Option ColdStep := none
  waiting  : Option Waiting := none
  turn     : Nat := 0
  timedOut : Bool := false
  latched  : Bool := false
  hist     : List (Nat × Word × Word × Bool) := []
  deriving DecidableEq, Repr

/-- A class A trigger on its way (R510): its place in the order of R542, first entry, ready instant, plan item. -/
structure Trig where
  order : Nat
  first : Nat
  ready : Nat
  item  : Option Nat
  deriving DecidableEq, Repr

/-- A run (R506, R516 to R523): its first entry, the next entry to deliver with its sampling instant and whether it
carries PRE, the sampling instant of the entry before it, later entries interrupted by a class A run with their new
instants, the plan item that started it, and the epochs of the sequencer and of the converter that accepted it (R346).
`next` = 32 marks a run whose last result waits for its ring write. -/
structure Run where
  first : Nat
  next  : Nat
  t     : Nat
  pre   : Bool
  prevT : Option Nat
  brks  : List (Nat × Nat)
  item  : Option Nat
  tags  : BitVec 8 × BitVec 8
  deriving DecidableEq, Repr

/-- One sequencer beyond its registers: triggers waiting, runs, the entries before the last commit and its instant
(R508), and for each owned timer one more than the instant of its last pulse (R513). -/
structure SeqSt where
  trigs   : List Trig := []
  bc      : Option Run := none
  a       : Option Run := none
  oldEnt  : List Word := []
  commitT : Nat := 0
  pulsed  : List (Nat × Nat) := []
  deriving DecidableEq, Repr

/-- A tag (R346): a unit with the epoch that it had when it accepted the request. -/
abbrev Tag := Nat × BitVec 8

/-- A ring write on its way (R529, R546): class, producer (0 SEQA, 1 SEQB, 2 + n FILTn), ring, word, plan item, the instant
at which it arrived, its tags (R346), and whether it is the second half of a full write whose first half has been written
(R729). -/
structure RingReq where
  cls    : Nat
  prod   : Nat
  ring   : Nat
  word   : Word
  item   : Option Nat
  at_    : Nat
  tags   : List Tag
  paired : Bool := false
  deriving DecidableEq, Repr

/-- A computed chain output that waits for FILT_OUTPUT: the result word, its class, whether the chain was primed,
whether it is over range, whether it is the last output of a fade, and the chain's epoch when it accepted the word that
completed it (R346), and the instant by which it is on the fabric port (R579, R581). -/
structure ChainOut where
  word   : Word
  cls    : Nat
  primed : Bool
  ovr    : Bool
  last   : Bool
  tag    : BitVec 8
  due    : Nat
  deriving DecidableEq, Repr

/-- One chain beyond its registers (chapter 12): accepted-word number since the clear, DC estimate in units of
2^-(4 + extra), whether it is seeded, arrival of the last accepted word, input and decimated histories (newest
first), the numbers and flags of accepted words that carried any, coefficients (key 64 × bank + tap), held words, outputs waiting, a fade armed and a fade running
(output number, exponent), the held words that a FILT_EMIT item has taken, with the instant from which on its next word
goes out (R583). -/
structure FiltSt where
  n     : Nat := 0
  est   : Int := 0
  seed  : Bool := false
  lastT : Option Nat := none
  xs    : List Int := []
  ms    : List Int := []
  flags : List (Nat × Word) := []
  coef  : List (Nat × Word) := []
  held  : List ChainOut := []
  outs  : List ChainOut := []
  armed : Bool := false
  fade  : Option (Nat × Nat) := none
  taken : Option (Nat × List ChainOut) := none
  emitT : Nat := 0
  deriving DecidableEq, Repr

/-- A region's loaded configuration (Table IMG-5): identifier, ILEV, stepping of key slot and SECVER for R712, and
what its body says (log 8). -/
structure RegionCfg where
  imageId : Word
  ilev    : Nat
  keySlot : Option Nat
  secver  : Nat
  body    : RegionBody
  deriving DecidableEq, Repr

/-- One MAC slice's registers (R607, R608). -/
structure MacSt where
  a    : BitVec 18 := 0
  b    : BitVec 18 := 0
  load : Bool := false
  p    : BitVec 48 := 0
  ovf  : Bool := false
  deriving DecidableEq, Repr

/-- A word on its way to a region's synchroniser (R526, R578, R628): the input port, the word, the unit that produced it and
its tags (R346). -/
structure StreamWord where
  port : Nat
  word : Word
  prod : Nat
  tags : List Tag
  deriving DecidableEq, Repr

/-- One region beyond its registers (chapter 13): active and shadow configuration, shadow complete, load in progress,
frozen, region reset asserted, configuration invalid (R626), a multi-bit upset found in a freeze (R648), a reset
requested during the freeze (R370), strobes awaited, PDONE lines, input words dropped this tick, the words on their way to
the synchronisers, those that wait in them and those presented (R628), flip-flops, RAM contents, slices, the cell outputs that neighbours hold
during a freeze (R622), strobes to be pulsed and PSTB lines (R632), the instant of the last freeze end, and one more than the step of 0.5 ns at which
the region reset was released last (R603). -/
structure RegionSt where
  active   : Option RegionCfg := none
  shadow   : Option RegionCfg := none
  complete : Bool := false
  loading  : Bool := false
  wasRun   : Bool := false
  resetOn  : Bool := true
  invalid  : Bool := false
  upset    : Bool := false
  afterFrz : Option Bool := none
  strobes  : Word := 0
  pdone    : Word := 0
  dropTick : Bool := false
  inbox    : List StreamWord := []
  held     : List (Nat × Option Word) := []
  shown    : List (Nat × Option Word) := []
  ff       : List (Nat × Bool) := []
  ram      : List (Nat × BitVec 16) := []
  mac      : List (Nat × MacSt) := []
  gate     : List (Nat × Bool) := []
  pulse    : Word := 0
  pstb     : Word := 0
  thawed   : Nat := 0
  freeStep : Nat := 0
  deriving DecidableEq, Repr

/-- The fabric clock lines (R615 to R617): for each line that runs from the PLL, one more than the step of 0.5 ns of an
edge from which on it runs; for a line that a commit changes, one more than the step of that tick's cycle 0. -/
structure FclkSt where
  first : List (Nat × Nat) := []
  stop  : List (Nat × Nat) := []
  deriving DecidableEq, Repr

/-- The random number source beyond RNG's registers (R666 to R674): output buffer, CTR_DRBG key and V, generate calls
since the last seed, instantiated, retest in progress (its number), seed collection in progress, sources stopped, ERR of the
fabric port, the instant at which the start-up test or the seed collection in progress began. -/
structure RngSt where
  buf     : List Byte := []
  key     : BitVec 256 := 0
  v       : BitVec 128 := 0
  calls   : Nat := 0
  live    : Bool := false
  retest  : Nat := 0
  seeding : Bool := false
  stopped : Bool := false
  errPort : Bool := false
  since   : Nat := 0
  deriving DecidableEq, Repr

/-- Unlock state (R321, R665). -/
structure SecSt where
  nonce : Option (List Byte) := none
  scope : Nat := 0
  slot  : Nat := 0
  life  : Nat := 0
  deriving DecidableEq, Repr

/-- A target's verify state (R705): result code, and verified and unchanged since. -/
structure Verify where
  code : Nat := 0
  good : Bool := false
  deriving DecidableEq, Repr

/-- Image work (chapter 15): the active manifest's bytes (752, or none), the loaded slot (0 none, 1 A, 2 B), verify
states of slot A, slot B and the staging area, and the boot flash. -/
structure ImgSt where
  manifest : List Byte := []
  vA       : Verify := {}
  vB       : Verify := {}
  vS       : Verify := {}
  flash    : List Host.Cell := []
  deriving DecidableEq, Repr

/-- A Geyser queue (R739 to R743): the words held with their ring, oldest first, and the words of the burst in
progress with the plan item that runs it and the tags of the units that have accepted it (R346). -/
structure QueueSt where
  words : List (Nat × Word) := []
  burst : Option (Nat × Option Nat) := none
  tags  : List Tag := []
  deriving DecidableEq, Repr

/-- A DMA channel (R759, R762): the burst in progress with the plan item that runs it and the tags of the units that have
accepted it (R346), and the stream input words. -/
structure DmaSt where
  burst  : Option (Option Nat) := none
  tags   : List Tag := []
  stream : List Word := []
  deriving DecidableEq, Repr

/-- What a mover of words has still to move at one end of its path: the port (0 SRAM, 1 XSPI1, 2 XSPI0), the next address
there, the bytes left, and the power of two at whose multiples a transaction ends (R743, R749). -/
structure Leg where
  port : Nat
  addr : Nat
  rem  : Nat
  unit : Nat
  deriving DecidableEq, Repr

/-- A user of the DMA lanes and the XSPI ports (R44, R750, R754): channel n is n, the drain of queue q is 24 + q, the pattern
check is 40, the stream of channel n is 41 + n; its class, whether it needs a lane, and its legs. -/
structure Mover where
  who  : Nat
  cls  : Nat
  lane : Bool
  legs : List Leg
  deriving DecidableEq, Repr

/-- The DMA lanes and the XSPI ports (R44, R749, R750, R754) up to an instant: the movers in the order in which they came, the
transactions in progress (port: mover, its first cycle after), the movers that were served, the last one last, and those
that have finished with their first cycle after. -/
structure BusSt where
  t      : Nat := 0
  movers : List Mover := []
  busy   : List (Nat × (Nat × Nat)) := []
  served : List Nat := []
  done   : List (Nat × Nat) := []
  deriving DecidableEq, Repr

/-- A reply of an SRAM bank on its way to a fabric port (R630, R346, R350): port, region, the instant at which it arrives, its
tags, ERR and RDATA. -/
structure Flight where
  port   : Nat
  region : Nat
  due    : Nat
  tags   : List Tag
  err    : Bool
  data   : BitVec 64
  deriving DecidableEq, Repr

/-- The memories and movers (chapter 16): the two memories, the poisoned words, the scrubber's position with the first cycle
after its last step, for each bank the first cycle in which it is free (R728), the ring writes and the words of snapshots
that wait, queues, channels, the replies that the fabric's SRAM ports show and those on their way to them, the bytes moved
on XSPI0 and XSPI1, the lanes and ports, and the tick of the last pattern check (R751). -/
structure MemSt where
  sram    : List Host.Cell := []
  psram   : List Host.Cell := []
  poison  : List (Nat × Bool) := []
  scrubAt : Nat := 0
  scrubT  : Nat := 0
  bankT   : List (Nat × Nat) := []
  rings   : List RingReq := []
  caps    : List (Nat × Word) := []
  queues  : List (Nat × QueueSt) := []
  dma     : List (Nat × DmaSt) := []
  replies : List (Nat × (Bool × BitVec 64)) := []
  flight  : List Flight := []
  moved   : Nat × Nat := (0, 0)
  bus     : BusSt := {}
  checked : Option (BitVec 48) := none
  deriving DecidableEq, Repr

/-- The frame states of Table UART-2, and the transmitting ones of a publisher. -/
inductive LinPhase
  | hunt | delim | sync | pid | ignore | subscribe | publish
  deriving DecidableEq, Repr

/-- One serial channel beyond its registers (chapter 17): queues, receiver inside a character, hunting held off after
doze until the line has read high for one character time (R816), the settings of the character in progress (FORMAT,
DIV, FC_CFG, FC_CHARS; R814), the flow character owed (R798), frame state with its identifier, PID and bytes so far,
time of the last hand-off to the fabric. Of the receiver's sampling (R778, R780, R785): the level of UnRX before the
transitions known since, these, the exact instant in 1/256 cycle of sample 0 of the character in progress or of the first
sample of the hunt, and whether a high sample has come before that one; the instant from which a high line counts as idle
(R795), and the one from which it counts after doze; the end of the character sent last (R788, R805), and of the last PID's
stop bit (R810). -/
structure UartSt where
  rxq     : List (BitVec 12) := []
  txq     : List Byte := []
  inChar  : Bool := false
  waits   : Bool := false
  fmtLive : Word := 0
  divLive : Word := 0xD904
  fcLive  : Word := 0
  chLive  : Word := 0x1113
  owed    : Option Byte := none
  lin     : LinPhase := .hunt
  linId   : Nat := 0
  pid     : Byte := 0
  linGot  : List Byte := []
  handT   : Option Nat := none
  high    : Bool := true
  wave    : List Nat := []
  smp     : Nat := 0
  seen    : Bool := true
  highT   : Nat := 0
  waitT   : Nat := 0
  txT     : Nat := 0
  linT    : Nat := 0
  deriving DecidableEq, Repr

/-- Supplies, PLL, doze and temperature (chapters 2, 18): which of the domains VIO_H, VIO_M and VDD_ANA have powered up
(R830), the PLL locked, the instant of the loss of lock or of the stop in doze, clocks stopped in doze, the PLL restarted
and not relocked yet (R96), alarm re-armed; of the tick generator in doze (R94): the boundary at which the clocks stopped,
the reference cycles counted since, the fractional accumulator in 1/400 of a reference cycle, and by how much the last
boundary fell before its exact instant. -/
structure PwrSt where
  vioH    : Bool := false
  vioM    : Bool := false
  ana     : Bool := false
  locked  : Bool := false
  lostT   : Nat := 0
  stopped : Bool := false
  restarting : Bool := false
  armed   : Bool := true
  dozeT   : Nat := 0
  refs    : Nat := 0
  acc     : Nat := 0
  lag     : Nat := 0
  deriving DecidableEq, Repr

/-- The tick generator (chapter 1): running, the count, plans, items in progress, no plan work in
the present tick, numbers for groups, plan items already started this tick, those waiting
for the end of a freeze (R61), the failing conditions of R53 (bit, unit, condition), and the boundary at which the last
tick without plan work ended (R99, R352). -/
structure TickSt where
  running : Bool := false
  count   : BitVec 48 := 0
  plan    : Option Plan := none
  shadow  : Option Plan := none
  items   : List RunItem := []
  noWork  : Bool := false
  groups  : Nat := 0
  fired   : List Nat := []
  skip    : List Nat := []
  aFails  : List (Nat × Nat × Nat) := []
  resumed : Nat := 0
  deriving DecidableEq, Repr

/-- The tick bus (chapter 2): balls driven high, contention has released the master; of a follower: the coming boundary
as an edge or a realignment has placed it (instant, whether its tick is dropped), its predicted instant where it falls
elsewhere (R81), whether an edge inside the guard window belongs to it, an edge outside the guard window that belongs to
it, the prediction of the boundary that came without its edge (its search window is open) with the error that a slew had left
there, the step that the prediction of
the coming boundary includes (R84), the error left while realigning by slew, consecutive missed edges, doze held off
(R102). -/
structure TbusSt where
  io      : Bool := false
  aux     : Bool := false
  quiet   : Bool := false
  place   : Option (Nat × Bool) := none
  aim     : Option Nat := none
  edged   : Bool := false
  early   : Option Nat := none
  expired : Option Nat := none
  hope    : Option Int := none
  slew    : Int := 0
  resid   : Int := 0
  realign : Bool := false
  missed  : Nat := 0
  awake   : Bool := false
  deriving DecidableEq, Repr

/-- The test access port (R863 to R869): instruction register, boundary cells, and what the data register of the last
instruction captured, as TDO shifts it out. -/
structure TapSt where
  ir       : BitVec 8 := 1
  boundary : BitVec 164 := 0
  captured : BitVec 164 := 0x3048096B
  deriving DecidableEq, Repr

/-- The whole machine. -/
structure State where
  pending : List Instr
  regs    : List (Nat × Word)
  now     : Nat
  cyc     : Nat
  free    : Nat
  tick    : TickSt
  sets    : List Setting
  units   : List (Nat × UnitSt)
  fuma    : FumaSt
  tr      : List (Nat × TrSt)
  spi     : SpiSt
  jobs    : JobSt
  boot    : BootSt
  sint    : SintSt
  cells   : List (Nat × CellSt)
  dacs    : List (Nat × DacSt)
  closed  : List (Nat × Nat)
  wire    : WireSt
  conv    : List (Nat × ConvSt)
  seq     : List (Nat × SeqSt)
  filt    : List (Nat × FiltSt)
  region  : List (Nat × RegionSt)
  fclk    : FclkSt
  rng     : RngSt
  sec     : SecSt
  img     : ImgSt
  mem     : MemSt
  uart    : List (Nat × UartSt)
  pwr     : PwrSt
  tbus    : TbusSt
  tap     : TapSt
  deriving DecidableEq, Repr

/-- Why the machine stops. -/
inductive Fault
  /-- RST_N was low for 50 ns to 1 µs, which the board must not do and for which the spec states nothing (R112).
  Raised by RST_N_ASSERT. Safe: the model stops where nothing is stated. -/
  | rstPulseUnstated
  deriving DecidableEq, Repr

/-- Why a command is refused. -/
inductive Refusal
  /-- No meaning yet. Raised by an arm of `exec` only. Safe. -/
  | notModelled (mnemonic : String)
  /-- A private debug instruction while debug access is open: the spec does not give its effect (R660). Raised by
  PRIVATE_DEBUG. Safe. -/
  | privateDebugEffectNotGiven
  deriving DecidableEq, Repr

/-- The machine right after reset: VDD_CORE and VDD_IO present, RST_N low, every register at its At-reset value, Sinter as
shipped (R160, R161, R656; trims and UID zero, log 5), boot flash erased. -/
def State.reset : State where
  pending := []
  regs := []
  now := 0
  cyc := 0
  free := 0
  tick := {}
  sets := []
  units := []
  fuma := {}
  tr := []
  spi := {}
  jobs := {}
  boot := {}
  sint := { copy0 := [(15, 0x1E5EB), (36, 1)], copy1 := [(15, 0x1E5EB), (36, 1)] }
  cells := []
  dacs := []
  closed := []
  wire := {}
  conv := []
  seq := []
  filt := []
  region := []
  fclk := {}
  rng := {}
  sec := {}
  img := {}
  mem := {}
  uart := []
  pwr := {}
  tbus := {}
  tap := {}

end Sys2Proof.Machine
end

