-- ==== Sys2Proof/Machine/Ops.lean ====
section
/-! DEFINITION. The named operations over the register file, the memories, the event log, the clock and the units:
everything the meanings share. -/

namespace Sys2Proof.Machine

/-! ### Canonical maps -/

/-- The value at a key of a rising list of pairs; `d` where the key is not listed. -/
def lookup {α : Type} (d : α) : List (Nat × α) → Nat → α
  | [], _ => d
  | (a, x) :: t, k => if k < a then d else if k = a then x else lookup d t k

/-- A rising list of pairs with the value at a key replaced; a value equal to the default is not listed. -/
def insert {α : Type} [DecidableEq α] (d : α) : List (Nat × α) → Nat → α → List (Nat × α)
  | [], k, v => if v = d then [] else [(k, v)]
  | (a, x) :: t, k, v =>
    if k < a then (if v = d then (a, x) :: t else (k, v) :: (a, x) :: t)
    else if k = a then (if v = d then t else (k, v) :: t)
    else (a, x) :: insert d t k v

/-- The canonical form: keys strictly rising above `lo`, no entry equal to the default. -/
def wfFrom {α : Type} [DecidableEq α] (d : α) : Nat → List (Nat × α) → Bool
  | _, [] => true
  | lo, (a, x) :: t => decide (lo ≤ a) && decide (x ≠ d) && wfFrom d (a + 1) t

/-- The canonical form of a list of pairs. -/
def wfMap {α : Type} [DecidableEq α] (d : α) (m : List (Nat × α)) : Bool := wfFrom d 0 m

/-! ### Registers -/

/-- The value of a register by key: what is listed, else its At-reset value. -/
def lookupReg : List (Nat × Word) → Nat → Word
  | [], k => resetOf k
  | (a, x) :: t, k => if k < a then resetOf k else if k = a then x else lookupReg t k

/-- The register file with one register replaced, in canonical form. -/
def insertReg : List (Nat × Word) → Nat → Word → List (Nat × Word)
  | [], k, v => if v = resetOf k then [] else [(k, v)]
  | (a, x) :: t, k, v =>
    if k < a then (if v = resetOf k then (a, x) :: t else (k, v) :: (a, x) :: t)
    else if k = a then (if v = resetOf k then t else (k, v) :: t)
    else (a, x) :: insertReg t k v

/-- The canonical form of the register file. -/
def wfRegsFrom : Nat → List (Nat × Word) → Bool
  | _, [] => true
  | lo, (a, x) :: t => decide (lo ≤ a) && decide (x ≠ resetOf a) && wfRegsFrom (a + 1) t

/-- The register with ID `id` and sub-index `sub`. -/
def State.reg (s : State) (id : Nat) (sub : Nat := 0) : Word := lookupReg s.regs (regKey id sub)

/-- The same register as a number. -/
def State.regN (s : State) (id : Nat) (sub : Nat := 0) : Nat := (s.reg id sub).toNat

/-- The state with a register replaced. -/
def State.setReg (s : State) (id sub : Nat) (v : Word) : State :=
  { s with regs := insertReg s.regs (regKey id sub) v }

/-- One bit of a register. -/
def State.regBit (s : State) (id sub i : Nat) : Bool := (s.reg id sub).bit i

/-- The state with one bit of a register replaced. -/
def State.setRegBit (s : State) (id sub i : Nat) (b : Bool) : State :=
  s.setReg id sub ((s.reg id sub).setBit i b)

/-- A sum that saturates at 0xFFFFFFFF (R46, R69). -/
def satAdd (a : Word) (n : Nat) : Word := if a.toNat + n < 2 ^ 32 then Word.of (a.toNat + n) else 0xFFFFFFFF

/-- A saturating counter grows by `n`. -/
def State.bumpBy (s : State) (id sub n : Nat) : State := s.setReg id sub (satAdd (s.reg id sub) n)

/-- A saturating counter grows by one. -/
def State.bump (s : State) (id : Nat) (sub : Nat := 0) : State := s.bumpBy id sub 1

/-- Apply a step for every element of a list, in order. -/
def State.each {α : Type} (s : State) (l : List α) (f : State → α → State) : State := l.foldl f s

/-- Remove from the register file every register of a unit that `keep` does not name by its index. -/
def State.clearRegs (s : State) (u : Nat) (keep : Nat → Bool) : State :=
  { s with regs := s.regs.filter fun p => p.1 / 65536 != u || keep (p.1 / 256 % 256) }

/-! ### Families of a block's own state -/

def State.unit (s : State) (u : Nat) : UnitSt := lookup {} s.units u
def State.setUnit (s : State) (u : Nat) (x : UnitSt) : State := { s with units := insert {} s.units u x }
def State.trOf (s : State) (n : Nat) : TrSt := lookup {} s.tr n
def State.setTr (s : State) (n : Nat) (x : TrSt) : State := { s with tr := insert {} s.tr n x }
def State.cell (s : State) (n : Nat) : CellSt := lookup {} s.cells n
def State.setCell (s : State) (n : Nat) (x : CellSt) : State := { s with cells := insert {} s.cells n x }
def State.dac (s : State) (n : Nat) : DacSt := lookup {} s.dacs n
def State.setDac (s : State) (n : Nat) (x : DacSt) : State := { s with dacs := insert {} s.dacs n x }
def State.convOf (s : State) (n : Nat) : ConvSt := lookup {} s.conv n
def State.setConv (s : State) (n : Nat) (x : ConvSt) : State := { s with conv := insert {} s.conv n x }
def State.seqOf (s : State) (n : Nat) : SeqSt := lookup {} s.seq n
def State.setSeq (s : State) (n : Nat) (x : SeqSt) : State := { s with seq := insert {} s.seq n x }
def State.filtOf (s : State) (n : Nat) : FiltSt := lookup {} s.filt n
def State.setFilt (s : State) (n : Nat) (x : FiltSt) : State := { s with filt := insert {} s.filt n x }
def State.regionOf (s : State) (n : Nat) : RegionSt := lookup {} s.region n
def State.setRegion (s : State) (n : Nat) (x : RegionSt) : State := { s with region := insert {} s.region n x }
def State.uartOf (s : State) (n : Nat) : UartSt := lookup {} s.uart n
def State.setUart (s : State) (n : Nat) (x : UartSt) : State := { s with uart := insert {} s.uart n x }
def State.queue (s : State) (q : Nat) : QueueSt := lookup {} s.mem.queues q
def State.setQueue (s : State) (q : Nat) (x : QueueSt) : State :=
  { s with mem := { s.mem with queues := insert {} s.mem.queues q x } }
def State.dmaOf (s : State) (n : Nat) : DmaSt := lookup {} s.mem.dma n
def State.setDma (s : State) (n : Nat) (x : DmaSt) : State :=
  { s with mem := { s.mem with dma := insert {} s.mem.dma n x } }

/-! ### Memories -/

/-- SRAM size in bytes (R727). -/
def sramBytes : Nat := 0x800000

/-- What an SRAM byte that nothing has written reads as: the zeros that the wake writes (R738). -/
def sramDefault : Byte := 0
/-- What a PSRAM byte that nothing has written reads as (log 7). -/
def psramDefault : Byte := 0
/-- What an erased flash byte reads as (R688). -/
def flashDefault : Byte := 0xFF

def State.sramByte (s : State) (a : Nat) : Byte := lookup sramDefault s.mem.sram a
def State.psramByte (s : State) (a : Nat) : Byte := lookup psramDefault s.mem.psram a
def State.flashByte (s : State) (a : Nat) : Byte := lookup flashDefault s.img.flash a

def State.setSramByte (s : State) (a : Nat) (b : Byte) : State :=
  { s with mem := { s.mem with sram := insert sramDefault s.mem.sram a b } }
def State.setPsramByte (s : State) (a : Nat) (b : Byte) : State :=
  { s with mem := { s.mem with psram := insert psramDefault s.mem.psram a b } }
def State.setFlashByte (s : State) (a : Nat) (b : Byte) : State :=
  { s with img := { s.img with flash := insert flashDefault s.img.flash a b } }

/-- Bytes written one after the other from an address. -/
def State.writeBytes (f : State → Nat → Byte → State) : State → Nat → List Byte → State
  | s, _, [] => s
  | s, a, b :: bs => State.writeBytes f (f s a b) (a + 1) bs

/-- `n` bytes read from an address. -/
def readBytes (f : Nat → Byte) : Nat → Nat → List Byte
  | _, 0 => []
  | a, n + 1 => f a :: readBytes f (a + 1) n

/-- A little-endian word read from an address (R2). -/
def readWord (f : Nat → Byte) (a : Nat) : Word := Word.ofBytes (f a) (f (a + 1)) (f (a + 2)) (f (a + 3))

/-- `n` words read from an address. -/
def readWords (f : Nat → Byte) : Nat → Nat → List Word
  | _, 0 => []
  | a, n + 1 => readWord f a :: readWords f (a + 4) n

def State.sramWord (s : State) (a : Nat) : Word := readWord s.sramByte a
def State.setSramWord (s : State) (a : Nat) (w : Word) : State := s.writeBytes State.setSramByte a w.bytes
def State.setPsramWord (s : State) (a : Nat) (w : Word) : State := s.writeBytes State.setPsramByte a w.bytes

/-- The XSPI1 space: 2^SIZE less the 4 KiB of the pattern check (R751). -/
def State.psramBytes (s : State) : Nat := 2 ^ s.regN 0x3B02 - 4096

/-! ### Events -/

/-- The place of an event in the input buffer: after what came before, among the events of its cycle by unit and then
by code (R361). -/
def insertEvent (e : Event) : List Event → List Event
  | [] => [e]
  | x :: t =>
    if x.at_ = e.at_ ∧ (e.unit < x.unit ∨ (e.unit = x.unit ∧ e.code < x.code)) then e :: x :: t
    else x :: insertEvent e t

/-- An event enters the input buffer; one that finds 32 events there is lost and counted (R362). -/
def State.enter (s : State) (e : Event) : State :=
  let b := insertEvent e s.fuma.buf
  if b.length ≤ 32 then { s with fuma := { s.fuma with buf := b } }
  else { s with fuma := { s.fuma with buf := b.take 32 } }.bump 0x0603

/-- An event of `unit` with a code and severity, and data, occurs now (R357, R363). -/
def State.emit (s : State) (unit : Nat) (ev : Nat × Nat) (data : Nat) : State :=
  s.enter { at_ := s.now, stamp := s.tick.count, unit := unit, epoch := (s.unit unit).epoch,
            code := ev.1, sev := ev.2, data := data }

/-- The log takes the oldest event from its buffer: appends it with the next running number, overwriting the oldest
entry when 512 are held (R359, R360), and sets the latch bit of an unmasked severity (R366). -/
def State.takeEvent (s : State) : State :=
  match s.fuma.buf with
  | [] => s
  | e :: t =>
    let full := s.fuma.log.length == 512
    let s1 : State := { s with fuma := { log := (if full then s.fuma.log.drop 1 else s.fuma.log) ++ [e], buf := t } }
    let s2 := s1.setReg 0x0601 0 (s1.reg 0x0601 + 1)
    let s3 := if full then s2.bump 0x0602 else s2
    if e.code = 0x022 ∨ e.code = 0x031 then s3
    else if s3.regBit 0x0604 0 e.sev then s3.setRegBit 0x0605 0 e.sev true else s3

/-- The log takes up to `n` events. -/
def State.takeEvents : Nat → State → State
  | 0, s => s
  | n + 1, s => State.takeEvents n s.takeEvent

/-! ### The clock -/

/-- The instant of the boundary that began the present tick. -/
def State.tickStart (s : State) : Nat := s.now - s.cyc

/-- The tick period in force (R19, R31): the reset period until release and in limited mode (R20, R127, R144). -/
def State.period (s : State) : Nat := if s.boot.phase == .released then s.regN 0x0100 else 50000

/-- Whole microseconds in a number of system cycles (R3). Where a rule states a duration in µs (R155, R842), a fraction of
a µs is dropped (DESIGN CHOICE, log 62). -/
def usOf (cycles : Nat) : Nat := cycles / 400

/-! ### Units -/

/-- The code of a unit state (Table UNIT-2). -/
def UState.code : UState → Nat
  | .off => 0 | .waking => 1 | .ready => 2 | .running => 3 | .draining => 4 | .reloading => 5 | .fault => 6

/-- A unit's committed state is RUNNING and the hardware has not forced it into FAULT (R338, R353). -/
def State.isRunning (s : State) (u : Nat) : Bool := (s.unit u).st == .running && !(s.unit u).skewed

/-- A unit is RUNNING or DRAINING. -/
def State.isActive (s : State) (u : Nat) : Bool :=
  ((s.unit u).st == .running || (s.unit u).st == .draining) && !(s.unit u).skewed

/-- The device is released (R126). -/
def State.released (s : State) : Bool := s.boot.phase == .released

/-- RST_N is high and the PLL has locked: the device works. -/
def State.alive (s : State) : Bool :=
  s.boot.phase == .phase2 || s.boot.phase == .phase3 || s.boot.phase == .released || s.boot.phase == .limited

/-- A tick that carries no plan work because of doze (R93). -/
def State.dozeTick (s : State) : Bool := s.regBit 0x0209 0 4

/-- A producer's word meets an absent sink: the producer counts it (R338). -/
def State.absentDrop (s : State) (u : Nat) : State := s.bump (u * 256 + 0xF4)

/-- A request to a unit is answered UNIT_GONE and counted (R338, R377). -/
def State.gone (s : State) (u : Nat) : State := s.bump (u * 256 + 0xF2)

/-! ### Sides -/

/-- 0 for A, 1 for B. -/
def sideN : Side → Nat
  | .a => 0
  | .b => 1

/-- The unit number of a converter (Table UNIT-1). -/
def convUnit (n : Nat) : Nat := 0x08 + n
/-- The unit number of a sequencer. -/
def seqUnit (n : Nat) : Nat := 0x0A + n

/-- 0 for SPI, 1 + n for UARTn (Table CMD-7). -/
def trNum : Transport → Nat
  | .spi => 0 | .uart0 => 1 | .uart1 => 2 | .uart2 => 3 | .uart3 => 4

/-! ### Free values -/

/-- `n` free values are used: the model's counter advances (log 3). -/
def State.useFree (s : State) (n : Nat) : State := { s with free := s.free + n }

/-- The next free word (log 3). -/
def State.freeWord (s : State) : Word :=
  Word.ofBytes (Config.freeByte (4 * s.free)) (Config.freeByte (4 * s.free + 1)) (Config.freeByte (4 * s.free + 2))
    (Config.freeByte (4 * s.free + 3))

/-- The next `n` free words. -/
def State.freeWords (s : State) (n : Nat) : List Word := (List.range n).map fun i => (s.useFree i).freeWord

/-- Transport `n` (0 SPI, 1 + k UARTk) is served: the start-up transport alone before release and in limited mode, the
SPI port and the mapped channels afterwards, none in phase 1 (R116, R119, R250). -/
def State.served (s : State) (n : Nat) : Bool :=
  if !s.alive then false
  else if s.released then n == 0 || s.regBit 0x3D00 0 (n - 1)
  else n == (if s.regBit 0x0003 0 0 then 1 else 0)

/-- A channel is a Cecor transport (R116, R250). -/
def State.isTransport (s : State) (u : Nat) : Bool := s.served (u + 1)

/-- Queue depths of a serial channel: receive, transmit (R789). -/
def queueDepths (w : Word) : Nat × Nat := (16 * 2 ^ w.bits 0 2, 16 * 2 ^ w.bits 2 2)

end Sys2Proof.Machine
end

