-- ==== Sys2Proof/Machine/Follow.lean ====
section
/-! DEFINITION. Where the coming boundary falls: the prediction of a follower (chapter 2), the reference cycles that a tick
takes while the clocks stand in doze (R94), and which ticks are wake ticks. -/

namespace Sys2Proof.Machine

/-- The tick count of the boundary at a distance. -/
def State.countAt (s : State) (d : Nat) : Nat := (s.tick.count.toNat + d) % 2 ^ 48

/-- A follower (R70, R21). -/
def State.follower (s : State) : Bool := s.reg 0x0101 == 1

/-- The tick with a count is a wake tick (R92). -/
def State.wakeCount (s : State) (c : Nat) : Bool :=
  (c + 256 - if s.follower then s.regN 0x020A else 0) % 2 ^ s.regN 0x0208 == 0

/-- The coming tick carries no plan work because of doze (R93, R102). -/
def State.dozeNext (s : State) : Bool :=
  s.released && s.reg 0x0207 == 1 && !s.tbus.awake && !s.wakeCount (s.countAt 1)

/-- Ticks until the next wake tick (R92). -/
def State.ticksToWake (s : State) : Nat :=
  (((List.range 256).map (· + 1)).find? fun k => s.wakeCount (s.countAt k)).getD 256

/-- G and S (R78, R82). -/
def State.guard (s : State) : Nat := s.regN 0x0201
def State.search (s : State) : Nat := s.regN 0x0202

/-- The device follows a master's edges: its SOURCE is 1 and it is released (R21, R148). It does so whatever the state of
its TBUS unit: R72 gives that state a bearing on the balls that a master drives, and no rule gives it one on a follower
(DESIGN CHOICE, log 51). -/
def State.tracking (s : State) : Bool := s.released && s.follower

def State.hunting (s : State) : Bool := s.regBit 0x0209 0 3
def State.absent (s : State) : Bool := s.regBit 0x0209 0 2

/-- The reference frequency in MHz that the PLL has locked with (R162, R163). -/
def State.refMhz (s : State) : Nat := s.regN 0x001A

/-- The exact instant of the coming boundary: one period after the exact instant of the one before. -/
def State.exactEnd (s : State) : Nat := s.tickStart + s.pwr.lag + s.period

/-- The reference cycles that the present tick takes by the fractional accumulator, and what stays in it, in parts of
1/400 of a reference cycle (R94). -/
def State.refCycles (s : State) : Nat := (s.period * s.refMhz + s.pwr.acc) / 400
def State.refRest (s : State) : Nat := (s.period * s.refMhz + s.pwr.acc) % 400

/-- Where one's own tick generator puts the coming boundary. While the system clock stands (R94) it counts reference cycles:
the boundary falls at the last of them at or before the exact instant, which is within one reference period of it. Which
of the instants in that period it is, is the model's choice (DESIGN CHOICE, log 52). -/
def State.generated (s : State) : Nat :=
  if s.pwr.stopped then s.pwr.dozeT + (s.pwr.refs + s.refCycles) * 400 / max 1 s.refMhz else s.exactEnd

/-- T, the predicted instant of the coming boundary, with the step of a slew that it includes (R84). -/
def State.predicted (s : State) : Nat := ((s.generated : Nat) + s.tbus.slew).toNat

/-- No edge has placed the coming boundary of a follower that checks it (R81). A follower that hunts or is without its
master checks none: its boundaries fall at T, and no edge counts as missed while it hunts (DESIGN CHOICE, log 51; R85
gives hunting no exception, and R88 says only that its ticks are dropped). -/
def State.unplaced (s : State) : Bool :=
  s.tracking && s.tbus.place.isNone && !s.hunting && !s.absent && !s.dozeNext

/-- The coming boundary with whether its tick is dropped (R78, R81, R83, R84, R86, R88, R98). -/
def State.boundary (s : State) : Nat × Bool :=
  if !s.tracking then (s.generated, false)
  else match s.tbus.place with
  | some p => p
  | none => if s.unplaced then (s.predicted + s.guard, true) else (s.predicted, s.hunting)

/-- The instant at which the present tick ends, as it stands now: work that has not finished before it is cut (R45, R79). -/
def State.tickEnd (s : State) : Nat := s.boundary.1

/-- The instant from which R29 counts its 2,000 cycles: the coming boundary where an edge or a realignment has placed it,
else the predicted one (DEDUCED, log 51: the device cannot know at a commit point where a later edge will place it). -/
def State.expectedEnd (s : State) : Nat :=
  match s.tbus.place with
  | some p => if s.tracking then p.1 else s.generated
  | none => if s.tracking then s.predicted else s.generated

/-- The boundary at which a request that is now at its commit point commits (R29): its distance, 1 or 2. -/
def State.commitDist (s : State) : Nat := if s.now + 2000 ≤ s.expectedEnd then 1 else 2

end Sys2Proof.Machine
end

