-- ==== Sys2Proof/Machine/Events.lean ====
section
/-! DEFINITION. The event codes with their severities: 0 INFO, 1 WARNING, 2 ERROR, 3 CRITICAL (Tables UNIT-4, UNIT-5,
AFE-11, WIRE-4, CONV-6, SEQ-5, FILT-2, FAB-9, SEC-5, IMG-8, MEM-10, UART-4 and PWR-10). -/

namespace Sys2Proof.Machine

def evTickLate : Nat × Nat := (0x010, 1)
def evTickMisfit : Nat × Nat := (0x011, 1)
def evAHoldLost : Nat × Nat := (0x012, 2)
def evTbusContend : Nat × Nat := (0x020, 2)
def evTbusSyncLost : Nat × Nat := (0x021, 1)
def evTbusAbsent : Nat × Nat := (0x022, 1)
def evBootSlotFail : Nat × Nat := (0x030, 2)
def evBootLimited : Nat × Nat := (0x031, 3)
def evSoftReset : Nat × Nat := (0x032, 0)
def evUntestedStepping : Nat × Nat := (0x033, 1)
def evSinterAlarm : Nat × Nat := (0x040, 2)
def evSinterSplit : Nat × Nat := (0x041, 1)
def evSinterHeadroom : Nat × Nat := (0x042, 1)
def evSinterExhausted : Nat × Nat := (0x043, 2)
def evUnitTransition : Nat × Nat := (0x070, 0)
def evStateSkew : Nat × Nat := (0x071, 2)
def evWakeFail : Nat × Nat := (0x072, 2)
def evWireOpen : Nat × Nat := (0x080, 2)
def evAcellSat : Nat × Nat := (0x081, 1)
def evDacCompliance : Nat × Nat := (0x082, 1)
def evWireClamp : Nat × Nat := (0x083, 2)
def evWireShort : Nat × Nat := (0x084, 2)
def evWireReversed : Nat × Nat := (0x085, 2)
def evWireRestored : Nat × Nat := (0x086, 0)
def evConvConverged : Nat × Nat := (0x0C0, 0)
def evConvCalTimeout : Nat × Nat := (0x0C1, 1)
def evConvHealth : Nat × Nat := (0x0C2, 1)
def evConvRetired : Nat × Nat := (0x0C3, 2)
def evSeqRingThresh : Nat × Nat := (0x0D0, 0)
def evSeqRingFull : Nat × Nat := (0x0D1, 1)
def evFiltOvr : Nat × Nat := (0x0E0, 1)
def evFiltHoldFull : Nat × Nat := (0x0E1, 1)
def evFiltFadeDone : Nat × Nat := (0x0E2, 0)
def evFabScrubFix : Nat × Nat := (0x100, 0)
def evFabConfigUpset : Nat × Nat := (0x101, 3)
def evFabSyncDrop : Nat × Nat := (0x102, 1)
def evFabExtClockLost : Nat × Nat := (0x103, 1)
def evImgActivated : Nat × Nat := (0x120, 0)
def evImgRegionSwapped : Nat × Nat := (0x121, 0)
def evImgUnlisted : Nat × Nat := (0x122, 1)
def evImgRefused : Nat × Nat := (0x123, 1)
def evRngHealthFail : Nat × Nat := (0x140, 2)
def evRngRecovered : Nat × Nat := (0x141, 0)
def evRngFault : Nat × Nat := (0x142, 3)
def evSecUnlock : Nat × Nat := (0x150, 1)
def evSecUnlockDenied : Nat × Nat := (0x151, 1)
def evSecRelock : Nat × Nat := (0x152, 0)
def evSramEccUncorr : Nat × Nat := (0x180, 2)
def evGeyserDrop : Nat × Nat := (0x181, 1)
def evDmaDescErr : Nat × Nat := (0x182, 1)
def evDmaDone : Nat × Nat := (0x183, 0)
def evDmaMark : Nat × Nat := (0x184, 0)
def evXspiStrobe : Nat × Nat := (0x185, 2)
def evXspiPattern : Nat × Nat := (0x186, 2)
def evUartRxOverrun : Nat × Nat := (0x1C0, 1)
def evUartTxContend : Nat × Nat := (0x1C1, 2)
def evUartAutobaud : Nat × Nat := (0x1C2, 0)
def evUartRxTrig : Nat × Nat := (0x1C3, 0)
def evUartTxTrig : Nat × Nat := (0x1C4, 0)
def evUartLinErr : Nat × Nat := (0x1C5, 1)
def evPwrPllUnlock : Nat × Nat := (0x200, 3)
def evPwrPllRelock : Nat × Nat := (0x201, 1)
def evPwrTempHigh : Nat × Nat := (0x202, 1)

/-! Status codes of replies and jobs (Table CMD-5). -/

def stDone : Nat := 0x00
def stQueued : Nat := 0x01
def stCrcBad : Nat := 0x10
def stFrameBad : Nat := 0x11
def stSeqDup : Nat := 0x12
def stOpcodeUnknown : Nat := 0x20
def stParamBad : Nat := 0x21
def stNotNow : Nat := 0x22
def stUnitState : Nat := 0x23
def stUnitGone : Nat := 0x24
def stLate : Nat := 0x25
def stDenied : Nat := 0x30
def stIncompatible : Nat := 0x31
def stExhausted : Nat := 0x32
def stHealthFail : Nat := 0x33
def stFuseFail : Nat := 0x34

end Sys2Proof.Machine
end

