-- ==== Sys2Proof/Machine/Netlist.lean ====
section
/-! DEFINITION. The fabric at work (chapter 13): the fabric clock lines, the cells, RAM cells and MAC slices that they
clock, the boundary gates between regions, and the clock's advance, in which they run (log 28). Time is counted in steps
of 0.5 ns (R616): system cycle n begins at step 5n. -/

namespace Sys2Proof.Machine

/-- The body of a region's active configuration. -/
def State.body (s : State) (r : Nat) : Option RegionBody :=
  (s.regionOf r).active.map fun c => c.body

/-! ### Clock lines (R615 to R617, R639, R640) -/

/-- Clock line `k` follows a pin (R615), or the clock is a crossbar wire (R620): its edges are not the model's. -/
def State.asyncLine (s : State) (k : Nat) : Bool := decide (6 ≤ k) || s.reg (0x2808 + k) != 0

/-- Steps between two rising edges of a PLL-sourced line. -/
def State.lineSteps (s : State) (k : Nat) : Nat := max 1 (s.regN (0x2800 + k))

/-- PLL-sourced line `k` has a rising edge at step `t`: it runs since `first`, and no falling edge at or after a cycle 0
that stops it has passed (R617). -/
def State.edgeAt (s : State) (t k : Nat) : Bool :=
  match lookup 0 s.fclk.first k, lookup 0 s.fclk.stop k with
  | 0, _ => false
  | f + 1, stop => decide (f ≤ t) && (t - f) % s.lineSteps k == 0 && !s.asyncLine k &&
      (stop == 0 || decide (2 * t < 2 * (stop - 1) + s.lineSteps k))

/-- PLL-sourced line `k` toggles now (FCLK.STATUS). -/
def State.lineToggles (s : State) (k : Nat) : Bool :=
  match lookup 0 s.fclk.first k, lookup 0 s.fclk.stop k with
  | 0, _ => false
  | f + 1, stop => decide (f ≤ 5 * s.now) &&
      (stop == 0 || decide (10 * s.now < 2 * (stop - 1) + s.lineSteps k))

/-- PLL-sourced line `k` is to run. -/
def State.lineRuns (s : State) (k : Nat) : Bool :=
  s.isActive 0x28 && s.regBit 0x2810 0 k && !s.asyncLine k && !s.pwr.stopped

/-- Line `k` is changed by the values of a boundary (R617). -/
def State.lineChanged (s : State) (v : Nat → Nat → Word) (k : Nat) : Bool :=
  v (0x2800 + k) 0 != s.reg (0x2800 + k) || v (0x2808 + k) 0 != s.reg (0x2808 + k) ||
    (v 0x2810 0).bit k != s.regBit 0x2810 0 k

/-- Cycle 0 of a commit tick: the changed lines stay low from their next falling edge on (R617). -/
def State.holdLine (v : Nat → Nat → Word) (s : State) (k : Nat) : State :=
  if s.lineChanged v k then { s with fclk := { s.fclk with stop := insert 0 s.fclk.stop k (5 * s.now + 1) } } else s

/-- Cycle 128: a line that is to run and does not, or has been changed, has a rising edge now and runs from here on
(R617). -/
def State.startLine (s : State) (k : Nat) : State :=
  if !s.lineRuns k then
    { s with fclk := { first := insert 0 s.fclk.first k 0, stop := insert 0 s.fclk.stop k 0 } }
  else if lookup 0 s.fclk.stop k != 0 || lookup 0 s.fclk.first k == 0 then
    { s with fclk := { first := insert 0 s.fclk.first k (5 * s.now + 1), stop := insert 0 s.fclk.stop k 0 } }
  else s

/-- The lines run again after doze; how long after the relock a line's first edge comes is free (R640, log 28). -/
def State.restartLine (s : State) (k : Nat) : State :=
  if !s.lineRuns k then s
  else { s with fclk := { s.fclk with
    first := insert 0 s.fclk.first k (5 * s.now + Config.lineRestart s.now k + 1) } }

/-! ### Combinational functions (Table FAB-1, Table FAB-3) -/

/-- The number that a list of input bits spells, the first the least significant. -/
def bitsNat : List Bool → Nat
  | [] => 0
  | b :: t => b.toNat + 2 * bitsNat t

/-- The combinational output of a cell from its inputs, and of a RAM cell from its content (Table FAB-1). -/
def combOut (c : CellCfg) (ram : BitVec 16) (ins : List Bool) : Bool :=
  if c.kind = 0 then c.init.getLsbD (bitsNat (ins.take 4))
  else if c.kind = 1 then ram.getLsbD (bitsNat (ins.take 4))
  else (ins[bitsNat ((ins.drop 4).take 2)]?).getD false

/-- The accumulator after an edge in exact arithmetic (Table FAB-3): `p` is P, `casc` CASC_IN, `m` the product. -/
def macSum (mode : Nat) (load : Bool) (p casc m : Int) : Int :=
  if mode = 3 then (if load then -m else p - m)
  else if load ∨ mode = 0 then m
  else if mode = 1 then p + m
  else casc + m

/-- A 48-bit two's complement number holds a value. -/
def fits48 (x : Int) : Bool := decide (-2 ^ 47 ≤ x) && decide (x < 2 ^ 47)

/-- One clock edge of a MAC slice (R607 to R609, R647): the product of the registered inputs reaches P, the inputs are
registered; an overflow wraps or saturates and sets OVF, which a LOAD clears; with CE low nothing changes. -/
def macEdge (c : MacCfg) (x : MacSt) (casc : BitVec 48) (a b : BitVec 18) (ce load : Bool) : MacSt :=
  if !ce then x
  else
    let sum := macSum c.mode x.load x.p.toInt casc.toInt (x.a.toInt * x.b.toInt)
    { a := a, b := b, load := load
      p := if fits48 sum ∨ !c.sat then BitVec.ofInt 48 sum
        else if 0 ≤ sum then BitVec.ofInt 48 (2 ^ 47 - 1) else BitVec.ofInt 48 (-2 ^ 47)
      ovf := !x.load && (x.ovf || !fits48 sum) }

/-! ### Reading a net -/

/-- The region that drives a net (R621); a port or a constant has none. -/
def netRegion : Net → Option Nat
  | .comb c | .ff c => some (c / 512)
  | .macP m _ | .macOvf m => some (m / 4)
  | .port _ | .lit _ => none

/-- A free bit at a step (log 28). -/
def freeBit (t : Nat) (n : Net) : Bool := Config.asyncBit t n

/-- The configuration of a cell, in its region's active configuration. -/
def State.cellCfg (s : State) (c : Nat) : Option CellCfg :=
  (s.body (c / 512)).bind fun b => b.cells.find? fun k => k.cell == c

/-- The configuration of a slice. -/
def State.macCfg (s : State) (m : Nat) : Option MacCfg :=
  (s.body (m / 4)).bind fun b => b.macs.find? fun k => k.slice == m

/-- The content of a RAM cell; free under a clock whose edges are not the model's. -/
def State.ramContent (s : State) (t : Nat) (k : CellCfg) : BitVec 16 :=
  if s.asyncLine k.clk then BitVec.ofNat 16 (Config.asyncWord t k.cell) else lookup 0 (s.regionOf (k.cell / 512)).ram k.cell

/-- A flip-flop's output (R602, R603). -/
def State.ffOut (s : State) (t c : Nat) : Bool :=
  match s.cellCfg c with
  | none => freeBit t (.ff c)
  | some k =>
    if k.rst && (s.regionOf (c / 512)).resetOn then k.iv
    else if s.asyncLine k.clk then freeBit t (.ff c)
    else lookup false (s.regionOf (c / 512)).ff c

/-- A slice's registers as its outputs show them (R608, R609). -/
def State.macOut (s : State) (t m : Nat) (p : MacSt → Bool) (n : Net) : Bool :=
  match s.macCfg m with
  | none => freeBit t n
  | some k => if s.asyncLine k.clk then freeBit t n else p (lookup {} (s.regionOf (m / 4)).mac m)

/-- A pin-sourced line is not stopped; one whose pin shows no edges keeps following it (R618). -/
def State.pinLineRuns (s : State) (k : Nat) : Bool :=
  s.isActive 0x28 && s.regBit 0x2810 0 k && !s.pwr.stopped

/-- The first edge of line `k` at or after a step, with the steps of the line's cycle that ends there; none where the line
is stopped. The edges of a line from a pin are free (log 28). -/
def State.firstEdge (s : State) (k from_ : Nat) : Option (Nat × Nat) :=
  if s.asyncLine k then
    (if s.pinLineRuns k then some (from_ + (Config.pinEdge k from_).1, (Config.pinEdge k from_).2 + 1) else none)
  else match lookup 0 s.fclk.first k with
    | 0 => none
    | f + 1 =>
      let d := s.lineSteps k
      some (if from_ ≤ f then f else f + (from_ - f + d - 1) / d * d, d)

/-- The tick enable of line `k` as region `r` receives it at step `t` (R32, R61, R624): high for the one cycle of the
line that ends at its first edge at or after cycle 128, or after the end of the region's freeze; not presented on a line
that is stopped. -/
def State.tickEnable (s : State) (t r k : Nat) : Bool :=
  match s.firstEdge k (5 * max (s.tickStart + 128) (s.regionOf r).thawed) with
  | none => false
  | some (e, d) => decide (t ≤ e) && decide (e < t + d)

/-- The word that the RNG port presents until it is taken: the next of the output buffer, while RNG is RUNNING and no
failure stands (R633). -/
def State.rngWord (s : State) : Option Word :=
  match s.rng.buf with
  | a :: b :: c :: d :: _ => if s.isRunning 0x05 && !s.rng.errPort then some (Word.ofBytes a b c d) else none
  | _ => none

/-- The reply that a fabric SRAM port shows at an instant: the last that has arrived (R630). -/
def State.shownReply (s : State) (at_ port : Nat) : Bool × BitVec 64 :=
  (s.mem.flight.filter fun f => f.port == port && decide (f.due ≤ at_)).foldl (fun _ f => (f.err, f.data))
    (lookup (false, 0) s.mem.replies port)

/-- The level of an input port's bit as region `r` sees it (Table FAB-6, R628, R632, R633). Words are numbered 64 × port
with WORD or ENTRY in bits 0 to 31, VALID at 32, and EMPTY or ERR at 33; ports as FAB_SYNC_DROP numbers them. 960 + u is
FULL of UARTu (R793), 1024 + 128 × p the reply of SRAM port p with RDATA in bits 0 to 63 and ERR at 66, 2080 + k TICKENk,
2112 + s PSTBs. Every other level is the outside's: free (log 28). -/
def State.portBit (s : State) (t r n : Nat) : Bool :=
  let g := s.regionOf r
  if n < 960 then
    let p := n / 64
    let w := if p = 14 then s.rngWord else lookup none g.shown p
    if n % 64 = 32 then w.isSome
    else if n % 64 = 33 ∧ p = 14 then s.rng.errPort
    else if n % 64 = 33 ∧ 10 ≤ p ∧ p < 14 then (s.uartOf (p - 10)).rxq.isEmpty
    else match w with
      | some x => x.bit (n % 64)
      | none => freeBit t (.port n)
  else if 1024 ≤ n ∧ n < 2048 then
    let x := s.shownReply (t / 5) ((n - 1024) / 128)
    if (n - 1024) % 128 < 64 then x.2.getLsbD ((n - 1024) % 128)
    else if (n - 1024) % 128 = 66 then x.1
    else freeBit t (.port n)
  else if 960 ≤ n ∧ n < 964 then
    decide ((queueDepths (s.reg ((0x30 + (n - 960)) * 256 + 3))).2 ≤ (s.uartOf (n - 960)).txq.length)
  else if 2080 ≤ n ∧ n < 2086 then
    s.tickEnable t r (n - 2080)
  else if 2112 ≤ n ∧ n < 2120 then g.pstb.bit (n - 2112)
  else freeBit t (.port n)

/-- A net through the boundary gate of the receiving region `r` (R622, R623, R638): the source's value while it is RUNNING
or DRAINING; the value held while it is RELOADING; else the park value that the receiver's image declares. -/
def State.gated (s : State) (r : Nat) (n : Net) (live : Bool) : Bool :=
  match netRegion n with
  | none => live
  | some q =>
    if q = r || s.isActive (0x20 + q) then live
    else if (s.unit (0x20 + q)).st = .reloading then
      match n with
      | .comb c => lookup false (s.regionOf q).gate c
      | _ => live
    else match s.body r with
      | none => false
      | some b => ((b.park.find? fun p => p.1 == n).map fun p => p.2).getD false

/-- The value that region `r` receives on a net at step `t`. `fuel` bounds the combinational path: a loop is free. -/
def State.net (s : State) (t : Nat) : Nat → Nat → Net → Bool
  | _, _, .lit b => b
  | _, r, .port n => s.portBit t r n
  | _, r, .ff c => s.gated r (.ff c) (s.ffOut t c)
  | _, r, .macP m i => s.gated r (.macP m i) (s.macOut t m (fun x => x.p.getLsbD i) (.macP m i))
  | _, r, .macOvf m => s.gated r (.macOvf m) (s.macOut t m (fun x => x.ovf) (.macOvf m))
  | 0, _, .comb c => freeBit t (.comb c)
  | fuel + 1, r, .comb c =>
    s.gated r (.comb c) (match s.cellCfg c with
      | none => freeBit t (.comb c)
      | some k => combOut k (s.ramContent t k) (k.ins.map (State.net s t fuel (c / 512))))

/-- The longest combinational path: one that passes every cell once. -/
def fabricCells : Nat := 4096

/-- A vector that nets spell, the first the least significant bit. -/
def State.netBits (s : State) (t r : Nat) (l : List Net) : Nat := bitsNat (l.map (s.net t fabricCells r))

/-! ### One step of the fabric -/

/-- The region reset still holds at an edge at step `t`: its release takes effect at an edge that follows it by the setup time
(R603, R608). -/
def State.inReset (s : State) (t r : Nat) : Bool := (s.regionOf r).resetOn || decide (t < (s.regionOf r).freeStep)

/-- A flip-flop at an edge of its clock (R600, R602, R603). -/
def State.ffEdge (s : State) (t r : Nat) (c : CellCfg) : Bool :=
  if c.rst && s.inReset t r then c.iv
  else if (c.ce.map (s.net t fabricCells r)).getD true then s.net t fabricCells r (.comb c.cell)
  else s.ffOut t c.cell

/-- A RAM cell at an edge of its clock (R604). -/
def State.ramEdge (s : State) (t r : Nat) (c : CellCfg) : BitVec 16 :=
  let old := s.ramContent t c
  if !s.net t fabricCells r c.we then old
  else
    let a := s.netBits t r (c.ins.take 4)
    (old &&& ~~~(1#16 <<< a)) ||| (if s.net t fabricCells r c.wd then 1#16 <<< a else 0)

/-- CASC_IN of a slice (R610, R622). -/
def State.cascIn (s : State) (t r m : Nat) : BitVec 48 :=
  if m % 8 = 0 then 0
  else BitVec.ofNat 48 (s.netBits t r ((List.range 48).map fun i => .macP (m - 1) i))

/-- A slice at an edge of its clock. -/
def State.sliceEdge (s : State) (t r : Nat) (c : MacCfg) : MacSt :=
  let g := s.regionOf r
  if s.inReset t r then {}
  else macEdge c (lookup {} g.mac c.slice) (s.cascIn t r c.slice) (BitVec.ofNat 18 (s.netBits t r c.a))
    (BitVec.ofNat 18 (s.netBits t r c.b)) (s.net t fabricCells r c.ce) (s.net t fabricCells r c.load)

/-- The synchroniser of an input port at an edge of its line: the word that waits is presented, for one cycle (R628). -/
def syncEdge (g : RegionSt) (port : Nat) : RegionSt :=
  { g with shown := insert none g.shown port (lookup none g.held port)
           held := insert none g.held port none }

/-- Region `r` after the edges of `lines` at step `t`; only a region that is RUNNING or DRAINING is clocked (R638,
R624). -/
def State.regionStep (s : State) (t : Nat) (lines : List Nat) (r : Nat) : RegionSt :=
  let g := s.regionOf r
  match s.body r with
  | none => g
  | some b =>
    if !s.isActive (0x20 + r) then g
    else
      let on := fun (k : Nat) => lines.contains k
      let g1 : RegionSt := { g with
        ff := (b.cells.filter fun c => on c.clk).foldl (fun m c => insert false m c.cell (s.ffEdge t r c)) g.ff
        ram := (b.cells.filter fun c => c.kind == 1 && on c.clk).foldl
          (fun m c => insert 0 m c.cell (s.ramEdge t r c)) g.ram
        mac := (b.macs.filter fun c => on c.clk).foldl
          (fun m c => insert {} m c.slice (s.sliceEdge t r c)) g.mac }
      let g2 := (b.reads.filter fun p => on p.2).foldl (fun g p => syncEdge g p.1) g1
      if on b.strobeClk then { g2 with pstb := g2.pulse, pulse := 0 } else g2

/-- Every edge of a step acts at once on what stood before it (R616). -/
def State.fabricStep (s : State) (t : Nat) : State :=
  let lines := (List.range 6).filter (s.edgeAt t)
  if lines.isEmpty then s
  else s.each (List.range 8) fun z r => z.setRegion r (s.regionStep t lines r)

/-- The fabric runs for `n` system cycles. -/
def State.fabricRun (s : State) (n : Nat) : State :=
  if s.fclk.first.isEmpty then s
  else s.each ((List.range (5 * n)).map fun i => 5 * s.now + i) State.fabricStep

/-! ### The clock -/

/-- `n` system cycles pass: the fabric runs, the clock advances, and the log takes an event in each cycle (R362). -/
def State.elapse (s : State) (n : Nat) : State :=
  let s1 := s.fabricRun n
  State.takeEvents (min n 32) { s1 with now := s1.now + n, cyc := s1.cyc + n }

/-- The clock advances to an instant, if it is not there yet. -/
def State.reach (s : State) (t : Nat) : State := s.elapse (t - s.now)

/-! ### What a region's own changes do -/

/-- The values of a region's cells as its neighbours hold them while it is RELOADING (R622). -/
def State.saveGate (s : State) (r : Nat) : State :=
  match s.body r with
  | none => s
  | some b => s.setRegion r { s.regionOf r with
      gate := b.cells.foldl (fun m c => insert false m c.cell (s.net (5 * s.now) fabricCells r (.comb c.cell))) [] }

/-- Flip-flops and RAM cells that a test picks take values that the spec does not give (log 28). -/
def State.scramble (s : State) (r : Nat) (f : CellCfg → Bool) : State :=
  match s.body r with
  | none => s
  | some b =>
    let g := s.regionOf r
    let t := 5 * s.now
    s.setRegion r { g with
      ff := (b.cells.filter f).foldl (fun m c => insert false m c.cell (freeBit t (.ff c.cell))) g.ff
      ram := (b.cells.filter fun c => c.kind == 1 && f c).foldl
        (fun m c => insert 0 m c.cell (BitVec.ofNat 16 (Config.asyncWord t c.cell))) g.ram }

/-- A slice's registers as a free value gives them. -/
def freeMac (x : Nat) : MacSt :=
  { a := BitVec.ofNat 18 x, b := BitVec.ofNat 18 (x / 2 ^ 18), load := x.testBit 36, p := BitVec.ofNat 48 (x / 2 ^ 37),
    ovf := x.testBit 85 }

/-- The slices that a test picks take values that the spec does not give. -/
def State.scrambleMacs (s : State) (r : Nat) (f : MacCfg → Bool) : State :=
  match s.body r with
  | none => s
  | some b => s.setRegion r { s.regionOf r with
      mac := (b.macs.filter f).foldl
        (fun m c => insert {} m c.slice (freeMac (Config.asyncWord (5 * s.now) (4096 + c.slice)))) (s.regionOf r).mac }

/-- The power of a region's logic goes off: its flip-flops, RAM cells and slices hold nothing that the spec gives. -/
def State.powerLost (s : State) (r : Nat) : State := (s.scramble r fun _ => true).scrambleMacs r fun _ => true

/-- A line that has followed a pin follows the PLL from this commit on: what it has clocked is not known (log 28). -/
def State.fromPin (v : Nat → Nat → Word) (s : State) (k : Nat) : State :=
  if s.reg (0x2808 + k) != 0 && v (0x2808 + k) 0 == 0 then
    s.each (List.range 8) fun s r => (s.scramble r fun c => c.clk == k).scrambleMacs r fun c => c.clk == k
  else s

end Sys2Proof.Machine
end

