-- ==== Sys2Proof/Machine/Flags.lean ====
section
/-! DEFINITION. Every flag and status computation: result word flags, thermometer counters, ratchet bits, access,
the class A hold bits, ALERT_N, ring levels, clamp and switch states. -/

namespace Sys2Proof.Machine

/-! ### Result words (R7, R8, R11, R12) -/

/-- The flag bits of a result word: SUS, CAL, OVR, PRE, LAST. -/
def flagBits (sus cal ovr pre last : Bool) : Word :=
  Word.of (sus.toNat * 16 + cal.toNat * 8 + ovr.toNat * 4 + pre.toNat * 2 + last.toNat)

/-- A result word from its 22-bit value, its entry and its flags (Table SCOPE-3). -/
def packResult (value : Int) (entry : Nat) (flags : Word) : Word :=
  Word.of (intBits value 22 * 1024 + entry % 32 * 32) ||| (flags &&& 0x1F)

/-- The value of a result word. -/
def resultValue (w : Word) : Int := Word.signed (w >>> 10) 22

/-- The entry of a result word. -/
def resultEntry (w : Word) : Nat := w.bits 5 5

/-- The nearest integer to `n / d`, ties to even, for `d > 0` (R469, R558). -/
def roundEven (n : Int) (d : Nat) : Int :=
  let q := n / d
  let r := 2 * (n % d)
  if r < d then q else if r > d then q + 1 else if q % 2 = 0 then q else q + 1

/-- A value clipped to a range, and whether it was outside (R12). -/
def clip (v lo hi : Int) : Int × Bool := if v < lo then (lo, true) else if hi < v then (hi, true) else (v, false)

/-! ### Sinter -/

/-- One copy of a fuse row. -/
def State.fuseCopy (s : State) (second : Bool) (r : Nat) : Word :=
  lookup 0 (if second then s.sint.copy1 else s.sint.copy0) r

/-- A logical fuse row: the OR of its copies (R157, R214). -/
def State.fuseRow (s : State) (r : Nat) : Word := s.fuseCopy false r ||| s.fuseCopy true r

/-- A delivered row of a critical region (R177). -/
def State.dlvRow (s : State) (r : Nat) : Word := lookup 0 s.sint.dlv r

/-- First row and steps of a thermometer counter (Table SINT-4). -/
def counterShape (c : Nat) : Nat × Nat :=
  if c = 0 then (32, 128) else if c = 1 then (36, 8) else if c = 2 then (37, 64) else (39, 64)

/-- Position `p` of a counter (R186). -/
def State.counterBit (s : State) (c p : Nat) : Bool := (s.fuseRow ((counterShape c).1 + p / 32)).bit (p % 32)

/-- The value of a counter: one more than the highest set position (R187). -/
def State.counterValue (s : State) (c : Nat) : Nat :=
  (List.range (counterShape c).2).foldl (fun v p => if s.counterBit c p then p + 1 else v) 0

/-- A counter has a gap (R188). -/
def State.counterGap (s : State) (c : Nat) : Bool :=
  (List.range (s.counterValue c)).any fun p => !s.counterBit c p

/-- A counter in the layout of SINTER.SECVER. -/
def State.counterWord (s : State) (c : Nat) : Word :=
  let v := s.counterValue c
  Word.of (v + ((counterShape c).2 - v) * 256 + (s.counterGap c).toNat * 65536)

/-- The ratchet bits in force (R182, SINTER.SEC_EFFECTIVE): SB_ENFORCE, DEBUG_LOCK, JTAG_DISABLE, REVOKE0, REVOKE1, as the
start-up delivered them; a burn that completes in the run enters the delivered row (R678, R706, R712, log 44). -/
def State.ratchet (s : State) (i : Nat) : Bool :=
  (s.dlvRow 31).bit (20 + i) || (s.sint.forced && i < 3)

/-- PUMP_DISABLE reads 1 (R162, R202): as delivered, or as the fuse stands after a burn of this run (log 63). -/
def State.pumpOff (s : State) : Bool := (s.dlvRow 16).bit 10 || (s.fuseRow 16).bit 10

/-- The hash field of a root-key slot: its 14 bytes (R165). -/
def State.keyHash (s : State) (slot : Nat) : List Byte :=
  let bs := ((List.range 7).map fun i => (s.dlvRow (24 + i)).bytes).flatten
  (bs.drop (14 * slot)).take 14

/-- A root-key slot is neither empty nor revoked (R166). -/
def State.keyUsable (s : State) (slot : Nat) : Bool :=
  (s.keyHash slot).any (· != 0) && !s.ratchet (3 + slot)

/-! ### Access (chapter 14) -/

/-- Test access is open (R661). -/
def State.testOpen (s : State) : Bool := !s.ratchet 2 || s.sec.scope / 2 % 2 == 1

/-- Debug access is open (R656, R660, R661). -/
def State.debugOpen (s : State) : Bool :=
  ((s.sec.life != 2 && !s.ratchet 1) || s.sec.scope % 2 == 1) && s.testOpen

/-- SEC.ACCESS (Table SEC-3). -/
def State.secAccess (s : State) : Word :=
  Word.of ((s.ratchet 0).toNat + s.debugOpen.toNat * 2 + s.testOpen.toNat * 4)

/-! ### ALERT_N (R365, R368) -/

/-- ALERT_N is asserted: before release only through FUMA.ALERT_FIXED. -/
def State.alert (s : State) : Bool := (s.released && s.reg 0x0605 != 0) || s.reg 0x0606 != 0

/-- The test instruction that is loaded, EXTEST, CLAMP or HIGHZ, takes the outputs from the functional logic, which sees no
sign of it (R869). -/
def State.tapOverrides (s : State) : Bool := s.tap.ir == 0x00 || s.tap.ir == 0x04 || s.tap.ir == 0x05

/-! ### Sequencer entries -/

/-- Entry `i` of sequencer `n` (Table SEQ-1). -/
def State.entry (s : State) (n i : Nat) : Word := s.reg (seqUnit n * 256 + 0x20 + i)

/-- The CLASS field of an entry: 0 EMPTY, 1 A, 2 B, 3 C. -/
def entryClass (e : Word) : Nat := e.bits 16 2

/-- The class A entries that count towards R53 (R509). -/
def State.aEntries (s : State) (n : Nat) : List Word :=
  ((List.range 32).map (s.entry n)).filter fun e => entryClass e == 1

/-! ### Fabric -/

/-- Clock line `k` meets the condition of a class A path (R634, R635). -/
def State.lineOkA (s : State) (k : Nat) : Bool :=
  s.regBit 0x2810 0 k && s.reg (0x2808 + k) == 0 && s.regN (0x2800 + k) ≤ 20 && s.isActive 0x28

/-- A region declares class A paths and one of them counts as not declared (R635). -/
def State.pathsBad (s : State) (r : Nat) : Bool :=
  match s.body r with
  | none => false
  | some b => b.aPaths.any fun p => p.2.any fun k => !s.lineOkA k

/-! ### TICK.A_HOLD (R53, R56, R635, R843) -/

/-- The conditions of R53 that fail now: bit of TICK.A_HOLD, unit concerned, condition of Table UNIT-5 (log 13). -/
def State.aFailing (s : State) : List (Nat × Nat × Nat) :=
  ([0, 1].flatMap fun n =>
    let es := s.aEntries n
    if es.isEmpty then [] else
      (if 4 < es.length then [(n, convUnit n, 1)] else []) ++
      ([convUnit n, seqUnit n].filter fun u => !s.isRunning u).map (fun u => (n, u, 4)) ++
      ((List.range 8).filter fun f =>
        es.any (fun e => e.bit 23 && e.bits 24 3 == f) && !s.isRunning (0x10 + f)).map fun f => (n, 0x10 + f, 4)) ++
  ((List.range 8).flatMap fun r =>
    match s.body r with
    | none => []
    | some b =>
      if b.aPaths.isEmpty then []
      else if !s.isRunning (0x20 + r) then [(2, 0x20 + r, 4)]
      else if s.pathsBad r then [(2, 0x20 + r, 2)] else []) ++
  (if ([0, 1].any fun n => (s.aEntries n).any fun e => e.bit 18) ||
      (List.range 4).any (fun c => s.regBit (0x3800 + c) 0 0 && (s.reg (0x3800 + c)).bits 1 2 == 1)
   then (if s.isRunning 0x38 then [] else [(3, 0x38, 4)]) else []) ++
  (if s.regBit 0x0018 0 0 || (2000 : Int) < (s.reg 0x000E).signed 16
   then (List.range 4).map fun b => (b, 0, 3) else [])

/-- TICK.A_HOLD follows its conditions: a bit falls at once, with one A_HOLD_LOST for each newly failing condition,
and returns only at a boundary (R56). Before release it reads 0 (R280). -/
def State.refreshHold (s : State) (boundary : Bool) : State :=
  if !s.released then { s.setReg 0x010E 0 0 with tick := { s.tick with aFails := [] } }
  else
    let fails := s.aFailing
    let s1 := s.each (fails.filter fun f => !s.tick.aFails.contains f)
      fun s f => s.emit f.2.1 evAHoldLost (f.1 + f.2.2 * 65536)
    let s2 : State := { s1 with tick := { s1.tick with aFails := fails } }
    s2.setReg 0x010E 0 (fails.foldl (fun w f => w.setBit f.1 false) (if boundary then 0xF else s2.reg 0x010E))

/-! ### Rings -/

/-- Owning sequencer's unit and index of a ring (R530). -/
def ringUnit (ring : Nat) : Nat := seqUnit (ring / 8 % 2)
def ringId (ring idx : Nat) : Nat := ringUnit ring * 256 + idx + ring % 8

/-- Words a ring holds (R532). -/
def ringSize (cfg : Word) : Nat := 2 ^ cfg.bits 0 5 / 4

/-- The level of a ring (R533). -/
def State.ringLevel (s : State) (ring : Nat) : Nat :=
  let n := ringSize (s.reg (ringId ring 0x58))
  (s.regN (ringId ring 0x60) + n - s.regN (ringId ring 0x68)) % n

/-- The threshold level of a ring in words, 0 where it is disabled (Table SEQ-3). -/
def ringThresh (cfg : Word) : Nat := cfg.bits 16 8 * ringSize cfg / 256

/-- THRESH is brought up to date; a rise to the threshold sets THRESH_SEEN and, with EVT, logs SEQ_RING_THRESH
(R536). -/
def State.refreshThresh (s : State) (ring : Nat) : State :=
  let cfg := s.reg (ringId ring 0x58)
  let was := s.regBit (ringId ring 0x70) 0 0
  let lvl := s.ringLevel ring
  let isUp := 0 < cfg.bits 16 8 && ringThresh cfg ≤ lvl
  let s1 := s.setRegBit (ringId ring 0x70) 0 0 isUp
  if isUp && !was then
    let s2 := s1.setRegBit (ringId ring 0x70) 0 1 true
    if cfg.bit 12 then s2.emit (ringUnit ring) evSeqRingThresh (ring + lvl * 256) else s2
  else s1

/-! ### The switch matrix -/

/-- A pin is isolated by its clamp (R422). -/
def State.isolated (s : State) (pin : Nat) : Bool := pin < 24 && s.wire.iso.bit pin

/-- A switch is actually closed: its programmed setting is, and no clamp holds it open (R422). -/
def State.switchClosed (s : State) (p : Nat × Nat) : Bool :=
  !(s.isolated p.1 && p.1 < 24) && !(s.isolated p.2)

/-- AMTX.CLOSED (R423). -/
def State.closedCount (s : State) : Nat := (s.closed.filter s.switchClosed).length

/-! ### Pins in the source set (R439) -/

/-- The switches take other settings at an instant; what was closed before it is kept for the results sampled before it
(R439). -/
def State.setClosed (s : State) (at_ : Nat) (l : List (Nat × Nat)) : State :=
  if l = s.closed then s
  else { s with closed := l, wire := { s.wire with routes := (at_, s.closed) :: s.wire.routes } }

/-- The pins that a source code adds to a source set by the routes `closed`; `fuel` bounds a chain of cells (R383, R883).
The routes count as the matrix holds them, whether or not a clamp holds a switch open (log 14). -/
def sourcePins (closed : List (Nat × Nat)) : Nat → Nat → Word
  | 0, _ => 0
  | fuel + 1, code =>
    if code < 24 then
      let src := lookup 0xFF closed code
      (1#32 <<< code) ||| (if src < 24 then 1#32 <<< src else 0)
    else if 0x20 ≤ code ∧ code < 0x30 then
      let n := code - 0x20
      sourcePins closed fuel (lookup 0xFF closed (32 + 2 * n)) ||| sourcePins closed fuel (lookup 0xFF closed (33 + 2 * n))
    else 0

end Sys2Proof.Machine
end

