-- ==== Sys2Proof/Machine/Check.lean ====
section
/-! DEFINITION. The procedure of a wire check (R427 to R437, R450, R451): it is carried on line by line, each with the
settings in force when the line begins (R67). Nothing but a command changes what a line reads, so the lines are made up
when such a command comes, and when the check finishes. A line that begins in the cycle of a change uses what is new
(DESIGN CHOICE, log 65). -/

namespace Sys2Proof.Machine

/-- A pin is monitored (R425). -/
def monitored (cfg : Word) : Bool := cfg.bit 0 || cfg.bit 2

/-- The measurements of a pin. -/
def WireRun.measOf (r : WireRun) (pin : Nat) : WireMeas :=
  (r.meas.find? fun m => m.pin.val == pin).getD { pin := 0, v0 := 0, v1 := 0, d0 := 0, d1 := 0 }

/-- The verdict of the open part of a check (R429): 0 OK, 1 OPEN, 2 SHORT_LOW. -/
def State.openVerdict (s : State) (pin : Nat) (m : WireMeas) : Nat :=
  if (s.regN 0x1B11 : Int) < m.v1 - m.v0 ∨ (s.regN 0x1B12 : Int) ≤ m.v1 then 1
  else if s.regBit 0x1B00 pin 1 ∧ m.v0 < (s.regN 0x1B13 : Int) then 2
  else 0

/-- The excitation DAC of a pin (WIRE.PAIR), and whether it can carry a step (R436). -/
def State.excitation (s : State) (pin : Nat) : Nat × Bool :=
  let dac := (s.reg 0x1B04 pin).bits 6 2
  (dac, s.regBit 0x1A04 dac 0 && s.reg 0x1A01 dac != 0 && s.isActive 0x1A)

/-- The expected sign of a pin is positive (R435). -/
def State.expected (s : State) (pin : Nat) : Bool :=
  (s.reg 0x1A01 (s.excitation pin).1 == 1) != s.regBit 0x1B04 pin 5

/-- The verdict of the reversal part (R429, R435): REVERSED where the step has the wrong sign. -/
def State.reversed (s : State) (pos : Bool) (m : WireMeas) : Bool :=
  let d := m.d1 - m.d0
  decide ((s.regN 0x1B15 : Int) ≤ d.natAbs) && decide (0 < d) != pos

/-- The check of the pin in work is over at an instant: its verdict stands until the check finishes. A clamp flag in its
course makes it CLAMPED (R451). -/
def WireRun.close (r : WireRun) (c : PinCheck) (t verdict : Nat) (skipped : Bool) : WireRun :=
  { r with cur := none, at_ := t
           found := r.found ++ [{ pin := c.pin, verdict := if c.clamp then 4 else verdict, skipped := skipped }] }

/-- The line of the procedure that follows when the pin in work has ended its line. -/
def State.nextLine (s : State) (r : WireRun) (c : PinCheck) : WireRun :=
  let wait := s.regN 0x1B10
  match c.line with
  | .v0 => { r with cur := some { c with line := .current, endT := c.endT + wait } }
  | .current => { r with cur := some { c with line := .v1, endT := c.endT + 400 } }
  | .v1 =>
    let v := s.openVerdict c.pin (r.measOf c.pin)
    if v != 0 || c.clamp || !s.regBit 0x1B00 c.pin 2 then r.close c c.endT v false
    else if !(s.excitation c.pin).2 then r.close c c.endT v true
    else { r with cur := some { c with line := .d0, endT := c.endT + 400, dac := (s.excitation c.pin).1
                                       pos := s.expected c.pin } }
  | .d0 => { r with cur := some { c with line := .step, endT := c.endT + wait, step := s.reg 0x1B14 } }
  | .step => { r with cur := some { c with line := .d1, endT := c.endT + 400 } }
  | .d1 => r.close c c.endT (if s.reversed c.pos (r.measOf c.pin) then 3 else 0) false

/-- The instant at which a check goes on: the pin in work has ended its line, or the next pin's turn comes. -/
def WireRun.goesOn (r : WireRun) : Option Nat := match r.cur, r.todo with
  | some c, _ => some c.endT
  | none, [] => none
  | none, _ => some r.at_

/-- A check goes on by one line, or by one pin: a pin that is flagged as its turn comes is CLAMPED and takes no time. -/
def State.goOn (s : State) (r : WireRun) : WireRun := match r.cur, r.todo with
  | some c, _ => s.nextLine r c
  | none, [] => r
  | none, p :: ps =>
    let r1 := { r with todo := ps }
    if s.regBit 0x1B17 0 p then { r1 with found := r1.found ++ [{ pin := p, verdict := 4 }] }
    else { r1 with cur := some { pin := p, line := .v0, endT := r.at_ + 400 } }

/-- A check carried on by at most `n` lines, as far as they begin before the instant `t`. -/
def State.carryOn (s : State) (t : Nat) : Nat → WireRun → WireRun
  | 0, r => r
  | n + 1, r => match r.goesOn with
    | none => r
    | some u => if u < t then State.carryOn s t n (s.goOn r) else r

/-- A check takes at most seven lines for each of 24 pins. -/
def checkLines : Nat := 168

/-- The check in progress is carried on to the present cycle. It is the first of those that have begun: the one check
monitor (R427) serves them one after the other (log 45). -/
def State.keepUp (s : State) : State := match s.wire.runs with
  | [] => s
  | r :: rest => { s with wire := { s.wire with runs := s.carryOn s.now checkLines r :: rest } }

/-- The check in progress, changed. -/
def State.mapRun (s : State) (f : WireRun → WireRun) : State := match s.wire.runs with
  | [] => s
  | r :: rest => { s with wire := { s.wire with runs := f r :: rest } }

/-- The excitation step of a check is applied on DAC `ch` at an instant. -/
def PinCheck.applies (c : PinCheck) (ch t : Nat) : Bool :=
  c.dac == ch && (c.line == .step || (c.line == .d1 && decide (t < c.endT)))

/-- The step, if it is applied on DAC `ch` now, is withdrawn: the reversal part of that pin gives no verdict, REV_SKIPPED
is set, the open verdict stands, and the next pin's turn comes at once (R450). -/
def WireRun.withdraw (now ch : Nat) (r : WireRun) : WireRun := match r.cur with
  | some c => if c.applies ch now then { r.close c now 0 true with least := now } else r
  | none => r

/-- R450 for the check in progress. -/
def State.withdrawStep (s : State) (ch : Nat) : State := s.keepUp.mapRun (WireRun.withdraw s.now ch)

/-- The code that the output of a channel delivers: the code in force with the step of a check added, saturating
(R437). -/
def State.excited (s : State) (ch : Nat) : Nat :=
  let step := match s.keepUp.wire.runs.head?.bind fun r => r.cur with
    | some c => if c.applies ch s.now then c.step.toNat else 0
    | none => 0
  min 0xFFFF (s.regN 0x1A03 ch + step)

/-- A clamp flags the pin in work (R451). -/
def WireRun.clampPin (pin : Nat) (now : Nat) (r : WireRun) : WireRun := match r.cur with
  | some c => if c.pin = pin ∧ now < c.endT then { r with cur := some { c with clamp := true } } else r
  | none => r

/-- The wire checks in progress that a test picks end without a verdict, current and step withdrawn (R452). -/
def State.dropWireRuns (s : State) (f : WireRun → Bool) : State :=
  { s with wire := { s.wire with runs := s.wire.runs.filter fun r => !f r } }

end Sys2Proof.Machine
end

