-- ==== Sys2Proof/Machine/Grid.lean ====
section
/-! DEFINITION. The converters' slices and sample grids (R460, R461, R479, R486, R888), and the sampling instants of a run
(R506, R508, R516). -/

namespace Sys2Proof.Machine

/-- The values of every parameter at some instant, by ID and sub-index. -/
abbrev View := Nat → Nat → Word

/-! ### Slice maps (R486) -/

/-- Slices that are not retired. -/
def State.slicesLeft (s : State) (n : Nat) : List Nat :=
  (List.range 5).filter fun k => !s.regBit (convUnit n * 256 + 8) 0 k

/-- SLICE_MAP from slices in positions and a spare. -/
def packMap (pos : List Nat) (spare : Nat) : Word :=
  Word.of (pos.getD 0 7 + pos.getD 1 7 * 8 + pos.getD 2 7 * 64 + pos.getD 3 7 * 512 + spare * 4096)

/-- The slice map on entry to a mode, from the slices that are not retired. -/
def entryMap (mode : Nat) (left : List Nat) : Word :=
  let n := if mode = 0 then 4 else if mode = 1 then 2 else 1
  packMap (left.take n) (if mode = 2 then 7 else left.getD n 7)

/-- Positions of a mode. -/
def modePositions (mode : Nat) : Nat := if mode = 0 then 4 else if mode = 1 then 2 else 1

/-- ROT_STALLED: FULL or HALF mode without a spare (R479). -/
def State.refreshStalled (s : State) (n : Nat) : State :=
  let u := convUnit n * 256
  s.setRegBit (u + 6) 0 4 (s.regN (u + 1) ≤ 1 && (s.reg (u + 7)).bits 12 3 == 7)

/-- The positions in use of converter `n`. -/
def State.positions (s : State) (n : Nat) : Nat := modePositions (s.regN (convUnit n * 256 + 1))

/-- The slices in positions. -/
def State.active (s : State) (n : Nat) : List Nat :=
  (List.range (s.positions n)).map fun p => (s.reg (convUnit n * 256 + 7)).bits (3 * p) 3

/-- The spare slice, 7 where there is none. -/
def State.spare (s : State) (n : Nat) : Nat := (s.reg (convUnit n * 256 + 7)).bits 12 3

/-- The slices that the mode leaves off, retired ones apart. -/
def State.offSlices (s : State) (n : Nat) : List Nat :=
  (List.range 5).filter fun k =>
    !(s.active n).contains k && s.spare n != k && !s.regBit (convUnit n * 256 + 8) 0 k

/-- HEALTH follows the SUSPECT marks of the active slices, and stays set by a retirement or a timeout (R478, R479, R482,
log 17). -/
def State.refreshHealth (s : State) (n : Nat) : State :=
  let b := convUnit n * 256
  s.setRegBit (b + 6) 0 2 ((s.convOf n).latched || (s.active n).any fun k => s.regBit (b + 9) 0 k)

/-! ### Cold calibration (R888) -/

/-- The cold step that is next starts now: a spare step, then one step for each other slice that the mode leaves off in
ascending number, and then a spare step again. It goes by the mode and by RESID_WARN as they stand (R496, R888). -/
def State.startCold (s : State) (n : Nat) : State :=
  let b := convUnit n * 256
  let x := s.convOf n
  let trickle : Bool := s.regN (b + 1) == 2
  let off := s.offSlices n
  let acting := if trickle then off.headD 7 else s.spare n
  let others := if trickle then off.drop 1 else off
  let begin_ := fun (k turn : Nat) (spare : Bool) => s.setConv n { x with
    turn := turn, cold := some { slice := k, spare := spare, start := s.now, warn := s.regN (b + 4) } }
  if !s.regBit (b + 6) 0 1 then s.setConv n { x with cold := none }
  else match (if x.turn = 0 then none else others.find? fun k => x.turn ≤ k + 1) with
    | some k => begin_ k (k + 2) false
    | none => if acting = 7 then s.setConv n { x with cold := none } else begin_ acting 1 true

/-- The grid of a converter ends, and with it what waits for a sample instant; its cold calibration is abandoned (R461,
R497). -/
def State.stopConv (s : State) (n : Nat) : State :=
  (s.setConv n { s.convOf n with grid := none, waiting := none, cold := none, meas := [], close := [] }).setRegBit
    (convUnit n * 256 + 6) 0 1 false

/-! ### The sample grid (R460, R461, R516) -/

/-- The grid interval of a converter in cycles (R460, R488). -/
def gridInterval (v : View) (n : Nat) : Nat :=
  let m := (v (convUnit n * 256 + 1) 0).toNat
  if m = 0 then 4 else if m = 1 then 8 else (v (convUnit n * 256 + 2) 0).toNat

/-- The first grid instant at or after an instant. -/
def gridAt (anchor iv x : Nat) : Nat := anchor + (x - anchor + iv - 1) / iv * iv

/-- Interval of converter `n` in force. -/
def State.interval (s : State) (n : Nat) : Nat := max 1 (gridInterval (fun a b => s.reg a b) n)

/-- The first grid instant of converter `n` at or after an instant. -/
def State.gridFrom (s : State) (n x : Nat) : Nat := gridAt ((s.convOf n).grid.getD 0) (s.interval n) x

/-- The entry that a sampling instant uses: before cycle 128 of the last commit tick, the one before it (R508). -/
def State.entryAt (s : State) (n t e : Nat) : Word :=
  let q := s.seqOf n
  if t < q.commitT then (q.oldEnt[e]?).getD (s.entry n e) else s.entry n e

/-- Sampling instants of a run from entry `e` at instant `t` on, with the interruptions already known. -/
def State.runTimes (s : State) (n : Nat) (brks : List (Nat × Nat)) : Nat → Nat → Nat → List (Nat × Nat)
  | 0, _, _ => []
  | fuel + 1, e, t =>
    let w := s.entryAt n t e
    if 32 ≤ e ∨ entryClass w = 0 then []
    else (e, t) ::
      (if w.bit 27 then [] else
        State.runTimes s n brks fuel (e + 1) (match brks.find? fun b => b.1 == e + 1 with
          | some b => b.2
          | none => s.gridFrom n (t + 1)))

end Sys2Proof.Machine
end

