-- ==== Sys2Proof/Machine/Params.lean ====
section
/-! DEFINITION. Parameter values: what each parameter accepts by itself, what several must hold together for the
values in force and pending, the nominal durations and plan checks of chapter 1, and what a parameter reads as. -/

namespace Sys2Proof.Machine

/-! ### Views: the values in force after a number of boundaries -/


/-- The values in force now. -/
def State.inForce (s : State) : View := fun id sub => s.reg id sub

/-- How many boundaries ahead a tick count lies (R65: counts wrap). -/
def State.dist (s : State) (bound : Nat) : Nat := (bound + 2 ^ 48 - s.tick.count.toNat) % 2 ^ 48

/-- The value of a parameter after `d` boundaries: of the settings bound to one of them, that of the latest boundary,
and within one boundary the one executed later (R324). -/
def State.viewAt (s : State) (sets : List Setting) (d : Nat) : View := fun id sub =>
  ((sets.filter fun x => x.id == id && x.sub == sub && !x.boot && s.dist x.bound ≤ d).foldl
    (fun (a : Nat × Word) x => if a.1 ≤ s.dist x.bound then (s.dist x.bound, x.val) else a)
    (0, s.reg id sub)).2

/-- The distances at which views differ, from `d` on. -/
def State.viewDists (s : State) (sets : List Setting) (d : Nat) : List Nat :=
  d :: (((sets.filter fun x => !x.boot).map fun x => s.dist x.bound).filter (d < ·)).dedup

/-! ### What a value must satisfy by itself -/

/-- A source code of Table AFE-2 other than NONE. -/
def isSource (c : Nat) : Bool := c < 24 || (0x20 ≤ c && c ≤ 0x3C)

/-- A falling edge at bit `i` of a character, where bit 0 is the start bit and bits 1 to `n` are data (R803). -/
def fallsAt (c n i : Nat) : Bool :=
  let lvl := fun k => if k = 0 then false else if k ≤ n then c.testBit (k - 1) else true
  if i = 0 then true else i ≤ n && lvl (i - 1) && !lvl i

/-- The bits at which a character falls. -/
def fallingBits (c n : Nat) : List Nat := (List.range (n + 1)).filter (fallsAt c n)

/-- The static range of a written value (Tables TICK-6 to PWR-9 and the rules they name). -/
def valueOk (id sub : Nat) (w : Word) : Bool :=
  let u := id / 256
  let i := id % 256
  let v := w.toNat
  match paramRow id with
  | none => false
  | some row =>
    v < 2 ^ row.width &&
    (if row.acc == .w1c then true  -- R16; so also the reserved bit 3 of SYS.PWR_STATUS (DEDUCED, log 29)
     else if id = 0x0100 then 800 ≤ v && v ≤ 6553600
     else if id = 0x0201 ∨ id = 0x0204 ∨ id = 0x0205 then 1 ≤ v
     else if id = 0x0202 then v ≤ 16384
     else if id = 0x0208 then v ≤ 8
     else if u = 0x08 ∨ u = 0x09 then
       (if i = 1 then v ≤ 2 else if i = 2 then 400 ≤ v else true)
     else if u = 0x0A ∨ u = 0x0B then
       (if 0x10 ≤ i ∧ i ≤ 0x17 then
          let src := w.bits 0 6
          w.bits 8 8 == 0 && (src == 0 || (0x08 ≤ src && src ≤ 0x2F)) &&
            !(0x10 ≤ src && src ≤ 0x1F && w.bits 6 2 == 0)
        else if 0x20 ≤ i ∧ i ≤ 0x3F then isSource (w.bits 0 8) && isSource (w.bits 8 8)
        else if 0x58 ≤ i ∧ i ≤ 0x5F then 10 ≤ w.bits 0 5 && w.bits 0 5 ≤ 24 && w.bits 13 3 == 0
        else true)
     else if 0x10 ≤ u ∧ u ≤ 0x17 then
       (if i = 1 then w.bits 1 5 ≤ w.bits 6 5
        else if i = 2 then 1 ≤ v && v ≤ 100
        else if i = 4 then v == 0 || (6 ≤ v && v ≤ 24)
        else if i = 7 then 1 ≤ v && v ≤ 5
        else if i = 8 ∨ i = 9 then 1 ≤ v && v ≤ 4096
        else if i = 0x0A then v ≤ 64
        else if i = 0x0C then v ≤ 12
        else if i = 0x0E then 1 ≤ v && v ≤ 256
        else true)
     else if u = 0x18 then
       (if i = 0 then v ≤ 6 else if i = 1 then v ≤ 14
        else if i = 2 then 1000 ≤ v && v ≤ 20000000
        else if i = 3 then v == 0 || 16 ≤ v
        else if i = 7 then v ≤ 24 else if i = 8 then 1 ≤ v else true)
     else if id = 0x1900 then
       v == 0xFF || (isSource v && (if sub < 24 then v != sub else v != 0x20 + (sub - 32) / 2))
     else if u = 0x1A then
       (if i = 1 then v ≤ 2 && (sub < 4 || v == 0) else if i = 2 then v ≤ 2 else true)
     else if u = 0x1B then
       (if i = 2 then 1 ≤ v && v ≤ 256 else if i = 4 then w.bits 0 5 ≤ 23
        else if i = 0x10 then 400 ≤ v else if i = 0x11 then 20 ≤ v && v ≤ 1000
        else if i = 0x12 then 1000 ≤ v && v ≤ 1800 else if i = 0x13 then 10 ≤ v && v ≤ 500
        else if i = 0x14 then 1 ≤ v else if i = 0x15 then 4 ≤ v && v ≤ 1000 else true)
     else if u = 0x28 then (if i ≤ 5 then 8 ≤ v && v ≤ 2000 else if i ≤ 0x0D then v ≤ 4 else true)
     else if 0x30 ≤ u ∧ u ≤ 0x33 then
       (if i = 1 then 640 ≤ v && v ≤ 21333333
        else if i = 2 then w.bits 1 2 != 3
        else if i = 6 then w.bits 2 6 == 0
        else if i = 0x20 then 13 ≤ w.bits 6 5
        else if 0x40 ≤ i ∧ i ≤ 0x7F then
          w.bits 0 2 != 3 && w.bits 2 4 ≤ 8 && (w.bits 0 2 == 0 || 1 ≤ w.bits 2 4)
        else true)
     else if u = 0x38 then
       (if i < 24 then
          (w.bits 1 2 != 1 || w.bit 4) && (!w.bit 3 || w.bits 1 2 == 3) && (!w.bit 4 || (i < 4 && w.bit 9)) &&
            (!w.bit 0 || w.bits 1 2 != 0) && (!w.bit 9 || (10 ≤ w.bits 10 5 && w.bits 10 5 ≤ 24))
        else true)
     else if u = 0x39 then
       (if 0x10 ≤ i ∧ i ≤ 0x1F then w.bits 0 4 ≤ 6
        else if i = 0x80 then 256 ≤ v && v ≤ 4096 && v % 256 == 0
        else if i = 0x81 then 4 ≤ v && v ≤ 262144 else true)
     else if u = 0x3A ∨ u = 0x3B then
       (if i = 0 then u == 0x3B || v == 1
        else if i = 1 then v ≤ 2 && (u == 0x3A || v != 0)
        else if i = 2 then 23 ≤ v && v ≤ 27
        else if i = 3 then 3 ≤ v
        else if i = 4 then v == 256 || v == 512 || v == 1024 || v == 2048 || v == 4096
        else true)
     else if id = 0x3D01 then 2 ≤ v
     else true)

/-! ### Areas of memory in use (R305, R532, R739) -/

/-- Who holds an area. -/
inductive AreaKind
  | ring | segment | capture | fabric | dmaRing
  deriving DecidableEq, Repr

/-- An area: kind, owner, whether it lies in XSPI1, base and size in bytes. -/
structure Area where
  kind  : AreaKind
  owner : Nat
  xspi  : Bool
  base  : Nat
  size  : Nat
  deriving DecidableEq, Repr

def ringAreas (v : View) : List Area := (List.range 16).filterMap fun r =>
  let cfg := v (ringId r 0x58) 0
  if cfg.bit 11 then some ⟨.ring, r, cfg.bit 5, (v (ringId r 0x50) 0).toNat, 2 ^ cfg.bits 0 5⟩ else none

def segmentAreas (v : View) : List Area := (List.range 16).filterMap fun q =>
  let cfg := v (0x3910 + q) 0
  if cfg.bit 4 then some ⟨.segment, q, false, (v (0x3900 + q) 0).toNat, 4096 * 2 ^ cfg.bits 0 4⟩ else none

def dmaRingAreas (v : View) : List Area := (List.range 24).filterMap fun n =>
  let cfg := v (0x3800 + n) 0
  if cfg.bit 0 && cfg.bit 9 then
    some ⟨.dmaRing, n, cfg.bit 15, (v (0x3880 + n) 0).toNat, 2 ^ cfg.bits 10 5⟩
  else none

def State.captureAreas (s : State) : List Area := s.jobs.running.filterMap fun j =>
  match j.kind with
  | .capture c _ a n _ _ => some ⟨.capture, sideN c, false, a, 4 * n⟩
  | _ => none

def State.fabricAreas (s : State) : List Area := (List.range 8).flatMap fun r =>
  match s.body r with
  | none => []
  | some b => b.windows.map fun w => ⟨.fabric, w.1, false, w.2.1, w.2.2⟩

/-- Two areas overlap. -/
def Area.hits (a b : Area) : Bool := a.xspi == b.xspi && a.base < b.base + b.size && b.base < a.base + a.size

/-- An area lies in its space. -/
def Area.inside (v : View) (a : Area) : Bool :=
  a.base + a.size ≤ (if a.xspi then 2 ^ (v 0x3B02 0).toNat - 4096 else sramBytes)

/-- The placement rules of ring `r` (R532, R739, R740). -/
def State.ringOk (s : State) (v : View) (r : Nat) : Bool :=
  match (ringAreas v).find? fun a => a.owner == r with
  | none => true
  | some a =>
    a.inside v && a.base % a.size == 0 &&
      ((ringAreas v ++ segmentAreas v ++ s.captureAreas ++ s.fabricAreas).all fun b => (b.kind == .ring && b.owner == r) || !a.hits b) &&
      (!a.xspi || (ringAreas v).all fun b => b.owner == r || !b.xspi ||
        (v (ringId b.owner 0x58) 0).bits 6 4 != (v (ringId r 0x58) 0).bits 6 4)

/-- The placement rules of the Geyser segments (R739). -/
def State.segmentsOk (s : State) (v : View) : Bool :=
  let segs := segmentAreas v
  (segs.map Area.size).foldl (· + ·) 0 ≤ 0x200000 &&
    segs.all fun a => a.inside v && a.base % a.size == 0 &&
      (segs ++ ringAreas v ++ dmaRingAreas v ++ s.captureAreas ++ s.fabricAreas).all fun b =>
        (b.kind == .segment && b.owner == a.owner) || !a.hits b

/-- The rules of DMA channel `n` that involve several parameters (Table MEM-8, R739, R757). -/
def dmaOk (v : View) (n : Nat) : Bool :=
  let cfg := v (0x3800 + n) 0
  (v (0x3820 + n) 0).toNat % (16 * 2 ^ cfg.bits 5 4) == 0 && cfg.bits 5 4 ≤ 8 &&
    (!cfg.bit 9 || (v (0x3880 + n) 0).toNat % 2 ^ cfg.bits 10 5 == 0) &&
    ((dmaRingAreas v).filter fun a => a.owner == n).all fun a => (segmentAreas v).all fun b => !a.hits b

/-! ### Nominal durations (R36, R431, R474, R488, R583, R632, R745, R749) -/

/-- The number of entries of the run that starts at an entry (R506). -/
def runLength (ent : Nat → Word) : Nat → Nat → Nat
  | 0, _ => 0
  | fuel + 1, i =>
    if 32 ≤ i ∨ entryClass (ent i) = 0 then 0
    else if (ent i).bit 27 then 1 else 1 + runLength ent fuel (i + 1)

/-- Cycles in which an XSPI mode moves one byte, times 2 (R747, R749). -/
def xspiHalfCycles (mode : Nat) : Nat := if mode = 0 then 256 else if mode = 1 then 4 else 2

/-- Twice the cycles per byte of a space: SRAM moves 8 bytes a cycle (R754), here a quarter of a half cycle. -/
def State.burstCycles (v : View) (len srcSpace : Nat) (dstX : Bool) : Nat :=
  let x1 := len * xspiHalfCycles (v 0x3B01 0).toNat / 2
  let x0 := len * xspiHalfCycles (v 0x3A01 0).toNat / 2
  let a := if srcSpace = 1 then x1 else if srcSpace = 2 then x0 else (len + 7) / 8
  max a (if dstX then x1 else (len + 7) / 8)

/-- Pending descriptors of a channel (R758). -/
def State.dmaPending (s : State) (v : View) (n : Nat) : Nat :=
  let m := 2 ^ (v (0x3800 + n) 0).bits 5 4
  ((s.regN (0x3840 + n)) % m + m - s.regN (0x3860 + n) % m) % m

/-- The address of the descriptor at TAIL (R757). -/
def State.descAddr (s : State) (v : View) (n : Nat) : Nat := (v (0x3820 + n) 0).toNat + 16 * s.regN (0x3860 + n)

/-- The nominal duration of a channel's next burst: its length at the peak rate of its slower end (R36); 0 with no
pending descriptor. -/
def State.dmaNominal (s : State) (v : View) (n : Nat) : Nat :=
  if s.dmaPending v n = 0 then 0
  else
    let cfg := v (0x3800 + n) 0
    let w2 := s.sramWord (s.descAddr v n + 8)
    State.burstCycles v (w2.bits 0 24) (w2.bits 24 2) (if cfg.bit 9 then cfg.bit 15 else w2.bit 26)

/-- The cost of one XSPI1 transaction's overhead (R749). -/
def xspiOverhead (v : View) : Nat := 8 + 2 * (v 0x3B03 0).toNat

/-- The nominal duration of a drain (R745). -/
def drainNominal (v : View) (q : Nat) : Nat :=
  let burst := (v 0x3980 0).toNat
  let rings := (ringAreas v).filter fun a => a.xspi && (v (ringId a.owner 0x58) 0).bits 6 4 == q
  let x := rings.foldl (fun m a => min m a.size) (v 0x3B04 0).toNat
  burst * xspiHalfCycles (v 0x3B01 0).toNat / 2 + ((burst + x - 1) / x + 1) * xspiOverhead v

/-- The nominal duration of a wire check (R431). -/
def wireNominal (v : View) (g : Nat) : Nat :=
  let each := 800 + (v 0x1B10 0).toNat
  (List.range 24).foldl (fun t p =>
    let cfg := v 0x1B00 p
    if (v 0x1B01 p).toNat == g && (cfg.bit 0 || cfg.bit 2) then t + each + (if cfg.bit 2 then each else 0) else t) 0

/-- The strobe duration an image gives; the least duration where it gives none. -/
def strobeCycles (b : Option RegionBody) (k : Nat) : Nat :=
  match b with
  | none => 1
  | some b => match b.strobes.find? fun p => p.1 == k with
    | some p => p.2
    | none => 1

/-- The body that a region will have at a distance: its shadow's, if a swap is made by then (R329). -/
def State.bodyAt (s : State) (d r : Nat) : Option RegionBody :=
  let swap := s.jobs.running.any fun j => match j.kind with
    | .regionSwap q at_ => q == r && s.dist at_ ≤ d
    | _ => false
  if swap then (s.regionOf r).shadow.map fun c => c.body else s.body r

/-- The nominal duration of a plan item under a view, where `bod` gives the regions' configurations. -/
def State.nominal (s : State) (v : View) (bod : Nat → Option RegionBody) (it : PlanItem) : Nat :=
  if it.action = 1 then
    let n := it.unit - 0x0A
    runLength (fun i => v (it.unit * 256 + 0x20 + i) 0) 32 (it.arg % 32) * gridInterval v n
  else if it.action = 2 then s.dmaNominal v (it.arg % 32)
  else if it.action = 3 then 400
  else if it.action = 4 then wireNominal v (it.arg % 16)
  else if it.action = 5 then 16 + 4 * (v (it.unit * 256 + 0x0E) 0).toNat
  else if it.action = 6 then strobeCycles (bod (it.unit - 0x20)) (it.arg % 8)
  else if it.action = 7 then drainNominal v (it.arg % 16)
  else if (v (it.unit * 256 + 1) 0).toNat ≤ 1 ∧ v (it.unit * 256 + 3) 0 ≠ 0 then 7200 else 1

/-! ### Plans (R33 to R37, R295, R760) -/

/-- The combinations of action, unit and argument of Table TICK-2. -/
def actionOk (action unit arg : Nat) : Bool :=
  if action = 1 then (unit == 0x0A || unit == 0x0B) && arg < 32
  else if action = 2 then unit == 0x38 && arg < 24
  else if action = 3 then unit == 0x1A && arg < 256
  else if action = 4 then unit == 0x1B && arg < 16
  else if action = 5 then 0x10 ≤ unit && unit ≤ 0x17 && arg == 0
  else if action = 6 then 0x20 ≤ unit && unit ≤ 0x27 && arg < 8
  else if action = 7 then unit == 0x39 && arg < 16
  else action == 8 && (unit == 0x08 || unit == 0x09) && arg == 0

/-- A channel that a DMA_BURST item may name (R760). -/
def dmaItemOk (v : View) (n : Nat) : Bool :=
  let cfg := v (0x3800 + n) 0
  cfg.bit 0 && cfg.bits 1 2 == 2 && !cfg.bit 4

/-- Two items aimed at one unit overlap in time (R35). -/
def itemsOverlap (a b : PlanItem) : Bool :=
  a.unit == b.unit && a.offset < b.offset + b.budget && b.offset < a.offset + a.budget &&
    !(a.action == 2 && b.action == 2 && a.arg != b.arg) && !(a.action == 7 && b.action == 7 && a.arg != b.arg)

/-- What a plan is checked against (R35): the settings, the configurations of the regions, which channels a DMA_BURST item
may name, and the period. -/
structure PlanCheck where
  v      : View
  bod    : Nat → Option RegionBody
  dma    : Nat → Bool
  period : Nat

/-- The first of an item's three words that fails R35, as 0, 1 or 2 (R295). -/
def State.itemError (s : State) (k : PlanCheck) (before : List PlanItem) (it : PlanItem) : Option Nat :=
  if it.offset < 128 then some 0
  else if it.budget = 0 ∨ it.budget < s.nominal k.v k.bod it ∨ k.period < it.offset + it.budget then some 1
  else if !actionOk it.action it.unit it.arg then some 2
  else if it.action = 2 ∧ !k.dma it.arg then some 2
  else if before.any (itemsOverlap it) then some 2
  else none

/-- The first failing item and word of a list of items (R35, R295). -/
def State.itemsError (s : State) (k : PlanCheck) : List PlanItem → List PlanItem → Nat → Option (Nat × Nat)
  | _, [], _ => none
  | before, it :: t, i =>
    match s.itemError k before it with
    | some j => some (i, j)
    | none => State.itemsError s k (before ++ [it]) t (i + 1)

/-- A plan passes R35. -/
def State.planFits (s : State) (k : PlanCheck) (p : Plan) : Bool :=
  1 ≤ p.items.length && p.items.length ≤ 64 && (s.itemsError k [] p.items 0).isNone

/-- A channel that a DMA_BURST item may name under the settings in force and pending (R760). -/
def State.dmaFits (s : State) (n : Nat) : Bool := (s.viewDists s.sets 0).all fun d => dmaItemOk (s.viewAt s.sets d) n

/-- The check that a request makes (R35): nominal durations under the settings in force now, for a plan that runs from a
distance `d` on (R329) under a period. -/
def State.requestCheck (s : State) (d period : Nat) : PlanCheck :=
  { v := s.inForce, bod := s.bodyAt d, dma := s.dmaFits, period := period }

/-- Three plan words as an item, with whether a reserved bit is set in each (Table TICK-1). -/
def itemOfWords (a b c : Word) : PlanItem × List Bool :=
  ({ offset := a.bits 0 23, budget := b.bits 0 23, unit := c.bits 0 8, action := c.bits 8 8, arg := c.bits 16 16 },
   [a.bits 23 9 != 0, b.bits 23 9 != 0, false])

/-- The pending PLAN_SWAP job's boundary, if one runs. -/
def State.planSwapAt (s : State) : Option Nat :=
  s.jobs.running.findSome? fun j => match j.kind with
    | .planSwap _ at_ => some at_
    | _ => none

/-- R62: a period that governs from a distance on fits every plan that runs under it. -/
def State.periodFits (s : State) (v : View) (d : Nat) : Bool :=
  let p := (v 0x0100 0).toNat
  let shadowOk := match s.tick.shadow with
    | some q => s.planFits (s.requestCheck d p) q
    | none => true
  let activeOk := match s.tick.plan with
    | some q => s.planFits (s.requestCheck d p) q
    | none => true
  match s.planSwapAt with
  | none => activeOk
  | some b => if s.dist b ≤ d then shadowOk else activeOk && shadowOk

/-! ### Rules over several parameters, for the values that will be in force together -/

/-- The rules of a sequencer's entries and slots (R505, R509, R512). -/
def seqOk (v : View) (n id : Nat) : Bool :=
  let base := seqUnit n * 256
  let ent := fun i => v (base + 0x20 + i) 0
  let i := id % 256
  let mixed := fun k => entryClass (ent (k + 1)) != 0 && entryClass (ent k) != 0 && !(ent k).bit 27 &&
    entryClass (ent (k + 1)) != entryClass (ent k)
  if 0x20 ≤ i ∧ i ≤ 0x3F then
    let k := i - 0x20
    !(k < 31 && mixed k) && !(0 < k && mixed (k - 1)) &&
      !(entryClass (ent k) == 1 && (v (convUnit n * 256 + 1) 0).toNat == 2) &&
      !(entryClass (ent k) == 1 && (ent k).bit 23 && v ((0x10 + (ent k).bits 24 3) * 256 + 3) 0 != 1) &&
      (List.range 8).all fun t =>
        let w := v (base + 0x10 + t) 0
        !(0x20 ≤ w.bits 0 6 && w.bits 0 6 ≤ 0x2F && w.bits 16 5 == k && entryClass (ent k) != 1)
  else if 0x10 ≤ i ∧ i ≤ 0x17 then
    let w := v id 0
    !(0x20 ≤ w.bits 0 6 && w.bits 0 6 ≤ 0x2F && entryClass (ent (w.bits 16 5)) != 1)
  else true

/-- The rules of a chain (R557, R571, R580). -/
def filtOk (v : View) (f id : Nat) : Bool :=
  let base := (0x10 + f) * 256
  let named := [0, 1].any fun n => (List.range 32).any fun i =>
    let e := v (seqUnit n * 256 + 0x20 + i) 0
    entryClass e == 1 && e.bit 23 && e.bits 24 3 == f
  let sum := (List.range 8).foldl (fun t g =>
    if (v ((0x10 + g) * 256) 0).bit 0 then t + (v ((0x10 + g) * 256 + 2) 0).toNat else t) 0
  (!(id == base || id == base + 2) || sum ≤ 400) &&
    !((v (base + 0x0B) 0).bit 0 && 32 < (v (base + 0x0A) 0).toNat) &&
    (if (v (base + 3) 0).bit 0 then
       (v (base + 8) 0).toNat ≤ 8 && v (base + 0x0A) 0 == 0 && v (base + 2) 0 == 100 && v (base + 0x0D) 0 == 0
     else !(id == base + 3 && named))

/-- The rules of a serial channel (R251, R803, R821). -/
def uartOk (v : View) (u id : Nat) : Bool :=
  let base := (0x30 + u) * 256
  let d := queueDepths (v (base + 3) 0)
  let trig := v (base + 4) 0
  let fc := v (base + 6) 0
  let isTr := (v 0x3D00 0).bit u
  if id = base + 3 ∨ id = base + 4 ∨ id = base + 6 then
    1 ≤ trig.bits 0 8 && trig.bits 0 8 ≤ d.1 && trig.bits 8 8 < d.2 &&
      (!fc.bit 1 || (2 ≤ fc.bits 8 8 && fc.bits 8 8 ≤ d.1 && fc.bits 16 8 < fc.bits 8 8)) &&
      !(id == base + 6 && isTr && fc.bits 0 2 != 0)
  else if id = base + 0x20 then !(isTr && (v id 0).bit 0)
  else if id = base + 9 then
    let fs := fallingBits (v id 0).toNat (if (v (base + 2) 0).bit 0 then 7 else 8)
    4 ≤ fs.getLastD 0 - fs.headD 0
  else true

/-- The rules that involve the parameter `id` hold under the view at a distance. -/
def State.crossOk (s : State) (v : View) (d id sub : Nat) : Bool :=
  let u := id / 256
  let i := id % 256
  let prog := s.jobs.running.any fun j => match j.kind with
    | .fuse .. => true
    | _ => false
  if u = 0x01 ∨ u = 0x02 then
    let p := (v 0x0100 0).toNat
    let g := (v 0x0201 0).toNat
    let q := (v 0x0202 0).toNat
    (!(id == 0x0100 || id == 0x0201 || id == 0x0202) || (g ≤ q && 4 * q ≤ p)) &&
      (!(id == 0x0100 || id == 0x0207) || v 0x0207 0 != 1 || 20000 ≤ p) &&
      (!(id == 0x0101 || id == 0x0200) || !(v 0x0101 0 == 1 && v 0x0200 0 == 1)) &&
      (!(id == 0x0100 && prog) || 40000 ≤ p) && (!(id == 0x0207 && prog) || v 0x0207 0 == 0) &&
      (!(id == 0x0100) || s.periodFits v d)
  else if id = 0x0306 then v id 0 == 1 || !s.pumpOff
  else if u = 0x08 ∨ u = 0x09 then
    let n := u - 8
    (!(i == 4 || i == 5) || v (u * 256 + 4) 0 < v (u * 256 + 5) 0) &&
      (!(i == 1) ||
        ((if v id 0 == 0 then 4 else if v id 0 == 1 then 2 else 1) ≤ (s.slicesLeft n).length &&
         !(v id 0 == 2 && (List.range 32).any fun e => entryClass (v (seqUnit n * 256 + 0x20 + e) 0) == 1)))
  else if u = 0x0A ∨ u = 0x0B then
    if 0x50 ≤ i ∧ i ≤ 0x5F then s.ringOk v (8 * (u - 0x0A) + i % 8) else seqOk v (u - 0x0A) id
  else if 0x10 ≤ u ∧ u ≤ 0x17 then filtOk v (u - 0x10) id
  else if u = 0x18 then
    (!(i == 0 || i == 1) || (v 0x1800 sub != 3 || 2 ≤ (v 0x1801 sub).toNat))
  else if u = 0x1B then (!(i == 2 || i == 3) || v 0x1B03 sub < v 0x1B02 sub)
  else if u = 0x28 then
    if 8 ≤ i ∧ i ≤ 0x0D ∧ v id 0 ≠ 0 then
      (List.range 8).all fun r =>
        ((s.regionOf r).active.toList ++ (s.regionOf r).shadow.toList).all fun c =>
          !(c.body).ownFio.testBit ((v id 0).toNat - 1)
    else true
  else if 0x30 ≤ u ∧ u ≤ 0x33 then uartOk v (u - 0x30) id
  else if u = 0x38 then (if i < 0x40 ∨ (0x80 ≤ i ∧ i < 0xA0) then dmaOk v (i % 32) else true)
  else if u = 0x39 then (if i < 0x20 then s.segmentsOk v else true)
  else if id = 0x3D00 then (List.range 4).all fun k =>
    !(v id 0).bit k || ((v ((0x30 + k) * 256 + 6) 0).bits 0 2 == 0 && !(v ((0x30 + k) * 256 + 0x20) 0).bit 0)
  else true

/-- The rules that involve a parameter hold now and after every pending commit from a distance on. -/
def State.crossOkFrom (s : State) (sets : List Setting) (d id sub : Nat) : Bool :=
  (s.viewDists sets d).all fun k => s.crossOk (s.viewAt sets k) k id sub

/-! ### The marker (R686 to R688) -/

/-- The address of a marker record location, 0 to 4,095. -/
def markerAddr (i : Nat) : Nat := 32 * i

/-- The record locations that are not erased, ascending. -/
def State.markerUsed (s : State) : List Nat :=
  (((s.img.flash.filter fun c => c.1 < 0x20000).map fun c => c.1 / 32)).dedup

/-- A record: MSEQ and slot, where it is valid (R687). -/
def State.markerRecord (s : State) (i : Nat) : Option (Nat × Nat) :=
  let bs := readBytes s.flashByte (markerAddr i) 32
  let slot := bs.getD 8 0
  if bs.take 4 = [0x4C, 0x4E, 0x4D, 0x4B] ∧ (slot = 1 ∨ slot = 2) ∧ bs.getD 9 0 = ~~~slot ∧
      readWord s.flashByte (markerAddr i + 28) = crc32c (bs.take 28) then
    some ((readWord s.flashByte (markerAddr i + 4)).toNat, slot.toNat)
  else none

/-- The marker: location, MSEQ and slot (1 A, 2 B) of the valid record with the highest MSEQ. -/
def State.marker (s : State) : Option (Nat × Nat × Nat) :=
  s.markerUsed.foldl (fun m i => match s.markerRecord i with
    | none => m
    | some r => match m with
      | none => some (i, r)
      | some b => if b.2.1 < r.1 then some (i, r) else m) none

/-! ### Reads -/

/-- SYS.STATE as a unit state code (R128). -/
def State.sysState (s : State) : Nat :=
  match s.boot.phase with
  | .released => 2
  | .limited => 6
  | _ => 1

/-- SYS.PHASE (Table BOOT-6). -/
def State.sysPhase (s : State) : Nat :=
  match s.boot.phase with
  | .phase3 => 2
  | .released => 3
  | .limited => 4
  | _ => 1

/-- The committed state of a unit (UNIT.STATE). -/
def State.stateCode (s : State) (u : Nat) : Nat := if u = 0 then s.sysState else (s.unit u).st.code

/-- SYS.SLOT with the marker as flash holds it once the boot ROM reads it (Table BOOT-6). -/
def State.slotWord (s : State) : Word :=
  if s.alive then (s.reg 0x0004).setBits 10 2 (match s.marker with
    | none => 0
    | some m => m.2.2) else s.reg 0x0004

/-- The reference frequency that the delivered OPTION row gives: 25 MHz where it is out of range (R162). -/
def State.fuseMhz (s : State) : Nat :=
  let f := (s.dlvRow 16).bits 0 6
  if 10 ≤ f ∧ f ≤ 52 then f else 25

/-- CRC of a coefficient bank (R568). -/
def State.bankCrc (s : State) (f bank : Nat) : Word :=
  crc32c ((List.range 64).flatMap fun t =>
    (Word.of (intBits ((lookup 0 (s.filtOf f).coef (64 * bank + t)).signed 18) 32)).bytes)

/-- SEQ.STATUS (Table SEQ-4, R518): a run is in progress from its first sampling instant on. Where no entry is left to be
sampled the field reads 0 (log 67). -/
def State.seqStatus (s : State) (n : Nat) : Word :=
  let q := s.seqOf n
  let inProg : Bool := match q.bc with
    | some r => decide (r.t ≤ s.now) || r.next != r.first || r.prevT.isSome
    | none => false
  let unsampled := fun (r : Run) =>
    (((s.runTimes n r.brks 32 r.next r.t).find? fun p => decide (s.now < p.2)).map fun p => p.1).getD 0
  let next := match q.a, q.bc with
    | some r, _ => unsampled r
    | none, some r => unsampled r
    | none, none => 0
  let waiting := q.bc.isSome && !inProg
  Word.of (inProg.toNat + waiting.toNat * 2 + q.a.isSome.toNat * 4 + next % 32 * 8)

/-- The last executed SEQs and their validity (Table CMD-7). -/
def State.lastSeq (s : State) (n : Nat) : Nat := match (s.trOf n).last with
  | some b => b.toNat
  | none => 0

/-- The value that a parameter reads as, computed ones included. -/
def State.read (s : State) (id sub : Nat) : Word :=
  let u := id / 256
  let i := id % 256
  if i = 0xF0 then Word.of (s.stateCode u)
  else if i = 0xF1 then (s.unit u).epoch.setWidth 32
  else if u = 0 then
    if i = 0 then Word.of s.sysState else if i = 1 then Word.of s.sysPhase else if i = 4 then s.slotWord
    else if 0x0A ≤ i ∧ i ≤ 0x0D then s.dlvRow (20 + i - 0x0A)
    else if i = 0x13 then Word.of (s.img.vS.code + s.img.vS.good.toNat * 16)
    else if i = 0x14 then Word.of (match s.marker with
      | none => 0
      | some m => m.2.1)
    else if i = 0x15 then Word.of (4096 - s.markerUsed.length)
    else s.reg id sub
  else if u = 1 then
    if i = 2 then s.tick.count.setWidth 32
    else if i = 4 then Word.of (match s.tick.plan with
      | some p => p.items.length
      | none => 0)
    else if i = 5 then (match s.tick.plan with
      | some p => p.id
      | none => 0)
    else if i = 0x0E then (if s.dozeTick then 0 else s.reg id)
    else s.reg id sub
  else if u = 3 then
    if i = 2 then Word.of ((List.range 5).foldl (fun a k => a + (s.ratchet k).toNat * 2 ^ k) 0)
    else if 8 ≤ i ∧ i ≤ 0x0B then s.counterWord (i - 8)
    else s.reg id sub
  else if u = 4 then
    if i = 0 then Word.of s.sec.life else if i = 1 then s.secAccess
    else if i = 2 then Word.of (s.sec.scope % 4 + s.sec.slot % 2 * 4 + s.sec.nonce.isSome.toNat * 8)
    else s.reg id sub
  else if id = 0x0600 then Word.of s.fuma.log.length
  else if u = 0x0A ∨ u = 0x0B then (if i = 3 then s.seqStatus (u - 0x0A) else s.reg id sub)
  else if 0x10 ≤ u ∧ u ≤ 0x17 then
    if i = 0x12 then Word.of (s.filtOf (u - 0x10)).held.length
    else if i = 0x13 ∨ i = 0x14 then s.bankCrc (u - 0x10) (i - 0x13)
    else s.reg id sub
  else if id = 0x1901 then Word.of s.closedCount
  else if 0x20 ≤ u ∧ u ≤ 0x27 then
    let r := u - 0x20
    let g := s.regionOf r
    if i = 2 then (match g.active with
      | some c => c.imageId
      | none => 0)
    else if i = 3 then Word.of (match g.active with
      | some c => c.ilev
      | none => 0)
    else if i = 4 then Word.of ((match g.shadow with
        | some c => c.ilev
        | none => 0) + g.complete.toNat * 65536 + g.loading.toNat * 131072)
    else if 5 ≤ i ∧ i ≤ 8 then (match s.body r with
      | none => 0
      | some b => Word.of (if i = 5 then b.ownPorts else if i = 6 then b.ownFev else if i = 7 then b.ownFio
          else b.aPaths.length % 16 + (s.pathsBad r).toNat * 16))
    else if i = 9 then Word.of (g.strobes.toNat % 256 + g.pdone.toNat % 256 * 256)
    else s.reg id sub
  else if id = 0x2811 then
    Word.of ((List.range 6).foldl (fun a k =>
      a + (s.regBit 0x2810 0 k && s.isActive 0x28 &&
        (if s.reg (0x2808 + k) == 0 then s.lineToggles k else !s.regBit 0x2812 0 k)).toNat * 2 ^ k) 0)
  else if 0x30 ≤ u ∧ u ≤ 0x33 then
    if i = 0x0C then Word.of ((s.uartOf (u - 0x30)).rxq.length + (s.uartOf (u - 0x30)).txq.length * 256)
    else if i = 0x0B then (match (s.uartOf (u - 0x30)).rxq with
      | [] => 0
      | e :: _ => Word.of (e.toNat + 4096))
    else s.reg id sub
  else if u = 0x39 ∧ 0x20 ≤ i ∧ i ≤ 0x2F then Word.of (4 * (s.queue (i - 0x20)).words.length)
  else if u = 0x3D then
    if i = 9 then Word.of (s.lastSeq 0)
    else if i = 0x0A then
      Word.of (s.lastSeq 1 + s.lastSeq 2 * 0x100 + s.lastSeq 3 * 0x10000 + s.lastSeq 4 * 0x1000000)
    else if i = 0x0B then
      Word.of ((List.range 5).foldl (fun a k => a + (s.trOf k).last.isSome.toNat * 2 ^ k) 0)
    else s.reg id sub
  else s.reg id sub

end Sys2Proof.Machine
end

