-- ==== Sys2Proof/Machine/Movers.lean ====
section
/-! DEFINITION. The movement of words by DMA bursts and Geyser drains (R743, R757, R759), and what a burst that is cut
leaves behind (Table TICK-3). -/

namespace Sys2Proof.Machine

/-- A byte of a memory space: 0 SRAM, 1 XSPI1, 2 XSPI0. -/
def State.spaceByte (s : State) (space a : Nat) : Byte :=
  if space = 1 then s.psramByte a else if space = 2 then s.flashByte a else s.sramByte a

/-- Size of a memory space in bytes (R727, R751, Table MEM-9). -/
def State.spaceSize (s : State) (space : Nat) : Nat :=
  if space = 1 then s.psramBytes else if space = 2 then 2 ^ s.regN 0x3A02 else sramBytes

/-- A word written to SRAM or XSPI1. -/
def State.spaceWrite (s : State) (xspi : Bool) (a : Nat) (w : Word) : State :=
  if xspi then s.setPsramWord a w else s.setSramWord a w

/-- The unit that serves a space. -/
def spaceUnit (space : Nat) : Nat := if space = 1 then 0x3B else if space = 2 then 0x3A else 0x3C

/-- Bytes moved on an XSPI port count in XSPI.BYTES, in KiB (Table MEM-9, log 20). -/
def State.countBytes (s : State) (x1 : Bool) (n : Nat) : State :=
  let m := s.mem.moved
  let m' := if x1 then (m.1, (m.2 + n) % 2 ^ 42) else ((m.1 + n) % 2 ^ 42, m.2)
  let s1 : State := { s with mem := { s.mem with moved := m' } }
  if x1 then s1.setReg 0x3B0A 0 (Word.of (m'.2 / 1024)) else s1.setReg 0x3A0A 0 (Word.of (m'.1 / 1024))

/-- The configuration of DMA channel `n`. -/
def State.dmaCfg (s : State) (n : Nat) : Word := s.reg (0x3800 + n)

/-- A word of the descriptor at TAIL (Table MEM-4). -/
def State.descWord (s : State) (n i : Nat) : Word := s.sramWord (s.descAddr (fun a b => s.reg a b) n + 4 * i)

/-- LENGTH and SRC_SPACE of the descriptor at TAIL. -/
def State.descLength (s : State) (n : Nat) : Nat := (s.descWord n 2).bits 0 24
def State.descSpace (s : State) (n : Nat) : Nat := (s.descWord n 2).bits 24 2

/-- Whether a channel's words go to XSPI1 (R757, Table MEM-3). -/
def State.dmaToX (s : State) (n : Nat) : Bool :=
  if (s.dmaCfg n).bit 9 then (s.dmaCfg n).bit 15 else (s.descWord n 2).bit 26

/-- The destination address of byte `i` of a channel's next burst. -/
def State.dmaDst (s : State) (n i : Nat) : Nat :=
  let cfg := s.dmaCfg n
  if cfg.bit 9 then s.regN (0x3880 + n) + (s.regN (0x38A0 + n) + i) % 2 ^ cfg.bits 10 5
  else (s.descWord n 1).toNat + i

/-- The first `k` words of a channel's next burst, as its source holds them. -/
def State.burstWords (s : State) (n k : Nat) : List Word :=
  readWords (s.spaceByte (s.descSpace n)) (s.descWord n 0).toNat k

/-- A full write of the 64-bit word `k` of SRAM ends its poison (R736). -/
def State.unpoison (s : State) (k : Nat) : State :=
  { s with mem := { s.mem with poison := insert false s.mem.poison k false } }

/-- Words written to the destination of a channel's next burst, from its beginning; where two of them fill a 64-bit word
of SRAM, that is one full write (R754). -/
def State.writeBurst (s : State) (n : Nat) (ws : List Word) : State :=
  let s1 := ((List.range ws.length).zip ws).foldl (fun z p => z.spaceWrite (s.dmaToX n) (s.dmaDst n (4 * p.1)) p.2) s
  if s.dmaToX n then s1
  else (List.range (ws.length - 1)).foldl (fun z i =>
    let a := s.dmaDst n (4 * i)
    if a % 8 = 0 ∧ s.dmaDst n (4 * i + 4) = a + 4 then z.unpoison (a / 8) else z) s1

/-! ### Reads of SRAM (R734 to R736) -/

/-- The error of a read from `src` on lies in 64-bit word `w` of SRAM. -/
def eccHits (e : Ecc) (src w : Nat) : Bool := match e with
  | .uncorr k => (src + 4 * k) / 8 == w
  | _ => false

/-- The 64-bit words that a read of `n` words finds uncorrectable: the poisoned ones, and the one that its error hits. -/
def State.uncorrWords (s : State) (src n : Nat) (ecc : Ecc) : List Nat :=
  ((List.range ((src + 4 * n + 7) / 8 - src / 8)).map (src / 8 + ·)).filter fun w =>
    lookup false s.mem.poison w || eccHits ecc src w

/-- An uncorrectable read of 64-bit word `w` is counted, its address stored, and the event logged (R735). -/
def State.eccUncorr (s : State) (w : Nat) : State :=
  ((s.bump 0x3C02).setReg 0x3C03 0 (Word.of (8 * w))).emit 0x3C evSramEccUncorr
    (8 * w + (lookup false s.mem.poison w).toNat * 2 ^ 23)

/-- `n` words as a read of SRAM delivers them, and what its errors change; a word that the read's error hits is as read, a free
value (log 3). -/
def State.readSram (s : State) (src n : Nat) (ecc : Ecc) : State × List Word :=
  let ws := ((List.range n).zip ((readWords s.sramByte src n).zip (s.freeWords n))).map fun p =>
    if eccHits ecc src ((src + 4 * p.1) / 8) then p.2.2 else p.2.1
  let s1 := (s.uncorrWords src n ecc).foldl State.eccUncorr s
  match ecc with
  | .single => (s1.bump 0x3C01, ws)
  | .uncorr _ => (s1.useFree n, ws)
  | _ => (s1, ws)

/-- A burst in progress is cut: what was written stays and is not published (Table TICK-3, R769, log 3). -/
def State.cutBurst (s : State) (n : Nat) : State :=
  if (s.dmaOf n).burst.isNone then s
  else
    let k := min (s.descLength n / 4) (Config.cutWords s.free)
    let s1 := (s.writeBurst n (s.burstWords n k)).useFree 1
    s1.setDma n { s1.dmaOf n with burst := none }

/-- The addresses in XSPI1 of words that leave a queue for the ring they belong to, its write position advancing. -/
def State.drainWords (s : State) : List (Nat × Word) → Nat → List (Nat × Word)
  | [], _ => []
  | (ring, w) :: t, i =>
    let n := ringSize (s.reg (ringId ring 0x58))
    (s.regN (ringId ring 0x50) + 4 * ((s.regN (ringId ring 0x60) + i) % n), w) :: State.drainWords s t (i + 1)

/-- Words of a drain written to XSPI1. -/
def State.writeDrain (s : State) (ws : List (Nat × Word)) : State :=
  (s.drainWords ws 0).foldl (fun z p => z.setPsramWord p.1 p.2) s

/-- A drain in progress is cut: the words stay queued, what was written stays unpublished (Table TICK-3, log 3). -/
def State.cutDrain (s : State) (q : Nat) : State :=
  let x := s.queue q
  match x.burst with
  | none => s
  | some b =>
    let s1 := (s.writeDrain (x.words.take (min b.1 (Config.cutWords s.free)))).useFree 1
    s1.setQueue q { s1.queue q with burst := none }

end Sys2Proof.Machine
end

