-- ==== Sys2Proof/Machine/Units.lean ====
section
/-! DEFINITION. Jobs (R277 to R279) and units: run conditions, what a unit does on leaving RUNNING, on stopping, on
reset and on waking, the transitions of Table UNIT-3, and the commands WAKE_COMPLETE, WAKE_FAIL, STATE_SKEW and
FUMA_LOG_TAKE. -/

namespace Sys2Proof.Machine

/-! ### Jobs -/

/-- The job number after another: they run from 1 to 255 and wrap (R277). -/
def nextNum (n : Nat) : Nat := if n = 255 then 1 else n + 1

/-- The next number that no running job holds. -/
def State.freeNum (s : State) : Nat → Nat → Nat
  | 0, n => n
  | k + 1, n => if s.jobs.running.any fun j => j.num == n then State.freeNum s k (nextNum n) else n

/-- A job starts with the next number (R277) that no running job holds; an outcome kept under it goes (log 23). -/
def State.startJob (s : State) (op : Nat) (kind : JobKind) : State × Nat :=
  let n := s.freeNum 8 s.jobs.next
  ({ s with jobs := { s.jobs with
    running := s.jobs.running ++ [{ num := n, op := op, kind := kind }]
    ended := s.jobs.ended.filter fun e => e.num != n
    next := nextNum n, latest := n } }, n)

/-- The percentage of a running job's steps completed (R281, log 23). -/
def JobKind.percent : JobKind → Nat
  | .regionLoad _ _ done total => done * 100 / total
  | .capture _ _ _ cnt stored _ => stored * 100 / cnt
  | .fuse f => f.steps * 100 / f.total
  | .random cnt got => got.length * 100 / cnt
  | _ => 0

/-- A job ends with an outcome, kept until 16 later jobs have ended (R279). -/
def State.endJob (s : State) (num status : Nat) (words : List Word) : State :=
  match s.jobs.running.find? fun j => j.num == num with
  | none => s
  | some j =>
    { s with jobs := { s.jobs with running := s.jobs.running.filter fun k => k.num != num,
                                   ended := ({ num := num, op := j.op, status := status,
                                               pct := if status = stDone then 100 else j.kind.percent,
                                               words := words } :: s.jobs.ended).take 16 } }

/-- The work of a job is replaced. -/
def State.setJob (s : State) (num : Nat) (kind : JobKind) : State :=
  { s with jobs := { s.jobs with running := s.jobs.running.map fun j =>
      if j.num = num then { j with kind := kind } else j } }

/-- A running job that a test picks. -/
def State.findJob (s : State) (f : JobKind → Bool) : Option Job := s.jobs.running.find? fun j => f j.kind

/-- The unit that a job works on (R326). -/
def JobKind.unit : JobKind → Option Nat
  | .regionLoad r .. | .regionSwap r _ => some (0x20 + r)
  | .coefSwap f _ => some (0x10 + f)
  | .capture c .. => some (convUnit (sideN c))
  | .random .. => some 0x05
  | _ => none

/-- The words after the first that POLL returns of a swap or a snapshot, whatever its outcome (Table OPS-4). -/
def JobKind.words : JobKind → List Word
  | .planSwap _ at_ | .regionSwap _ at_ | .coefSwap _ at_ => [Word.of at_]
  | .capture _ _ _ _ stored _ => [Word.of stored]
  | _ => []

/-- A snapshot's timeout boundary has come (R306). -/
def State.captureOver (s : State) (dl : Nat) : Bool := s.dist dl == 0 || decide (2 ^ 47 ≤ s.dist dl)

/-- A snapshot whose timeout boundary has come ends LATE; the words already stored stay (R306). -/
def State.endCapture (s : State) (j : Job) : State := match j.kind with
  | .capture _ _ _ _ stored dl =>
    if s.captureOver dl then
      ({ s with mem := { s.mem with caps := s.mem.caps.filter fun p => p.1 != j.num } } : State).endJob j.num stLate
        [Word.of stored]
    else s
  | _ => s

/-! ### Run conditions (R339, R446, R490, R539, R586, R637, R639, R675, R753, R813, Table AFE-7) -/

def runCondition (v : View) (u : Nat) : Bool :=
  if u = 0x05 ∨ u = 0x08 ∨ u = 0x09 ∨ u = 0x0A ∨ u = 0x0B ∨ (0x10 ≤ u ∧ u ≤ 0x17) ∨ (0x20 ≤ u ∧ u ≤ 0x27) ∨
      (0x30 ≤ u ∧ u ≤ 0x33) ∨ u = 0x3B then (v (u * 256) 0).bit 0
  else if u = 0x18 then (List.range 16).any fun c => v 0x1800 c != 0
  else if u = 0x1A then (List.range 8).any fun c => (v 0x1A04 c).bit 0
  else if u = 0x1B then (List.range 24).any fun p => (v 0x1B00 p).bit 0 || (v 0x1B00 p).bit 2
  else if u = 0x28 then v 0x2810 0 != 0
  else true

/-- Units that the host neither powers nor resets (R292). -/
def fixedUnit (u : Nat) : Bool := u == 0 || u == 1 || u == 3 || u == 4 || u == 6 || u == 0x3D

/-! ### What a unit does when its state changes -/

/-- A reply that carries a tag is stale: the tag is not the epoch that its producer had at cycle 0 of the present tick (R347,
R350). -/
def State.stale (s : State) (u : Nat) (tag : BitVec 8) : Bool := tag != (s.unit u).epoch0

/-- A reply to unit `u` is discarded and counted (R350). -/
def State.discard (s : State) (u : Nat) : State := s.bump (u * 256 + 0xF3)

/-- A reply carries a stale tag. -/
def State.staleTags (s : State) (l : List Tag) : Bool := l.any fun p => s.stale p.1 p.2

/-- The tag of what unit `u` accepts now (R346). -/
def State.tagNow (s : State) (u : Nat) : Tag := (u, (s.unit u).epoch)

/-! ### The fabric's input ports (R526, R578, R627, R628)

Ports are numbered as FAB_SYNC_DROP numbers them: 0 and 1 the sequencers, 2 + f the chains, 10 + u the receive queues. -/

/-- The regions whose active configuration reads an input port. -/
def State.portReaders (s : State) (port : Nat) : List Nat :=
  (List.range 8).filter fun r => match s.body r with
    | none => false
    | some b => b.reads.any fun p => p.1 == port

/-- A word of unit `prod` appears on an input port: it goes to the synchroniser of every region that reads the port; one that
is not RUNNING is an absent sink (R338, R351). -/
def State.feedPort (s : State) (port prod : Nat) (w : Word) (tags : List Tag) : State :=
  s.each (s.portReaders port) fun s r =>
    if s.isRunning (0x20 + r) then
      let g := s.regionOf r
      s.setRegion r { g with inbox := g.inbox ++ [{ port := port, word := w, prod := prod, tags := tags }] }
    else s.absentDrop prod

/-- A word that would have appeared there is discarded, and the regions that read the port count it (R350). -/
def State.discardPort (s : State) (port : Nat) : State :=
  s.each ((s.portReaders port).filter fun r => s.isActive (0x20 + r)) fun s r => s.discard (0x20 + r)

/-- Words on their way to a region that stops meet an absent sink (R338). -/
def State.dropInbox (s : State) (r : Nat) : State :=
  let g := s.regionOf r
  (s.setRegion r { g with inbox := [] }).each g.inbox fun s x => s.absentDrop x.prod

/-! ### Replies of the SRAM to the fabric (R630, R346, R347, R350, R351) -/

/-- A fabric SRAM port shows a reply: ERR and RDATA. -/
def State.sramReply (s : State) (port : Nat) (err : Bool) (data : BitVec 64) : State :=
  { s with mem := { s.mem with replies := insert (false, 0) s.mem.replies port (err, data) } }

/-- A reply reaches its port: one with a stale tag is discarded and counted. -/
def State.landReply (s : State) (f : Flight) : State :=
  if s.staleTags f.tags then s.discard (0x20 + f.region) else s.sramReply f.port f.err f.data

/-- The replies that have arrived before an instant stand at their ports. -/
def State.landReplies (s : State) (before : Nat) : State :=
  ({ s with mem := { s.mem with flight := s.mem.flight.filter fun f => decide (before ≤ f.due) } } : State).each
    (s.mem.flight.filter fun f => decide (f.due < before)) State.landReply

/-- Replies in flight that a test picks are discarded, and their regions count them (R350, R351). -/
def State.dropFlights (s : State) (p : Flight → Bool) : State :=
  ({ s with mem := { s.mem with flight := s.mem.flight.filter fun f => !p f } } : State).each
    (s.mem.flight.filter p) fun s f => s.discard (0x20 + f.region)

/-- A region leaves RUNNING: replies that arrive after that are discarded (R630). -/
def State.leaveReplies (s : State) (r : Nat) : State := (s.landReplies s.now).dropFlights fun f => f.region == r

/-! ### Runs -/

/-- The results of a run that are sampled and not delivered when its sequencer or its converter stops at a boundary reach
their chain after it, with a tag that is stale: the chain, and the regions that read the sequencer's stream, discard and count
them (R350). -/
def State.discardRun (s : State) (n : Nat) (r : Option Run) : State :=
  match r with
  | none => s
  | some r =>
    if !s.stale (seqUnit n) r.tags.1 && !s.stale (convUnit n) r.tags.2 then s
    else s.each ((s.runTimes n r.brks 32 r.next r.t).filter fun p => p.2 < s.now) fun s p =>
      let e := s.entryAt n p.2 p.1
      (if e.bit 23 then s.discard (0x10 + e.bits 24 3) else s).discardPort n

/-- Runs of a sequencer are abandoned and counted (R540). -/
def State.abandonRuns (s : State) (n : Nat) : State :=
  let q := s.seqOf n
  let k := q.bc.isSome.toNat + q.a.isSome.toNat
  (s.setSeq n { q with bc := none, a := none }).bumpBy (seqUnit n * 256 + 8) 0 k

/-- The class B or C run of a sequencer is dropped with its pending ring writes (R45, R549). -/
def State.dropRun (s : State) (n : Nat) : State :=
  let s1 := s.setSeq n { s.seqOf n with bc := none }
  { s1 with mem := { s1.mem with rings := s1.mem.rings.filter fun w => !(w.prod == n && w.cls != 1) } }

/-- So is its class A run, where its unit has been forced into FAULT (R887). -/
def State.dropRunA (s : State) (n : Nat) : State :=
  let s1 := s.setSeq n { s.seqOf n with a := none }
  { s1 with mem := { s1.mem with rings := s1.mem.rings.filter fun w => !(w.prod == n && w.cls == 1) } }

/-- The trigger that a SEQ_START item has issued, or the run that it has started, is dropped. -/
def State.dropSeqItem (s : State) (n idx : Nat) : State :=
  let of := fun (r : Option Run) => (r.bind fun r => r.item) == some idx
  let q := s.seqOf n
  let s1 := s.setSeq n { q with trigs := q.trigs.filter fun t => t.item != some idx }
  let s2 := if of q.bc then s1.dropRun n else s1
  if of q.a then s2.dropRunA n else s2

/-- A sequencer that the hardware has forced into FAULT does no more work (R353): its triggers and runs are gone. R540 counts
none of them. -/
def State.stopSeq (s : State) (n : Nat) : State :=
  s.setSeq n { s.seqOf n with trigs := [], bc := none, a := none }

/-- The outputs in flight of a chain are discarded, and whoever they were for counts them: the regions that read the chain's
port and the sequencer whose ring they were to enter (R587, R350). -/
def State.dropOuts (s : State) (f : Nat) : State :=
  let x := s.filtOf f
  let ring := s.reg ((0x10 + f) * 256 + 0x0F)
  let live := if s.reg ((0x10 + f) * 256 + 0x0D) = 0 then x.outs.filter fun o => o.primed else []
  (s.setFilt f { x with outs := [] }).each live fun s _ =>
    let s1 := s.discardPort (2 + f)
    if ring.bit 0 then s1.discard (ringUnit (ring.bits 1 4)) else s1

/-- A plan item stops with the effects of Table TICK-3. -/
def State.dropItem (s : State) (r : RunItem) : State :=
  let it := r.item
  if it.action = 1 then s.dropSeqItem (it.unit - 0x0A) r.idx
  else if it.action = 2 then s.cutBurst (it.arg % 32)
  else if it.action = 4 then s.dropWireRuns fun w => w.idx == r.idx
  else if it.action = 5 then
    let f := it.unit - 0x10
    let x := s.filtOf f
    match x.taken with
    | none => s
    | some t => (s.setFilt f { x with taken := none }).bumpBy (it.unit * 256 + 0x1E) 0 t.2.length
  else if it.action = 6 then
    let g := s.regionOf (it.unit - 0x20)
    s.setRegion (it.unit - 0x20) { g with strobes := g.strobes.setBit (it.arg % 8) false }
  else if it.action = 7 then s.cutDrain (it.arg % 16)
  else if it.action = 8 then s.setConv (it.unit - 8) { s.convOf (it.unit - 8) with waiting := none }
  else s

/-- The COEF_SWAP job of a chain ends (R302, Table OPS-4). -/
def State.endSwap (s : State) (f status : Nat) : State :=
  match s.findJob fun j => match j with
    | .coefSwap g _ => g == f
    | _ => false with
  | none => s
  | some j => s.endJob j.num status j.kind.words

/-- The other bank of a chain becomes active. -/
def State.flipBank (s : State) (f : Nat) : State :=
  s.setRegBit ((0x10 + f) * 256 + 0x11) 0 2 (!s.regBit ((0x10 + f) * 256 + 0x11) 0 2)

/-- A fade ends: the new bank is active (R572). -/
def State.endFade (s : State) (f : Nat) : State :=
  let s1 := ((s.setFilt f { s.filtOf f with fade := none }).setRegBit ((0x10 + f) * 256 + 0x11) 0 1 false).flipBank f
  s1.emit (0x10 + f) evFiltFadeDone (s1.regBit ((0x10 + f) * 256 + 0x11) 0 2).toNat

/-- A chain that stops with a fade armed makes the swap without a fade where it is READY (R574), else its job ends
UNIT_GONE (log 24). -/
def State.disarm (s : State) (f : Nat) : State :=
  if !(s.filtOf f).armed then s
  else
    let s1 := s.setFilt f { s.filtOf f with armed := false }
    if (s1.unit (0x10 + f)).st = .ready then (s1.flipBank f).endSwap f stDone else s1.endSwap f stUnitGone

/-- A unit leaves RUNNING for `dst`; a chain's fade in progress ends with the new bank active (log 24). A converter that
drains completes the conversions it has accepted (R348). -/
def State.onLeave (s : State) (u : Nat) (dst : UState) : State :=
  if u = 0x08 ∨ u = 0x09 then (if dst = .draining then s else s.abandonRuns (u - 8))
  else if 0x10 ≤ u ∧ u ≤ 0x17 then
    let f := u - 0x10
    let x := s.filtOf f
    let s1 := (s.setFilt f { x with held := [] }).bumpBy (u * 256 + 0x1E) 0 x.held.length
    let s2 := if dst = .draining then s1 else s1.dropOuts f
    if x.fade.isSome then s2.endFade f else s2
  else if 0x20 ≤ u ∧ u ≤ 0x27 then s.leaveReplies (u - 0x20)
  else if dst = .fault ∧ (u = 0x0A ∨ u = 0x0B) then s.stopSeq (u - 0x0A)
  else s

/-- The bytes and characters of a serial channel end (R815). -/
def State.uartStop (s : State) (k : Nat) : State :=
  s.setUart k { s.uartOf k with rxq := [], txq := [], inChar := false, waits := false, owed := none, lin := .hunt, linGot := [] }

/-- The work of a unit that leaves DRAINING, or is reset or powered down without draining, ends (R72, R349, R407,
R540, R643, R738, R815). -/
def State.onStop (s : State) (u : Nat) : State :=
  if u = 0x08 ∨ u = 0x09 then
    let n := u - 8
    let s1 := ((s.discardRun n (s.seqOf n).a).discardRun n (s.seqOf n).bc).abandonRuns n
    (s1.stopConv n).setReg (u * 256 + 8) 0 0
  else if u = 0x0A ∨ u = 0x0B then
    let n := u - 0x0A
    let s1 := if (s.unit u).st = .draining then (s.discardRun n (s.seqOf n).a).discardRun n (s.seqOf n).bc else s
    let s2 := s1.abandonRuns n
    s2.setSeq n { s2.seqOf n with trigs := [] }
  else if 0x10 ≤ u ∧ u ≤ 0x17 then
    let s1 := s.dropOuts (u - 0x10)
    (s1.setFilt (u - 0x10) { s1.filtOf (u - 0x10) with taken := none }).disarm (u - 0x10)
  else if u = 0x18 then
    ({ s with cells := [] } : State).each (List.range 16) fun s c => s.setReg 0x1809 c (s.reg 0x1809 c &&& 8)
  else if u = 0x19 then s.setClosed s.now []
  else if u = 0x1A then
    ({ s with dacs := [] } : State).each (List.range 8) fun s c => s.setRegBit 0x1A05 c 0 false
  else if u = 0x1B then s.dropWireRuns fun _ => true
  else if 0x20 ≤ u ∧ u ≤ 0x27 then
    let s1 := s.dropInbox (u - 0x20)
    s1.setRegion (u - 0x20) { s1.regionOf (u - 0x20) with strobes := 0, held := [], shown := [], pulse := 0, pstb := 0 }
  else if 0x30 ≤ u ∧ u ≤ 0x33 then s.uartStop (u - 0x30)
  else if u = 0x3C then { s with mem := { s.mem with sram := [], poison := [] } }
  else if u = 0x05 then
    { s with rng := { s.rng with buf := [], key := 0, v := 0, live := false, seeding := false, stopped := false, retest := 0 } }
  else if u = 0x38 then
    { s with mem := { s.mem with dma := [] } }
  else if u = 0x02 then { s with tbus := { s.tbus with io := false, aux := false } }
  else if u = 0x28 then { s with fclk := {} }
  else s

/-- Cells that a list of pairs gives, in canonical form, by their key. -/
def ofPairs {α : Type} [DecidableEq α] (d : α) (l : List (Nat × α)) : List (Nat × α) :=
  l.foldl (fun m p => insert d m p.1 p.2) []

/-- The region reset (R603, R608, R625): flip-flops with reset take their initial values and slices clear; RAM cells
take their INIT content where `ram` says so. -/
def State.fabricReset (s : State) (r : Nat) (ram : Bool) : State :=
  let g := s.regionOf r
  match s.body r with
  | none => s
  | some b =>
    let ff := (b.cells.filter fun c => c.rst).foldl (fun m c => insert false m c.cell c.iv) g.ff
    let mem := if ram then (b.cells.filter fun c => c.kind == 1).foldl (fun m c => insert 0 m c.cell c.init) g.ram
      else g.ram
    s.setRegion r { g with ff := ff, ram := mem, mac := [] }

/-- A new configuration begins to work: every flip-flop holds its initial value, every RAM cell its INIT content, every
slice 0 (R606, R624). -/
def State.fabricInit (s : State) (r : Nat) : State :=
  let g := s.regionOf r
  let cells := match s.body r with
    | none => []
    | some b => b.cells
  s.setRegion r { g with
    ff := ofPairs false (cells.map fun c => (c.cell, c.iv))
    ram := ofPairs 0 ((cells.filter fun c => c.kind == 1).map fun c => (c.cell, c.init))
    mac := [] }

/-- A unit takes its At-reset values (R341), but for what its chapter keeps: the state counters of R377, TBUS and RNG
counters and the status bits and COUNT_DELTA that R90 lets only other events clear (R87, R90, R110, R683, log 51), WIRE's fault record (R445), Geyser peaks, FILT's coefficients and active bank (R567). -/
def State.onReset (s : State) (u : Nat) : State :=
  let bank := s.regBit (u * 256 + 0x11) 0 2
  let s1 := s.clearRegs u fun i => 0xF2 ≤ i || (u == 0x02 && 0x09 ≤ i && i ≤ 0x0E) ||
    (u == 0x05 && 0x04 ≤ i && i ≤ 0x07) || (u == 0x39 && 0x40 ≤ i && i ≤ 0x4F) ||
    (u == 0x1B && (i == 5 || i == 6 || i == 8 || i == 0x16 || i == 0x17 || i == 0x18))
  if u = 0x08 ∨ u = 0x09 then s1.setConv (u - 8) {}
  else if u = 0x0A ∨ u = 0x0B then s1.setSeq (u - 0x0A) {}
  else if 0x10 ≤ u ∧ u ≤ 0x17 then
    (s1.setFilt (u - 0x10) { coef := (s1.filtOf (u - 0x10)).coef }).setRegBit (u * 256 + 0x11) 0 2 bank
  else if 0x20 ≤ u ∧ u ≤ 0x27 then
    (s1.setRegion (u - 0x20) { s1.regionOf (u - 0x20) with resetOn := true, dropTick := false }).fabricReset (u - 0x20)
      (s.regBit (u * 256 + 1) 0 0)
  else if 0x30 ≤ u ∧ u ≤ 0x33 then s1.setUart (u - 0x30) {}
  else if u = 0x39 then { s1 with mem := { s1.mem with queues := [] } }
  else if u = 0x02 then { s1 with tbus := { s1.tbus with io := false, aux := false } }
  else s1

/-- A unit's wake starts: cold calibration of a converter (R481), a new scrub pass (R737). -/
def State.onWake (s : State) (u : Nat) : State :=
  let s1 := s.setUnit u { s.unit u with wakeDone := false, wakeLate := false, wakeT := s.now }
  if u = 0x08 ∨ u = 0x09 then
    let n := u - 8
    let b := u * 256
    let s2 := (s1.setReg (b + 8) 0 0).setReg (b + 10) 0 0
    let s3 := s2.setReg (b + 7) 0 (entryMap (s2.regN (b + 1)) (s2.slicesLeft n))
    let s4 := ((s3.setRegBit (b + 6) 0 0 false).setRegBit (b + 6) 0 1 true).refreshStalled n
    ((s4.setConv n { wakeT := s4.now }).refreshHealth n).startCold n
  else if u = 0x3C then { s1 with mem := { s1.mem with sram := [], poison := [], scrubAt := 0 } }
  else if u = 0x05 then { s1 with rng := { s1.rng with since := s1.now } }
  else s1

/-- The stages of a chain are cleared (R585). -/
def State.clearChain (s : State) (f : Nat) : State :=
  (s.setFilt f { s.filtOf f with n := 0, seed := false, xs := [], ms := [], flags := [] }).setRegBit
    ((0x10 + f) * 256 + 0x11) 0 0 false

/-- A unit leaves WAKING for READY or RUNNING: the cells that are not OFF begin their power-up (R388). -/
def State.onAwake (s : State) (u : Nat) : State :=
  if u = 0x18 then
    s.each (List.range 16) fun s c =>
      if s.reg 0x1800 c = 0 then s
      else (s.setCell c { s.cell c with powering := true, readyT := s.now + 12000 }).setRegBit 0x1809 c 0 true
  else s

/-- Every matrix switch takes its programmed setting (R386). -/
def State.closeSwitches (s : State) : State :=
  s.setClosed s.now ((List.range 64).filterMap fun d =>
      if s.reg 0x1900 d = 0xFF then none else some (d, s.regN 0x1900 d))

/-- A channel's receiver begins to sample, the line high, and its transmitter is free (R776, R778, R780; log 69). -/
def State.startUart (s : State) (k : Nat) : State :=
  s.setUart k { s.uartOf k with high := true, wave := [], smp := 256 * s.now, seen := true, highT := s.now, txT := s.now
                                divLive := s.reg ((0x30 + k) * 256 + 1) }

/-- A unit enters RUNNING: a chain is cleared (R585), the matrix takes its settings. -/
def State.onRun (s : State) (u : Nat) : State :=
  if u = 0x19 then s.closeSwitches
  else if 0x10 ≤ u ∧ u ≤ 0x17 then s.clearChain (u - 0x10)
  else if 0x30 ≤ u ∧ u ≤ 0x33 then s.startUart (u - 0x30)
  else s

/-- A unit goes to a state, with its epoch (R345), its UNIT_TRANSITION event, and what the change entails. -/
def State.goState (s : State) (u : Nat) (dst : UState) (cause : Nat) : State :=
  let x := s.unit u
  let leaves := x.st == .running && (dst == .draining || dst == .reloading)
  let s1 := if x.st = .running ∧ dst ≠ .running then s.onLeave u dst else s
  let epoch := if leaves then x.epoch + 1 else x.epoch
  let s2 := s1.setUnit u { s1.unit u with
    st := dst, next := none, epoch := epoch
    epoch0 := if s.cyc = 0 then epoch else x.epoch0
    checkT := s.now + if s.cyc = 0 then 128 else 0 }
  let s3 := s2.emit u evUnitTransition (x.st.code + dst.code * 256 + cause * 65536)
  let s4 := if x.st = .waking ∧ (dst = .ready ∨ dst = .running) then s3.onAwake u
    else if dst = .fault ∧ (u = 0x08 ∨ u = 0x09) then s3.stopConv (u - 8) else s3
  if dst = .off ∧ 0x20 ≤ u ∧ u ≤ 0x27 then s4.powerLost (u - 0x20)
  else if dst = .running ∧ x.st ≠ .reloading then s4.onRun u
  else if dst = .waking then s4.onWake u else s4

/-! ### Requests to a unit (Table UNIT-3, R293, R354, R369, R370) -/

/-- A UNIT_RESET (`off` = false) or UNIT_POWER off reaches a unit. -/
def State.drainUnit (s : State) (u : Nat) (off : Bool) : State :=
  let x := s.unit u
  let dest : UState := if off then .off else .waking
  let cause := if off then 2 else 1
  if x.skewed then s.setUnit u { x with after := some (dest, cause), restart := !off }
  else match x.st with
  | .running | .ready =>
    let s1 := s.goState u .draining cause
    (s1.setUnit u { s1.unit u with next := some (dest, cause), restart := !off }).refreshHold false
  | .waking | .fault => s.setUnit u { x with next := some (dest, cause), restart := !off, after := none }
  | .reloading => s.setRegion (u - 0x20) { s.regionOf (u - 0x20) with afterFrz := some off }
  | .draining | .off => s

/-- A UNIT_POWER on reaches a unit: an OFF unit wakes at the next boundary, any other does not change (R293). -/
def State.powerUnit (s : State) (u : Nat) : State :=
  let x := s.unit u
  if x.st = .off ∧ !x.skewed then s.setUnit u { x with next := some (.waking, 2), restart := false } else s

/-! ### A unit at a boundary (R341, R371) -/

/-- The pending change of a unit is made, else its wake or its run condition decides. `v` holds the values committed
at this boundary. -/
def State.unitBoundary (v : View) (s : State) (u : Nat) : State :=
  let x := s.unit u
  if fixedUnit u then s
  else if x.skewed then
    let s1 := s.goState u .fault 6
    s1.setUnit u { s1.unit u with skewed := false, next := x.after, after := none }
  else match x.next with
  | some (dst, cause) =>
    let s1 := if x.st = .off then s else s.onStop u
    let s2 := if x.restart then s1.onReset u else s1
    let s3 := s2.goState u dst cause
    s3.setUnit u { s3.unit u with restart := false }
  | none =>
    match x.st with
    | .waking =>
      if x.wakeDone then s.goState u (if runCondition v u then .running else .ready) 4
      else if x.wakeLate then (s.goState u .fault 7).emit u evWakeFail 0
      else s
    | .ready => if runCondition v u then s.goState u .running 5 else s
    | .running =>
      if runCondition v u then s
      else
        let s1 := s.goState u .ready 5
        if (0x10 ≤ u ∧ u ≤ 0x17) ∨ u = 0x0A ∨ u = 0x0B then s1.onStop u else s1
    | _ => s

/-- The hardware forces a unit into FAULT: from now on it behaves as FAULT, its pending change is dropped, and its plan
items in progress stop and count as skipped; a master releases its balls (R72, R353, R354, R887, R626). -/
def State.forceFault (s : State) (u : Nat) : State :=
  let s0 := s.keepUp
  let s1 := if (s.unit u).st = .running then s0.onLeave u .fault else s0
  let s2 := s1.setUnit u { s1.unit u with skewed := true, next := none, after := none, restart := false }
  let mine := s2.tick.items.filter fun r => r.item.unit == u
  let s3 := s2.each mine fun s r => (s.dropItem r).bump 0x0108
  let s4 : State := { s3 with tick := { s3.tick with items := s3.tick.items.filter fun r => r.item.unit != u } }
  let s5 : State := if u = 0x02 then { s4 with tbus := { s4.tbus with io := false, aux := false } }
    else if u = 0x08 ∨ u = 0x09 then s4.stopConv (u - 8) else s4
  (if u = 0x1B then s5.dropWireRuns fun _ => true else s5).refreshHold false

/-! ### Commands -/

/-- The wake time limit of a unit in system cycles (R446, R490, R539, R586, R637, R639, R675, R738, R753, R764, R813, Table
AFE-7); TBUS and GEYSER have none. -/
def wakeLimit (u : Nat) : Option Nat :=
  if u = 0x05 then some 800000
  else if u = 0x08 ∨ u = 0x09 then some 2000000
  else if u = 0x0A ∨ u = 0x0B ∨ (0x10 ≤ u ∧ u ≤ 0x17) ∨ (0x30 ≤ u ∧ u ≤ 0x33) then some 4000
  else if u = 0x18 then some 80000
  else if u = 0x19 ∨ u = 0x1B ∨ u = 0x38 then some 8000
  else if u = 0x1A ∨ (0x20 ≤ u ∧ u ≤ 0x27) then some 40000
  else if u = 0x28 then some 20000
  else if u = 0x3A ∨ u = 0x3B then some 400000
  else if u = 0x3C then some 80000
  else none

/-- The wake of a unit has run past its time limit (R342). -/
def State.wakeOver (s : State) (u : Nat) : Bool := match wakeLimit u with
  | some l => decide ((s.unit u).wakeT + l < s.now)
  | none => false

/-- WAKE_COMPLETE (R340, R342, R461, R626, R675, R738): the wake of a WAKING unit is complete within its time limit; the unit
moves at the next boundary. A converter's grid starts; RNG needs its seed; SRAM's contents are zero. The wake of a region
whose configuration is invalid does not complete. -/
def execWakeComplete (unit : Fin 64) (s : State) : Host.Outcome State Fault Refusal :=
  let u := unit.val
  let x := s.unit u
  .next (if x.st ≠ .waking ∨ x.wakeLate ∨ x.wakeDone ∨ s.wakeOver u ∨ (u = 5 ∧ !s.rng.live) ∨
      (0x20 ≤ u ∧ u ≤ 0x27 ∧ (s.regionOf (u - 0x20)).invalid) then s
    else
      let s1 := s.setUnit u { x with wakeDone := true }
      if u = 0x08 ∨ u = 0x09 then s1.setConv (u - 8) { s1.convOf (u - 8) with grid := some s1.now }
      else if u = 0x3C then { s1 with mem := { s1.mem with sram := [], poison := [], scrubAt := 0 } }
      else s1)

/-- WAKE_FAIL (R342): the wake time limit passes and the wake has not completed; the unit goes to FAULT at the next
boundary. -/
def execWakeFail (unit : Fin 64) (s : State) : Host.Outcome State Fault Refusal :=
  let u := unit.val
  .next (match wakeLimit u with
    | none => s
    | some l =>
      if (s.unit u).st = .waking ∧ !(s.unit u).wakeDone then
        let s1 := s.reach ((s.unit u).wakeT + l)
        s1.setUnit u { s1.unit u with wakeLate := true }
      else s)

/-- The cycle in which a disagreement that lasts from now on is detected: after 256 cycles in which the check is made. It is
not made in ticks without plan work, nor in cycles 0 to 127 of a tick at whose boundary the unit's state has changed (R99,
R352). -/
def State.skewT (s : State) (u : Nat) : Nat := max s.now (max (s.unit u).checkT s.tick.resumed + 256)

/-- STATE_SKEW (R352 to R354, R371, R887, R99): the view and the hardware have disagreed for 256 cycles: the hardware forces
the unit into FAULT. A detection that would fall behind the boundary is none of this tick. -/
def execStateSkew (unit : Fin 64) (s : State) : Host.Outcome State Fault Refusal :=
  let u := unit.val
  let x := s.unit u
  .next (if !isUnit u || fixedUnit u || x.skewed || s.dozeTick || s.tick.noWork ||
      !(x.st == .running || x.st == .off) || s.tickEnd ≤ s.skewT u then s
    else
      let s1 := s.reach (s.skewT u)
      (s1.emit u evStateSkew (x.st.code + (if x.st = .running then 1 else 2) * 256)).forceFault u)

/-- FUMA_LOG_TAKE (R359 to R362, R366): a cycle passes in which the log takes the oldest event of its input buffer. -/
def execFumaLogTake (s : State) : Host.Outcome State Fault Refusal :=
  .next (if s.fuma.buf.isEmpty then s else s.elapse 1)

end Sys2Proof.Machine
end

