-- ==== Sys2Proof/Machine/Cells.lean ====
section
/-! DEFINITION. The analog cells (R387 to R392, R396 to R398, R410): what a cell's output is, what its comparator decides,
its power-up and settling, and its hold; the sources that hold it. -/

namespace Sys2Proof.Machine

/-- A cell works: its unit is RUNNING or DRAINING and no doze window holds it off (R407, R410). -/
def State.cellOn (s : State) (c : Nat) : Bool :=
  s.isActive 0x18 && !(s.cell c).dozeOff && s.reg 0x1800 c != 0

/-- Voltages are in nanovolts. VCM (Table AFE-2), and the ends of a cell's output swing (R389). -/
def vcm : Int := 900000000
def swingLo : Int := 50000000
def swingHi : Int := 1750000000

/-- The gain of a code in quarters (Table AFE-5). -/
def gainQuarters (code : Nat) : Int :=
  ([2, 3, 4, 6, 8, 12, 16, 24, 32, 48, 64, 96, 128, 192, 256] : List Int).getD code 4

/-- What the mode of a cell computes (Table AFE-4), before the limits of the swing, from its inputs P and N; of a FILTER
cell the two are given as H(s) has shaped them. None: the mode drives no output, or a holding cell keeps its value. -/
def State.cellIdeal (s : State) (c : Nat) (p n : Int) : Option Int :=
  let m := s.regN 0x1800 c
  if m = 1 ∨ (m = 6 ∧ !(s.cell c).holding) then some p
  else if m = 2 ∨ m = 3 then some (vcm + gainQuarters (s.regN 0x1801 c) * (p - n) / 4)
  else if m = 4 then some (vcm + (p - n))
  else none

/-- The inputs lie in the ranges for which Table AFE-4 states the output (R884): the linear range of Table AFE-1 with VDD_ANA
at its typical 1.8 V, and the common mode of an INAMP cell. -/
def State.cellStated (s : State) (c : Nat) (p n : Int) : Bool :=
  let lin := fun (x : Int) => decide (0 ≤ x ∧ x ≤ 1800000000)
  lin p && lin n && (s.regN 0x1800 c != 3 || decide (400000000 ≤ p + n ∧ p + n ≤ 3200000000))

/-- The output of a cell: what its mode computes, within the swing (R387, R389). -/
def State.cellOut (s : State) (c : Nat) (p n : Int) : Option Int :=
  (s.cellIdeal c p n).map fun v => max swingLo (min swingHi v)

/-- The threshold of a comparator (R392). -/
def State.cmpThreshold (s : State) (c : Nat) (n : Int) : Int :=
  if s.regBit 0x1806 c 0 then n else (s.regN 0x1805 c : Int) * 390625

/-- The hysteresis of a comparator (R392). -/
def State.cmpHysteresis (s : State) (c : Nat) : Int :=
  ([0, 5000000, 10000000, 20000000] : List Int).getD ((s.reg 0x1806 c).bits 1 2) 0

/-- What a comparator decides (R392): the edge that is selected is made at the threshold, and the band lies on the side from
which P approaches it. -/
def State.cmpOutput (s : State) (c : Nat) (p n : Int) : Bool :=
  let t := s.cmpThreshold c n
  let h := s.cmpHysteresis c
  let falling := (s.reg 0x1806 c).bits 3 2 == 2
  if s.regBit 0x1809 c 1 then decide ((if falling then t else t - h) ≤ p)
  else decide ((if falling then t + h else t) < p)

/-- Cycles of Table AFE-4 in which a cell settles. -/
def State.settleCycles (s : State) (c : Nat) : Nat :=
  let m := s.regN 0x1800 c
  let fc := s.regN 0x1802 c
  if m = 1 ∨ m = 6 then 800 else if m = 2 then 2000 else if m = 3 then 4000
  else if m = 4 then min 4000000 (max 2000 (4000000000 / max fc 1)) else if m = 5 then 400 else 0

/-- A cell powers up: 30 µs, then its settling time; it reads SETTLING (R388, R410). -/
def State.powerCell (s : State) (c : Nat) : State :=
  (s.setCell c { s.cell c with dozeOff := false, powering := true, readyT := s.now + 12000 }).setRegBit 0x1809 c 0 true

/-- The quiet time of a cell (R388, R396): it powers up or settles. -/
def State.cellQuiet (s : State) (c : Nat) : Bool :=
  s.regBit 0x1809 c 0 && ((s.cell c).powering || decide (s.now < (s.cell c).readyT))

/-- The time ahead of a wake boundary at which a cell powers up (R410). -/
def State.dozeLead (s : State) (c : Nat) : Nat := max 16000 (12000 + s.settleCycles c)

/-- The boundary that begins the next wake tick (R92), as the period stands. -/
def State.wakeBoundary (s : State) : Nat := s.tickEnd + (s.ticksToWake - 1) * s.period

/-! ### Hold sources (R397, R398, R409) -/

/-- An event line that an active region owns (R629). -/
def State.fevOwned (s : State) (n : Nat) : Bool := (List.range 8).any fun r => s.isActive (0x20 + r) && match s.body r with
  | none => false
  | some b => b.ownFev.testBit n

/-- A hold source occurs at an instant: a tracking cell that selects it holds. A trigger that arrives while the cell holds
is ignored. Timers and event lines do not occur in doze ticks. -/
def State.holdCell (src at_ : Nat) (s : State) (c : Nat) : State :=
  let x := s.cell c
  if !s.cellOn c || s.reg 0x1800 c != 6 || s.regN 0x1807 c != src || (s.dozeTick && decide (src < 24)) ||
      (x.holding && decide (at_ < x.tracked)) then s
  else s.setCell c { x with holding := true, tracked := at_ + s.regN 0x1808 c }

/-- The same for every cell. -/
def State.holdCells (s : State) (src at_ : Nat) : State := s.each (List.range 16) (State.holdCell src at_)

/-! ### Trigger timers (R513) -/

/-- A timer is enabled and its sequencer lets it pulse. -/
def State.timerOn (s : State) (k : Nat) : Bool :=
  let u := seqUnit (k / 4)
  s.regBit (u * 256 + 0x48) 0 (k % 4) && !s.dozeTick && ((s.unit u).st == .ready || (s.unit u).st == .running)

/-- A timer that is on pulses in a cycle of the tick. -/
def State.pulses (s : State) (k cyc : Nat) : Bool :=
  let b := seqUnit (k / 4) * 256
  let off := s.regN (b + 0x40 + k % 4)
  let per := s.regN (b + 0x44 + k % 4)
  decide (off ≤ cyc) && (if per = 0 then cyc == off else (cyc - off) % per == 0)

/-- The first cycle at or after another in which a timer pulses, if it does so in a tick without end. -/
def State.pulseFrom (s : State) (k cyc : Nat) : Option Nat :=
  let b := seqUnit (k / 4) * 256
  let off := s.regN (b + 0x40 + k % 4)
  let per := s.regN (b + 0x44 + k % 4)
  if cyc ≤ off then some off else if per = 0 then none else some (off + (cyc - off + per - 1) / per * per)

/-- A hold source occurs now: cycle 128 of the tick, a pulse of a timer, an edge of an event line that a region owns. -/
def State.holdOccurs (s : State) (src : Nat) : Bool :=
  if src = 24 then s.cyc == 128
  else if src < 8 then s.timerOn src && s.pulses src s.cyc
  else s.fevOwned (src - 8)

end Sys2Proof.Machine
end

