-- ==== Sys2Proof/Machine/Bus.lean ====
section
/-! DEFINITION. The shared resources of the memories (R44): the slots of the SRAM banks (R728, R731, R732), the DMA lanes (R754)
and the transactions of the XSPI ports (R749, R750), which say when a burst or a drain has finished. -/

namespace Sys2Proof.Machine

/-! ### SRAM banks (R727 to R732, R737) -/

/-- The bank that holds a byte address. -/
def bankOf (a : Nat) : Nat := a / 0x40000 % 32

/-- The scrubber works: it is a class C requester that waits at every bank. -/
def State.scrubs (s : State) : Bool := s.isRunning 0x3C && s.regBit 0x3C00 0 0 && !s.dozeTick

/-- A bank takes an access of a class that begins in cycle `t`, slot `t` mod 16: the C slot is the scrubber's before class A
and B, and a class B or C read-modify-write begins in no cycle that an A slot or the C slot follows. -/
def slotOk (cls : Nat) (rmw scrub : Bool) (t : Nat) : Bool :=
  !(cls != 3 && scrub && t % 16 == 15) && !(rmw && cls != 1 && ((t + 1) % 4 == 0 || (t + 1) % 16 == 15))

/-- The first cycle from `t` on that a test admits. -/
def firstCycle (ok : Nat → Bool) : Nat → Nat → Nat
  | 0, t => t
  | n + 1, t => if ok t then t else firstCycle ok n (t + 1)

/-- The cycle in which a bank grants an access that waits now. -/
def State.grantT (s : State) (bank cls : Nat) (rmw : Bool) : Nat :=
  firstCycle (slotOk cls rmw s.scrubs) 16 (max s.now (lookup 0 s.mem.bankT bank))

/-- A bank grants an access, and is busy for one cycle, or for two with a read-modify-write. -/
def State.grant (s : State) (bank cls : Nat) (rmw : Bool) : State :=
  let t := s.grantT bank cls rmw
  let s1 := s.reach t
  { s1 with mem := { s1.mem with bankT := insert 0 s1.mem.bankT bank (t + if rmw then 2 else 1) } }

/-! ### Lanes and ports (R44, R749, R750, R754) -/

/-- Cycles of a transaction of `n` bytes on XSPI1, and of `n` bytes at the peak rate of XSPI0 (log 68). -/
def State.xferCycles (s : State) (port n : Nat) : Nat :=
  if port = 1 then xspiOverhead (fun a b => s.reg a b) + n * xspiHalfCycles (s.regN 0x3B01) / 2
  else n * xspiHalfCycles (s.regN 0x3A01) / 2

/-- Bytes of a leg's next transaction: it ends at the next multiple of the leg's unit. -/
def Leg.chunk (l : Leg) : Nat := min l.rem (l.unit - l.addr % l.unit)

/-- A mover after `n` bytes of its first leg; one that reads and writes by transactions does so in turn. -/
def Mover.moved (m : Mover) (n : Nat) : Mover := match m.legs with
  | [] => m
  | l :: t => { m with legs := if l.rem ≤ n then t else t ++ [{ l with addr := l.addr + n, rem := l.rem - n }] }

/-- A mover's next bytes go through a port. -/
def Mover.at_ (m : Mover) (port : Nat) : Bool := (m.legs.head?.map fun l => l.port) == some port

/-- A mover has a transaction in progress. -/
def BusSt.inXfer (b : BusSt) (m : Mover) : Bool := b.busy.any fun p => p.2.1 == m.who

/-- Lanes that transactions in progress use. -/
def BusSt.heldLanes (b : BusSt) : Nat := (b.movers.filter fun m => m.lane && b.inXfer m).length

/-- Movers of a class within SRAM. -/
def BusSt.inSram (b : BusSt) (cls : Nat) : List Mover := b.movers.filter fun m => m.at_ 0 && m.cls == cls

/-- A mover may start a transaction: lanes 1 to 3 serve class B first. -/
def BusSt.mayStart (b : BusSt) (m : Mover) : Bool :=
  !m.lane || decide (b.heldLanes + (if m.cls = 2 then 0 else (b.inSram 2).length) < 3)

/-- How long ago a mover was served: 0 for one that was not. -/
def BusSt.rank (b : BusSt) (m : Mover) : Nat := ((b.served.zip (List.range b.served.length)).find? fun p =>
  p.1 == m.who).elim 0 fun p => p.2 + 1

/-- The mover whose transaction a free port serves next: class B before class C, and within a class in turn (R750). -/
def BusSt.pick (b : BusSt) (port : Nat) : Option Mover :=
  (b.movers.filter fun m => m.at_ port && b.mayStart m).foldl (fun best m => match best with
    | none => some m
    | some x => if m.cls < x.cls ∨ (m.cls = x.cls ∧ b.rank m < b.rank x) then some m else some x) none

/-- A port that is free starts its next transaction. -/
def State.busStart (s : State) (b : BusSt) (port : Nat) : BusSt :=
  if b.busy.any fun p => p.1 == port then b
  else match b.pick port with
    | none => b
    | some m =>
      let n := m.legs.head?.elim 0 Leg.chunk
      { b with busy := b.busy ++ [(port, m.who, b.t + s.xferCycles port n)]
               served := b.served.filter (fun w => w != m.who) ++ [m.who] }

/-- The movers within SRAM that have a lane. -/
def BusSt.running (b : BusSt) : List Mover := (b.inSram 2 ++ b.inSram 3).take (3 - b.heldLanes)

/-- What a mover has done after `d` cycles at an instant. -/
def BusSt.progress (b : BusSt) (d : Nat) (m : Mover) : Mover :=
  if b.running.any fun x => x.who == m.who then m.moved (8 * d)
  else if b.busy.any fun p => p.2.1 == m.who && p.2.2 == b.t + d then m.moved (m.legs.head?.elim 0 Leg.chunk)
  else m

/-- The lanes and ports up to their next event, at most to an instant. -/
def State.busStep (s : State) (lim : Nat) (b0 : BusSt) : BusSt :=
  let b := s.busStart (s.busStart b0 1) 2
  let ends := b.busy.map (fun p => p.2.2) ++ b.running.map fun m => b.t + (m.legs.head?.elim 0 Leg.rem + 7) / 8
  let t := ends.foldl min lim
  let ms := b.movers.map (b.progress (t - b.t))
  { b with t := t
           movers := ms.filter fun m => !m.legs.isEmpty
           busy := b.busy.filter fun p => decide (t < p.2.2)
           done := b.done ++ (ms.filter fun m => m.legs.isEmpty).map fun m => (m.who, t) }

/-- The lanes and ports up to an instant, or until a test holds. -/
def State.busRun (s : State) (lim : Nat) (stop : BusSt → Bool) : Nat → BusSt → BusSt
  | 0, b => b
  | n + 1, b => if lim ≤ b.t || stop b then b else State.busRun s lim stop n (s.busStep lim b)

/-- Steps of the lanes and ports that are enough for every burst. -/
def busFuel : Nat := 1000000

/-- A mover's work has not been dropped. -/
def State.stillMoves (s : State) (who : Nat) : Bool :=
  if who < 24 then (s.dmaOf who).burst.isSome else decide (40 ≤ who) || (s.queue (who - 24)).burst.isSome

/-- The lanes and ports now. -/
def State.busNow (s : State) : BusSt :=
  let b := s.mem.bus
  s.busRun s.now (fun _ => false) busFuel { b with
    movers := b.movers.filter fun m => s.stillMoves m.who, done := b.done.filter fun p => p.1 < 40 && s.stillMoves p.1 }

/-- A mover comes. -/
def State.addMover (s : State) (m : Mover) : State :=
  let b := s.busNow
  { s with mem := { s.mem with bus := { b with movers := b.movers.filter (fun x => x.who != m.who) ++ [m]
                                               done := b.done.filter fun p => p.1 != m.who } } }

/-- The first cycle after the work of a mover, as the movers stand, and the lanes and ports at that instant. -/
def State.moverEnd (s : State) (who : Nat) : Nat × BusSt :=
  let b := s.busNow
  let ended := fun (b : BusSt) => b.done.find? fun p => p.1 == who
  if (ended b).isNone && !b.movers.any fun m => m.who == who then (s.now, b)
  else
    let b1 := s.busRun (b.t + 2 ^ 30) (fun b => (ended b).isSome) busFuel b
    (((ended b1).map fun p => p.2).getD b1.t, { b1 with done := b1.done.filter fun p => p.1 != who })

/-- The clock reaches the end of a mover's work. -/
def State.endMover (s : State) (who : Nat) : State :=
  let e := s.moverEnd who
  let s1 := s.reach e.1
  { s1 with mem := { s1.mem with bus := e.2 } }

/-- Where the transactions on XSPI1 end: at the multiples of XSPI1.MAX_XFER, and of the size of a ring (R743, R749). -/
def State.xferUnit (s : State) (ring : Option Nat) : Nat := max 1 (min (s.regN 0x3B04) (ring.getD (2 ^ 32)))

/-- The legs of a channel's next burst: its ends on an XSPI port; within SRAM a lane alone moves it. -/
def State.dmaLegs (s : State) (n : Nat) : List Leg :=
  let cfg := s.dmaCfg n
  let len := s.descLength n
  let sp := s.descSpace n
  let src := if sp = 0 then []
    else [{ port := sp, addr := (s.descWord n 0).toNat, rem := len
            unit := if sp = 1 then s.xferUnit none else 2 ^ 32 : Leg }]
  let dst := if s.dmaToX n then
      [{ port := 1, addr := s.dmaDst n 0, rem := len
         unit := s.xferUnit (if cfg.bit 9 then some (2 ^ cfg.bits 10 5) else none) : Leg }]
    else []
  if src.isEmpty && dst.isEmpty then [{ port := 0, addr := 0, rem := len, unit := 1 }] else src ++ dst

/-- A channel starts its next burst: the units that it uses accept it, and it takes its place at the lanes and ports. -/
def State.moveBurst (s : State) (n : Nat) (item : Option Nat) : State :=
  let x := s.dmaOf n
  (s.setDma n { x with burst := some item
                       tags := [0x3C, spaceUnit (s.descSpace n), if s.dmaToX n then 0x3B else 0x3C].map s.tagNow }).addMover
    { who := n, cls := (s.dmaCfg n).bits 1 2, lane := true, legs := s.dmaLegs n }

/-- A queue starts a drain burst of `k` words, and takes its place at XSPI1. -/
def State.moveDrain (s : State) (q cls k : Nat) (item : Option Nat) : State :=
  let x := s.queue q
  let ring := (x.words.head?.map fun p => p.1).getD 0
  (s.setQueue q { x with burst := some (k, item), tags := [0x3B, 0x3C].map s.tagNow }).addMover
    { who := 24 + q, cls := cls, lane := false
      legs := [{ port := 1, addr := s.regN (ringId ring 0x50) + 4 * s.regN (ringId ring 0x60), rem := 4 * k
                 unit := s.xferUnit (some (4 * ringSize (s.reg (ringId ring 0x58)))) }] }

end Sys2Proof.Machine
end

