-- ==== Sys2Proof/Machine/Plan.lean ====
section
/-! DEFINITION. The start and finish of plan items (R38, R39, R61, R62, R760), shared by every plan action, and the
command OVERBUDGET. -/

namespace Sys2Proof.Machine

/-- A plan item has finished. -/
def State.finishItem (s : State) (idx : Nat) : State :=
  { s with tick := { s.tick with items := s.tick.items.filter fun r => r.idx != idx } }

/-- The plan item `i`, if it has the given action and starts in the present tick: the clock moves to its offset. An
item aimed at a frozen region waits for the end of the freeze (R61); one whose unit is not RUNNING, or whose channel
no longer meets R760, is skipped and counted (R38). -/
def State.startItem (s : State) (i action : Nat) : State × Option PlanItem :=
  match s.tick.plan.bind fun p => p.items[i]? with
  | none => (s, none)
  | some it =>
    if !s.released || s.tick.noWork || it.action != action || s.tick.fired.contains i ||
        s.tickEnd ≤ s.tickStart + it.offset then
      (s, none)
    else
      let s1 := s.reach (s.tickStart + it.offset)
      let s2 : State := { s1 with tick := { s1.tick with fired := i :: s1.tick.fired } }
      if (s2.unit it.unit).st = .reloading then
        ({ s2 with tick := { s2.tick with skip := s2.tick.skip ++ [i] } }, none)
      else if !s2.isRunning it.unit || (action == 2 && !dmaItemOk (fun a b => s2.reg a b) it.arg) then
        (s2.bump 0x0108, none)
      else ({ s2 with tick := { s2.tick with items := s2.tick.items ++ [{ idx := i, item := it }] } }, some it)

/-- OVERBUDGET (R39): an item still running at OFFSET + BUDGET is counted once. -/
def execOverbudget (i : Fin 64) (s : State) : Host.Outcome State Fault Refusal :=
  .next (match s.tick.items.find? fun r => r.idx == i.val && !r.overdue with
    | none => s
    | some r =>
      let s1 := s.reach (s.tickStart + r.item.offset + r.item.budget)
      let mark := fun (q : RunItem) => if q.idx = r.idx then { q with overdue := true } else q
      let s2 : State := { s1 with tick := { s1.tick with items := s1.tick.items.map mark } }
      s2.bump 0x0109)

end Sys2Proof.Machine
end

