-- ==== Sys2Proof/Machine/Filt.lean ====
section
/-! DEFINITION. The filter and decimation chains (chapter 12): accepting a word through the three stages, outputs,
held words, banks and fades; the commands FILT_EMIT and FILT_OUTPUT. -/

namespace Sys2Proof.Machine

/-- Fractional bits of the stages: at least 4 (R558). -/
def fracBits : Nat := 4 + Config.chainExtraBits

/-- The quotient of a stage: exact where it is, else rounded as the implementation does (R558, log 9). -/
def quant (n : Int) (d : Nat) : Int :=
  if n % d = 0 then n / d else if Config.chainRoundUp n d then n / d + 1 else n / d

/-- a = 1 − exp(−2π·2^−k), held to 24 fractional bits, for k = 6 to 24 (R559). -/
def dcbCoef (k : Nat) : Nat :=
  [1568830, 803663, 406763, 204629, 102629, 51393, 25716, 12863, 6433, 3217, 1608, 804, 402, 201, 101, 50, 25, 13,
   6].getD (k - 6) 0

/-- One moving sum of length `l` over a list, newest first; what lies before the list is 0. -/
def movSum (l : Nat) : List Int → List Int
  | [] => []
  | x :: t => (((x :: t).take l).foldl (· + ·) 0) :: movSum l t

/-- `n` cascaded moving sums. -/
def movSums (l : Nat) : Nat → List Int → List Int
  | 0, xs => xs
  | n + 1, xs => movSums l n (movSum l xs)

/-- Words that an output needs: W (R575). -/
def chainWords (n l d taps : Nat) : Nat := n * (l - 1) + ((if taps = 0 then 1 else taps) - 1) * d + 1

/-- The FIR with one bank (R566). -/
def firOut (coef : Nat → Word) : Nat → List Int → Nat → Int
  | 0, _, _ => 0
  | _, [], _ => 0
  | n + 1, m :: ms, t => (coef t).signed 18 * m + firOut coef n ms (t + 1)

/-- The class of an entry's word and the word itself arrive at a chain from sequencer `n` (R302, R554 to R577, R589, R590):
the foreign check, the rate check, then the stages. -/
def State.acceptWord (s : State) (f n cls : Nat) (w : Word) : State :=
  let u := 0x10 + f
  let b := u * 256
  let inp := s.reg (b + 1)
  let e := resultEntry w
  let x := s.filtOf f
  let late : Bool := match x.lastT with
    | none => false
    | some t => decide (s.now < t + (399 + s.regN (b + 2)) / max (s.regN (b + 2)) 1)
  if inp.bits 0 1 ≠ n ∨ e < inp.bits 1 5 ∨ inp.bits 6 5 < e then s.bump (b + 0x1A)
  else if late then s.bump (b + 0x1B)
  else
    let v : Int := resultValue w * 2 ^ fracBits
    let k := s.regN (b + 4)
    let frozen := k == 0 || s.regBit (b + 5) 0 0 || w.bit 4
    let est := if !x.seed then v else if frozen then x.est else x.est + quant (dcbCoef k * (v - x.est)) (2 ^ 24)
    let y := if k = 0 then v else v - est
    let num := s.regN (b + 7)
    let len := s.regN (b + 8)
    let dec := s.regN (b + 9)
    let taps := s.regN (b + 0x0A)
    let xs := (y :: x.xs).take (num * (len - 1) + 1)
    let words := chainWords num len dec taps
    let cnt := x.n + 1
    let fl := w &&& 0x1E
    let flags := (if fl = 0 then x.flags else (x.n, fl) :: x.flags).filter fun p => x.n < p.1 + words
    let primed : Bool := decide (words ≤ cnt)
    let s1 := (s.bump (b + 0x18)).setReg (b + 6) 0
      (Word.of (intBits (est / 2 ^ Config.chainExtraBits) 26))
    let s2 := s1.setRegBit (b + 0x11) 0 0 primed
    let x1 : FiltSt := { x with n := cnt, est := est, seed := true,
                                lastT := some s.now, xs := xs, flags := flags }
    if x.n % dec ≠ dec - 1 then s2.setFilt f x1
    else
      let m := quant ((movSums len num xs).headD 0) (len ^ num)
      let ms := (m :: x.ms).take 64
      let act := (s2.regBit (b + 0x11) 0 2).toNat
      let out := fun bank => if taps = 0 then m
        else quant (firOut (fun t => lookup 0 x.coef (64 * bank + t)) taps ms 0) (2 ^ 17)
      let fade := if x.armed && primed then some (0, s2.regN (b + 0x0C)) else x.fade
      let val := match fade with
        | none => out act
        | some (i, ex) =>
          if 2 ^ ex ≤ i ∨ !primed then out (if primed then 1 - act else act)
          else out act + quant ((i + 1) * (out (1 - act) - out act)) (2 ^ ex)
      let lastFade := match fade with
        | none => false
        | some (i, ex) => primed && i + 1 == 2 ^ ex
      let c := clip (roundEven val (2 ^ fracBits)) (-2097152) 2097151
      let acc := flags.foldl (fun a p => a ||| p.2) 0
      let word := packResult c.1 e ((acc ||| (if c.2 then 4 else 0)) ||| (w &&& 1))
      let o : ChainOut := { word := word, cls := cls, primed := primed, ovr := word.bit 2, last := lastFade
                            tag := (s.unit u).epoch, due := s.now + if taps = 0 then 64 else 96 }
      let s3 := (s2.setFilt f { x1 with
          ms := ms, outs := x.outs ++ [o], armed := x.armed && !primed,
          fade := fade.map fun p => if primed then (p.1 + 1, p.2) else p }).setRegBit
        (b + 0x11) 0 1 (fade.isSome || s2.regBit (b + 0x11) 0 1)
      if x.armed && primed then s3.endSwap f stDone else s3

/-- A chain output goes to its destinations at an instant (R578): the fabric port, and its ring where FILT.RING names one. -/
def State.deliverOut (s : State) (f : Nat) (o : ChainOut) (item : Option Nat) (at_ : Nat) : State :=
  let r := s.reg ((0x10 + f) * 256 + 0x0F)
  let tags := [(0x10 + f, o.tag)]
  let s1 := (s.bump ((0x10 + f) * 256 + 0x19)).feedPort (2 + f) (0x10 + f) o.word tags
  if r.bit 0 then
    { s1 with mem := { s1.mem with rings := s1.mem.rings ++
        [{ cls := o.cls, prod := 2 + f, ring := r.bits 1 4, word := o.word, item := item, at_ := at_, tags := tags }] } }
  else s1

/-- A FILT_EMIT item whose last word has gone out, with no ring write pending, is finished (R583). -/
def State.emitDone (s : State) (f : Nat) : State :=
  match (s.filtOf f).taken with
  | some (i, []) =>
    if s.mem.rings.any fun r => r.prod == 2 + f && r.item == some i then s
    else (s.setFilt f { s.filtOf f with taken := none }).finishItem i
  | _ => s

/-- FILT_EMIT (R583, R584): the item takes up to EMIT_MAX held words at its start; with DELIVER = 0 it does nothing. -/
def execFiltEmit (i : Fin 64) (s : State) : Host.Outcome State Fault Refusal :=
  .next (match s.startItem i.val 5 with
    | (s1, none) => s1
    | (s1, some it) =>
      let f := it.unit - 0x10
      let x := s1.filtOf f
      if s1.reg (it.unit * 256 + 0x0D) = 0 then s1.finishItem i.val
      else
        let k := s1.regN (it.unit * 256 + 0x0E)
        let y : FiltSt := { x with held := x.held.drop k, taken := some (i.val, x.held.take k), emitT := s1.now }
        (s1.setFilt f y).emitDone f)

/-- FILT_OUTPUT (R575, R579, R581 to R583, R594, R595, R597): the next word of a FILT_EMIT item, one in 4 cycles and within its
tick, else the next computed output, is delivered, by the instant that R579 sets, or held or suppressed; the last output of a
fade makes the new bank active (R572). -/
def execFiltOutput (fi : Fin 8) (s : State) : Host.Outcome State Fault Refusal :=
  let f := fi.val
  let b := (0x10 + f) * 256
  let x := s.filtOf f
  .next (match x.taken, x.outs with
    | some (i, o :: t), _ =>
      let s1 := s.reach x.emitT
      if s.tickEnd ≤ max s.now x.emitT then s
      else ((s1.setFilt f { x with taken := some (i, t), emitT := s1.now + 4 }).deliverOut f o (some i) s1.now).emitDone f
    | _, [] => s
    | _, o :: t =>
      let s1 := s.setFilt f { x with outs := t }
      if !o.primed then s1.bump (b + 0x1C)
      else
        let s2 := if o.ovr then
            let s3 := s1.bump (b + 0x1F)
            if s3.regBit (b + 0x11) 0 3 then s3
            else (s3.setRegBit (b + 0x11) 0 3 true).emit (0x10 + f) evFiltOvr (resultEntry o.word)
          else s1
        let s4 := if s2.reg (b + 0x0D) = 0 then s2.deliverOut f o none (min s2.now o.due)
          else if x.held.length < 256 then s2.setFilt f { s2.filtOf f with held := x.held ++ [o] }
          else
            let s3 := s2.bump (b + 0x1D)
            if s3.regBit (b + 0x11) 0 4 then s3
            else (s3.setRegBit (b + 0x11) 0 4 true).emit (0x10 + f) evFiltHoldFull 0
        if o.last then s4.endFade f else s4)

end Sys2Proof.Machine
end

