-- ==== Sys2Proof/Machine/Seq.lean ====
section
/-! DEFINITION. Conversion sequences, triggers and result rings (chapter 11) with the correction of a sample (R469):
SEQ_START, TT_PULSE, FEV_EDGE, TRIGGER_READY, RESULT_WORD_DELIVERY, RING_WRITE, CAPTURE_WORD and CAPTURE_TIMEOUT. -/

namespace Sys2Proof.Machine

/-! ### Triggers (R507, R510 to R518, R541 to R543) -/

/-- A sequencer and its converter are RUNNING (R515). -/
def State.seqReady (s : State) (n : Nat) : Bool := s.isRunning (seqUnit n) && s.isRunning (convUnit n)

/-- A trigger is ignored and counted; a converter that is not RUNNING counts the request (R515, R338). -/
def State.ignoreTrig (s : State) (n : Nat) : State :=
  let s1 := s.bump (seqUnit n * 256 + 5)
  if s.isRunning (convUnit n) then s1 else s1.gone (convUnit n)

/-- The tags of what sequencer `n` and its converter accept now (R346). -/
def State.tagsNow (s : State) (n : Nat) : BitVec 8 × BitVec 8 :=
  ((s.unit (seqUnit n)).epoch, (s.unit (convUnit n)).epoch)

/-- The last class A sampling instant of a running class A run, if one runs. -/
def State.lastSampleA (s : State) (n : Nat) : Option Nat :=
  (s.seqOf n).a.bind fun r => ((s.runTimes n r.brks 32 r.next r.t).getLast?).map fun p => p.2

/-- A trigger of sequencer `n` occurs at an instant, with its first entry, its delay and its place in the order of R542. The flag
says whether a run or a class A trigger results. -/
def State.issueTrig (s : State) (n order first delay : Nat) (item : Option Nat) (at_ : Nat := s.now) : State × Bool :=
  let cls := entryClass (s.entry n first)
  let ready := at_ + delay
  let q := s.seqOf n
  if !s.seqReady n then (s.ignoreTrig n, false)
  else if cls = 0 then (s.bump (seqUnit n * 256 + 5), false)
  else if cls = 1 then
    ((if s.dozeTick then s.bump 0x020E else s).setSeq n { q with trigs := q.trigs ++ [{ order := order, first := first, ready := ready, item := item }] }, true)
  else if q.bc.isSome then (s.bump (seqUnit n * 256 + 4), false)
  else
    let own := s.gridFrom n (ready + 8)
    let t := match s.lastSampleA n with
      | none => own
      | some a => max own (s.gridFrom n (a + 1))
    (s.setSeq n { q with bc := some { first := first, next := first, t := t, pre := false, prevT := none, brks := [],
                                      item := item, tags := s.tagsNow n } }, true)

/-- The slots of both sequencers whose source is one of `srcs` trigger, in ascending slot number (R542); `edge` selects them by
the FEV edges they name. -/
def State.slotTrigs (s : State) (srcs : List Nat) (edge : Word → Bool) (at_ : Nat := s.now) : State :=
  s.each [0, 1] fun s n => s.each (List.range 8) fun s k =>
    let w := s.reg (seqUnit n * 256 + 0x10 + k)
    if srcs.contains (w.bits 0 6) ∧ edge w then
      (s.issueTrig n k (w.bits 16 5) (s.regN (seqUnit n * 256 + 0x18 + k)) none at_).1
    else s

/-- SEQ_START (R510, R515, R518): the item issues a trigger with delay PLAN_DELAY. One that is ignored or refused
finishes at its start. -/
def execSeqStart (i : Fin 64) (s : State) : Host.Outcome State Fault Refusal :=
  .next (match s.startItem i.val 1 with
    | (s1, none) => s1
    | (s1, some it) =>
      let n := it.unit - 0x0A
      let r := s1.issueTrig n 100 (it.arg % 32) (s1.regN (it.unit * 256 + 1)) (some i.val)
      if r.2 then r.1 else r.1.finishItem i.val)

/-- The timers that pulse in a cycle of the tick and have not done so. -/
def State.timersAt (s : State) (c : Nat) : List Nat := (List.range 8).filter fun k =>
  s.timerOn k && s.pulses k c && decide (lookup 0 (s.seqOf (k / 4)).pulsed k ≤ s.tickStart + c)

/-- Timers pulse at an instant: every sequencer and every cell sees them (R513). -/
def State.timerPulses (s : State) (ks : List Nat) (at_ : Nat) : State :=
  let s1 := s.each ks fun s k =>
    s.setSeq (k / 4) { s.seqOf (k / 4) with pulsed := insert 0 (s.seqOf (k / 4)).pulsed k (at_ + 1) }
  (s1.slotTrigs (ks.map (8 + ·)) (fun _ => true) at_).each ks fun s k => s.holdCells k at_

/-- TT_PULSE (R513, R541, R542, R397): the next pulse of timer TTk in this tick, with those of the other timers in the same
cycle. Those of cycles 0 to 127 are made with the boundary (log 2). -/
def execTtPulse (k : Fin 8) (s : State) : Host.Outcome State Fault Refusal :=
  let from_ := max s.cyc (lookup 0 (s.seqOf (k.val / 4)).pulsed k.val - s.tickStart)
  .next (match s.pulseFrom k.val from_ with
    | none => s
    | some c =>
      if !s.timerOn k.val || s.tickEnd ≤ s.tickStart + c then s
      else (s.reach (s.tickStart + c)).timerPulses (s.timersAt c) (s.tickStart + c))

/-- FEV_EDGE (R514, R541, R629, R397): an edge of a line that an active region owns triggers the slots that select it; a
rising edge holds the cells whose hold source it is (R397 names no edge: DESIGN CHOICE, log 66). -/
def execFevEdge (n : Fin 16) (rising : Bool) (s : State) : Host.Outcome State Fault Refusal :=
  .next (if s.dozeTick || !s.fevOwned n.val then s
    else
      let s1 := s.slotTrigs [0x10 + n.val] fun w => w.bit (if rising then 6 else 7)
      if rising then s1.holdCells (8 + n.val) s1.now else s1)

/-- The class A run takes the multiplexer at its ready instant: the class B or C run is interrupted, or postponed if
none of its entries has been sampled (R520 to R524; an entry due at the very instant is not yet sampled, log 15). -/
def State.preempt (s : State) (n ready lastA : Nat) : State :=
  let q := s.seqOf n
  match q.bc with
  | none => s
  | some b =>
    let back := s.gridFrom n (lastA + 1)
    match (s.runTimes n b.brks 32 b.next b.t).find? fun p => ready ≤ p.2 with
    | none => s
    | some (e, _) =>
      if e = b.next ∧ b.next = b.first ∧ b.prevT = none then
        s.setSeq n { q with bc := some { b with t := max b.t back } }
      else
        let s1 := s.bump (seqUnit n * 256 + 6)
        if e = b.next then s1.setSeq n { q with bc := some { b with t := back, pre := true } }
        else s1.setSeq n { q with bc := some { b with brks := (b.brks.filter fun p => p.1 != e) ++ [(e, back)] } }

/-- TRIGGER_READY (R48, R50, R58, R515 to R525, R542 to R544, R100): the earliest class A trigger of the sequencer
reaches its ready instant: it starts a run, is merged into the running one, or is ignored. While the PLL is stopped in
doze it waits for the relock. -/
def execTriggerReady (c : Side) (s : State) : Host.Outcome State Fault Refusal :=
  let n := sideN c
  let q := s.seqOf n
  let best := q.trigs.foldl (fun (m : Option Trig) t => match m with
    | none => some t
    | some b => if t.ready < b.ready ∨ (t.ready = b.ready ∧ t.order < b.order) then some t else some b) none
  .next (match best with
    | none => s
    | some t =>
      if s.pwr.stopped then s
      else
        let s0 := s.reach t.ready
        let q0 := s0.seqOf n
        let s1 := s0.setSeq n { q0 with trigs := q0.trigs.erase t }
        let fin := fun (z : State) => match t.item with
          | none => z
          | some i => z.finishItem i
        if !s1.seqReady n then fin (s1.ignoreTrig n)
        else if (s1.seqOf n).a.isSome then fin (s1.bump 0x010B)
        else
          let t0 := s1.gridFrom n (t.ready + 8)
          let times := s1.runTimes n [] 32 t.first t0
          let s2 := (s1.bump (seqUnit n * 256 + 7)).preempt n t.ready ((times.getLast?.map fun p => p.2).getD t0)
          s2.setSeq n { s2.seqOf n with a := some { first := t.first, next := t.first, t := t0, pre := false,
                                                    prevT := none, brks := [], item := t.item
                                                    tags := s2.tagsNow n } })

/-! ### Correction (R467 to R471, R493, R494) -/

/-- What was in force before an instant's later changes: of a list of (instant, value before it), newest first, the
value before the oldest change that came after the instant. -/
def valueAt {α : Type} : List (Nat × α) → Nat → α → α
  | [], _, v => v
  | (at_, old) :: r, t, v => if t < at_ then valueAt r t old else v

/-- Slice map, SUSPECT marks and CONVERGED of converter `n` at an instant (R494). -/
def State.convAt (s : State) (n t : Nat) : Word × Word × Bool :=
  let b := convUnit n * 256
  valueAt (s.convOf n).hist t (s.reg (b + 7), s.reg (b + 9), s.regBit (b + 6) 0 0)

/-- The slice that converts a sample at an instant. -/
def State.sliceAt (s : State) (n t : Nat) : Nat :=
  let pos := (t - (s.convOf n).grid.getD 0) / s.interval n % modePositions (s.regN (convUnit n * 256 + 1))
  (s.convAt n t).1.bits (3 * pos) 3

/-- u[n] times 2^22, for a slice and its code in quarter LSB. -/
def State.gainOffset (s : State) (n k : Nat) (x : Int) : Int :=
  let og := s.reg (convUnit n * 256 + 0x10 + k)
  (4 * x - og.signed 16) * (262144 + Word.signed (og >>> 16) 16)

/-- The corrected 14-bit code of a sample and whether it is over range: the exact value of R469, rounded to nearest
with ties to even, then clipped (R467). `nb` says whether the grid neighbours are used. -/
def State.correct (s : State) (n t : Nat) (nb : Bool) (smp : Sample) : Int × Bool :=
  let iv := s.interval n
  let k := s.sliceAt n t
  let u := s.gainOffset n k smp.x
  let skew := if nb then
      (s.reg (convUnit n * 256 + 0x18 + k)).signed 12 *
        (s.gainOffset n (s.sliceAt n (t + iv)) smp.next - s.gainOffset n (s.sliceAt n (t - iv)) smp.prev)
    else 0
  match smp.sat with
  | some hi => (if hi then 8191 else -8192, true)
  | none => clip (roundEven (u * (iv * 500000 : Nat) - skew) (2 ^ 22 * (iv * 500000))) (-8192) 8191

/-! ### Delivery -/

/-- A run has finished: its plan item finishes with it (R517). -/
def State.runDone (s : State) (n : Nat) (isA : Bool) : State :=
  let q := s.seqOf n
  let fin := fun (z : State) (r : Option Run) => match r.bind fun r => r.item with
    | none => z
    | some i => z.finishItem i
  if isA then fin (s.setSeq n { q with a := none }) q.a else fin (s.setSeq n { q with bc := none }) q.bc

/-- A run whose last result has been delivered finishes once no ring write of it is pending. -/
def State.settleRun (s : State) (n : Nat) (isA : Bool) : State :=
  let q := s.seqOf n
  match (if isA then q.a else q.bc) with
  | none => s
  | some r =>
    if r.next = 32 ∧ !(s.mem.rings.any fun w => w.prod == n && (w.cls == 1) == isA) then s.runDone n isA else s

/-- RESULT_WORD_DELIVERY (R526 to R528, R506, R508, R517, R522, R54, R57, R60): the next entry of the class A or of
the class B or C run leaves the sequencer as a result word with its flags, to the direct stream — its fabric port and
armed snapshots —, its chain and its ring, `dt` cycles from now, at most 48 after its sampling instant. -/
def execResultWordDelivery (c : Side) (dt : Nat) (clsA : Bool) (smp : Sample) (s : State) :
    Host.Outcome State Fault Refusal :=
  let n := sideN c
  let b := convUnit n * 256
  let q := s.seqOf n
  .next (match (if clsA then q.a else q.bc) with
    | none => s
    | some r =>
      if r.next = 32 then s
      else
        let s1 := s.reach (max r.t (min (s.now + dt) (r.t + 48)))
        let iv := s1.interval n
        let e := s1.entryAt n r.t r.next
        let put := fun (z : State) (x : Option Run) =>
          if clsA then z.setSeq n { z.seqOf n with a := x } else z.setSeq n { z.seqOf n with bc := x }
        if entryClass e = 0 then s1.runDone n clsA
        else
          let nextT := match r.brks.find? fun p => p.1 == r.next + 1 with
            | some p => p.2
            | none => s1.gridFrom n (r.t + 1)
          let nx := s1.entryAt n nextT (r.next + 1)
          let last := e.bit 27 || r.next == 31 || entryClass nx == 0
          let pv := s1.entryAt n (r.t - iv) (r.next - 1)
          let nb := s1.regN (b + 1) ≤ 1 && !last && nextT == r.t + iv && nx.bits 0 16 == e.bits 0 16 &&
            r.prevT == some (r.t - iv) && pv.bits 0 16 == e.bits 0 16
          let v := s1.correct n r.t nb smp
          let cv := s1.convAt n r.t
          let closed := valueAt s1.wire.routes r.t s1.closed
          let pins := sourcePins closed 34 (e.bits 0 8) ||| sourcePins closed 34 (e.bits 8 8)
          let susMap := valueAt s1.wire.hist r.t (s1.reg 0x1B16)
          let cal := !cv.2.2 || s1.regBit 0x0005 0 0 || cv.2.1.bit (s1.sliceAt n r.t)
          let w := packResult (v.1 * 256) r.next (flagBits ((pins &&& susMap) != 0) cal v.2 r.pre last)
          let tags := [(seqUnit n, r.tags.1), (convUnit n, r.tags.2)]
          let s2 := (if v.2 then (s1.bump (b + 0x0B)).setRegBit (b + 6) 0 5 true else s1).feedPort n (seqUnit n) w tags
          let s3 := match s2.findJob fun j => match j with
              | .capture cc en .. => cc == c && en == r.next
              | _ => false with
            | none => s2
            | some j => { s2 with mem := { s2.mem with caps := s2.mem.caps ++ [(j.num, w)] } }
          let s4 := if e.bit 23 then
              if s3.isRunning (0x10 + e.bits 24 3) then s3.acceptWord (e.bits 24 3) n (entryClass e) w
              else s3.absentDrop (seqUnit n)
            else s3
          let s5 := if e.bit 18 then
              { s4 with mem := { s4.mem with rings := s4.mem.rings ++
                  [{ cls := entryClass e, prod := n, ring := e.bits 19 4, word := w, item := none, at_ := s4.now
                     tags := tags }] } }
            else s4
          (put s5 (some { r with next := if last then 32 else r.next + 1, t := nextT, prevT := some r.t,
                                 pre := r.brks.any fun p => p.1 == r.next + 1 })).settleRun n clsA)

/-! ### Rings (R533 to R538, R546 to R549, R741, R742) -/

/-- The unit of a ring write's producer. -/
def prodUnit (p : Nat) : Nat := if p < 2 then seqUnit p else 0x10 + (p - 2)

/-- One pending ring write goes before another: the second half of a full write that has begun, then class A, B, C (R44,
R529), then by arrival, then by producer (R546; log 68). -/
def ringBefore (x y : RingReq) : Bool :=
  if x.paired != y.paired then x.paired
  else if x.cls ≠ y.cls then decide (x.cls < y.cls)
  else if x.at_ ≠ y.at_ then decide (x.at_ < y.at_)
  else decide (x.prod < y.prod)

/-- The word to be written next. -/
def nextRing (l : List RingReq) : Option RingReq :=
  l.foldl (fun (m : Option RingReq) r => match m with
    | none => some r
    | some b => if ringBefore r b then some r else some b) none

/-- The words that count as written: the level and, for an XSPI1 ring, the words in its queue (R537). -/
def State.ringFill (s : State) (ring : Nat) : Nat :=
  let cfg := s.reg (ringId ring 0x58)
  s.ringLevel ring + if cfg.bit 5 then (s.queue (cfg.bits 6 4)).words.length else 0

/-- FULL_SEEN is set and, on its first word, SEQ_RING_FULL is logged; RING_DROPS counts (R534). -/
def State.ringFull (s : State) (ring : Nat) : State :=
  let cfg := s.reg (ringId ring 0x58)
  let s1 := s.bump (ringId ring 0x80)
  if s1.regBit (ringId ring 0x70) 0 2 then s1
  else (s1.setRegBit (ringId ring 0x70) 0 2 true).emit (ringUnit ring) evSeqRingFull (ring + (cfg.bit 10).toNat * 16)

/-- WR advances by one; a pass from N − 1 to 0 counts in RING_WRAPS (R533). -/
def State.advanceWr (s : State) (ring : Nat) : State :=
  let n := ringSize (s.reg (ringId ring 0x58))
  let wr := s.regN (ringId ring 0x60)
  if wr + 1 < n then s.setReg (ringId ring 0x60) 0 (Word.of (wr + 1))
  else (s.setReg (ringId ring 0x60) 0 0).bump (ringId ring 0x78)

/-- RD advances by one. -/
def State.advanceRd (s : State) (ring : Nat) : State :=
  let n := ringSize (s.reg (ringId ring 0x58))
  s.setReg (ringId ring 0x68) 0 (Word.of ((s.regN (ringId ring 0x68) + 1) % n))

/-- A word enters a Geyser queue, or is dropped when its segment is full (R742). -/
def State.queueWord (s : State) (q ring : Nat) (w : Word) : State :=
  let x := s.queue q
  let cfg := s.reg (0x3910 + q)
  if 4096 * 2 ^ cfg.bits 0 4 ≤ 4 * x.words.length then
    let s1 := s.bump (0x3930 + q)
    if s1.regBit 0x3983 0 q then s1 else (s1.setRegBit 0x3983 0 q true).emit 0x39 evGeyserDrop q
  else
    let s1 := s.setQueue q { x with words := x.words ++ [(ring, w)] }
    let lvl := 4 * (x.words.length + 1)
    if s1.regN (0x3940 + q) < lvl then s1.setReg (0x3940 + q) 0 (Word.of lvl) else s1

/-- The byte address in SRAM or XSPI1 at which a ring's next word is written. -/
def State.ringAddr (s : State) (ring : Nat) : Nat := s.regN (ringId ring 0x50) + 4 * s.regN (ringId ring 0x60)

/-- The pending word that completes a full write of 64 bits with `r`, whose place is `a`: the next of its ring, if it has
arrived within 8 cycles (R729). -/
def State.ringPartner (s : State) (r : RingReq) (a : Nat) : Option RingReq :=
  if a % 8 = 0 then (nextRing (s.mem.rings.filter fun x => x.ring == r.ring)).filter fun x => decide (x.at_ ≤ r.at_ + 8)
  else none

/-- SRAM takes a ring's word at `a` when its bank grants it (R728, R729, R731, R732, R736): with its partner as one full
write, which ends a poison; alone, 8 cycles after it arrived, as a read-modify-write, which poisons a word that it reads as
uncorrectable. The other half of such a word is as read, a free value (log 3). -/
def State.ringStore (s : State) (r : RingReq) (a : Nat) (uncorr : Bool) : State :=
  if r.paired then (s.setSramWord a r.word).unpoison (a / 8)
  else match s.ringPartner r a with
    | some p =>
      let s1 := (s.grant (bankOf a) r.cls false).setSramWord a r.word
      { s1 with mem := { s1.mem with rings := s1.mem.rings.map fun x => if x = p then { x with paired := true } else x } }
    | none =>
      let s1 := ((s.reach (if a % 8 = 0 then r.at_ + 8 else s.now)).grant (bankOf a) r.cls true).setSramWord a r.word
      if uncorr then
        let z := (s1.setSramWord (if a % 8 = 0 then a + 4 else a - 4) s1.freeWord).useFree 1
        ({ z with mem := { z.mem with poison := insert false z.mem.poison (a / 8) true } } : State).bump 0x3C04
      else s1

/-- A word is written to a ring (R534, R537, R538, R741); `uncorr` says that a read-modify-write meets an uncorrectable
word. -/
def State.writeRing (s : State) (r : RingReq) (uncorr : Bool) : State :=
  let cfg := s.reg (ringId r.ring 0x58)
  let p := prodUnit r.prod
  let n := ringSize cfg
  let q := cfg.bits 6 4
  if s.staleTags r.tags then s.discard (ringUnit r.ring)
  else if !cfg.bit 11 || !s.isRunning (ringUnit r.ring) then s.absentDrop p
  else if cfg.bit 5 && (!s.isRunning 0x39 || !s.regBit (0x3910 + q) 0 4) then s.absentDrop p
  else if !cfg.bit 5 && !s.isRunning 0x3C then (s.absentDrop p).gone 0x3C
  else
    let full : Bool := decide (n - 1 ≤ s.ringFill r.ring)
    let s1 := if full then s.ringFull r.ring else s
    if full && cfg.bit 10 then s1
    else
      let s2 := if full then s1.advanceRd r.ring else s1
      if cfg.bit 5 then s2.queueWord q r.ring r.word
      else ((s2.ringStore r (s2.ringAddr r.ring) uncorr).advanceWr r.ring).refreshThresh r.ring

/-- A pending ring write is made; the run or the FILT_EMIT item it was the last of finishes (R517, R583). -/
def State.ringStep (s : State) (r : RingReq) (uncorr : Bool) : State :=
  let s1 : State := { s with mem := { s.mem with rings := s.mem.rings.erase r } }
  let s2 := s1.writeRing r uncorr
  if r.prod < 2 then s2.settleRun r.prod (r.cls == 1) else s2.emitDone (r.prod - 2)

/-- RING_WRITE (R517, R529, R534, R546): the next pending ring write is made. -/
def execRingWrite (uncorr : Bool) (s : State) : Host.Outcome State Fault Refusal :=
  .next (match nextRing s.mem.rings with
    | none => s
    | some r => s.ringStep r uncorr)

/-! ### Snapshots (R306) -/

/-- CAPTURE_WORD: an armed snapshot stores the next word of its entry; the job ends DONE when its count is reached. A word
that finds SRAM not RUNNING is dropped and counted. The write is class C and waits for its bank (R730, R732). -/
def execCaptureWord (c : Side) (s : State) : Host.Outcome State Fault Refusal :=
  .next (match s.findJob fun j => match j with
      | .capture cc .. => cc == c
      | _ => false with
    | none => s
    | some j =>
      match s.mem.caps.find? fun p => p.1 == j.num, j.kind with
      | some p, .capture cc en a cnt stored dl =>
        let s1 : State := { s with mem := { s.mem with caps := s.mem.caps.erase p } }
        if s.captureOver dl then s
        else if !s1.isRunning 0x3C then (s1.absentDrop (seqUnit (sideN c))).gone 0x3C
        else
          let s2 := (s1.grant (bankOf (a + 4 * stored)) 3 true).setSramWord (a + 4 * stored) p.2
          if stored + 1 = cnt then
            ({ s2 with mem := { s2.mem with caps := s2.mem.caps.filter fun p => p.1 != j.num } } : State).endJob j.num
              stDone [Word.of cnt]
          else s2.setJob j.num (.capture cc en a cnt (stored + 1) dl)
      | _, _ => s)

/-- CAPTURE_TIMEOUT: the timeout boundary has come and the count has not been reached: the job ends LATE. A boundary does
this at its cycle 0 for every snapshot whose time is over. -/
def execCaptureTimeout (c : Side) (s : State) : Host.Outcome State Fault Refusal :=
  .next (match s.findJob fun j => match j with
      | .capture cc .. => cc == c
      | _ => false with
    | none => s
    | some j => s.endCapture j)

end Sys2Proof.Machine
end

