-- ==== Sys2Proof/Machine/Analog.lean ====
section
/-! DEFINITION. The analog front (chapter 8): switch matrix, cells, DACs, and the withdrawal of an excitation step
(R450). -/

namespace Sys2Proof.Machine

/-! ### Switch matrix -/

/-- AMTX_SWITCH_CLOSE (R386, R422): the switches that opened at cycle 128 take their new settings at cycle 132. -/
def execAmtxSwitchClose (s : State) : Host.Outcome State Fault Refusal :=
  .next (if !s.isActive 0x19 then s
    else if s.closed = s.closeSwitches.closed then s
    else (s.reach (s.tickStart + 132)).closeSwitches)

/-! ### Cells -/

/-- CELL_POWER_UP (R388): the 30 µs of power-up end and the settling time begins. -/
def execCellPowerUp (cell : Fin 16) (s : State) : Host.Outcome State Fault Refusal :=
  let c := cell.val
  .next (if !(s.cell c).powering then s
    else
      let s1 := s.reach (s.cell c).readyT
      s1.setCell c { s1.cell c with powering := false, readyT := s1.now + s1.settleCycles c })

/-- CELL_SETTLED (R387, R388, R396, R410, R412): the settling time ends and SETTLING clears. -/
def execCellSettled (cell : Fin 16) (s : State) : Host.Outcome State Fault Refusal :=
  let c := cell.val
  .next (if (s.cell c).powering || !s.regBit 0x1809 c 0 then s
    else (s.reach (s.cell c).readyT).setRegBit 0x1809 c 0 false)

/-- COMPARATOR_EDGE (R392 to R396, R408, R410, R416, R100): a cell in comparator mode compares its inputs P and N, in
nanovolts; an edge of its output that CMP_CFG selects, outside the quiet time, counts and is a pulse on CMPn. -/
def execComparatorEdge (cell : Fin 16) (x : CellInputs) (s : State) : Host.Outcome State Fault Refusal :=
  let c := cell.val
  let rising := s.cmpOutput c x.p x.n
  .next (if !s.cellOn c || s.reg 0x1800 c != 5 || s.regBit 0x1809 c 1 == rising then s
    else
      let s1 := s.setRegBit 0x1809 c 1 rising
      if s.cellQuiet c || !s.regBit 0x1806 c (if rising then 3 else 4) then s1
      else
        let s2 := s1.bump 0x180B c
        if s2.isRunning 0x18 then s2.slotTrigs [0x20 + c] fun _ => true else s2)

/-- The state of SAT for inputs of a cell (R389). Where they lie outside the ranges of Table AFE-4 the output is not stated
(R884), and with it whether it saturates is a free value (log 3). -/
def State.cellSat (s : State) (c : Nat) (p n : Int) : Option Bool :=
  (s.cellIdeal c p n).map fun v =>
    if s.cellStated c p n then decide (v < swingLo ∨ swingHi < v) else Config.freeByte (4 * s.free) != 0

/-- ACELL_SAT (R387, R389, R884): the inputs P and N of a cell change, in nanovolts, and its output enters or leaves
saturation; the first entry in a tick sets SAT_SEEN and is logged. -/
def execAcellSat (cell : Fin 16) (x : CellInputs) (s : State) : Host.Outcome State Fault Refusal :=
  let c := cell.val
  let s0 := if (s.cellIdeal c x.p x.n).isSome && !s.cellStated c x.p x.n then s.useFree 1 else s
  .next (match s.cellSat c x.p x.n with
    | none => s
    | some into =>
      if !s.cellOn c then s
      else if s.regBit 0x1809 c 2 == into then s0
      else
        let s1 := s0.setRegBit 0x1809 c 2 into
        if !into || (s.cell c).satTick == some s.tick.count.toNat then s1
        else ((s1.setCell c { s.cell c with satTick := some s.tick.count.toNat }).setRegBit 0x1809 c 3 true).emit
          0x18 evAcellSat c)

/-- SH_HOLD (R397, R398, R409): a hold source occurs now, and a tracking sample-and-hold cell that selects it holds its
value for SH_HOLD cycles. Timers and fabric lines do not trigger in doze ticks. -/
def execShHold (cell : Fin 16) (source : Fin 25) (s : State) : Host.Outcome State Fault Refusal :=
  .next (if s.holdOccurs source.val then s.holdCell source.val s.now cell.val else s)

/-- SH_TRACK_RETURN (R397, R409): the hold time ends and the cell tracks again. In a doze tick a cell whose hold source does
not occur there stays as it is. -/
def execShTrackReturn (cell : Fin 16) (s : State) : Host.Outcome State Fault Refusal :=
  let c := cell.val
  .next (if !(s.cell c).holding || (s.dozeTick && decide (s.regN 0x1807 c < 24)) then s
    else
      let s1 := s.reach (s.cell c).tracked
      s1.setCell c { s1.cell c with holding := false })

/-- CELL_DOZE_POWER_UP (R410): ahead of the next wake boundary, by the lead that its mode needs, a cell that a doze window
holds off powers up again and reads SETTLING. -/
def execCellDozePowerUp (cell : Fin 16) (s : State) : Host.Outcome State Fault Refusal :=
  let c := cell.val
  let at_ := s.wakeBoundary - s.dozeLead c
  .next (if !(s.cell c).dozeOff || (s.dozeTick && decide (s.tickEnd ≤ at_)) then s
    else if s.dozeTick then (s.reach at_).powerCell c
    else s.powerCell c)

/-! ### DACs -/

/-- A code becomes the code in force of a channel at an instant (R402, R403, R450). -/
def State.latchDac (s : State) (ch : Nat) (code : Word) (at_ : Nat) : State :=
  let s1 := s.withdrawStep ch
  (s1.setReg 0x1A03 ch code).setDac ch { s1.dac ch with latchT := some at_ }

/-- A held fabric write whose 400 cycles have passed by an instant is latched (R403). -/
def State.dueHeld (by_ : Nat) (s : State) (ch : Nat) : State :=
  let x := s.dac ch
  match x.held, x.latchT with
  | some w, some t => if t + 400 ≤ by_ then (s.setDac ch { x with held := none }).latchDac ch w (t + 400) else s
  | _, _ => s

/-- What a channel does at its source node (R399, R400): it is in high impedance, delivers a voltage, in femtovolts, or
drives or draws a current, in attoamperes. -/
inductive DacDrive
  | off
  | voltage (fV : Nat)
  | source (aA : Nat)
  | sink (aA : Nat)
  deriving DecidableEq, Repr

/-- A channel drives its node: its unit works, it is enabled, and no change of mode has turned it off (R405, R407). -/
def State.dacOn (s : State) (ch : Nat) : Bool :=
  s.isActive 0x1A && s.regBit 0x1A04 ch 0 && match (s.dac ch).offT with
  | some t => decide (t ≤ s.now)
  | none => true

/-- What a channel delivers at its source node (R399, R400, R405, R437). -/
def State.dacDrive (s : State) (ch : Nat) : DacDrive :=
  if !s.dacOn ch then .off
  else
    let code := s.excited ch
    if s.reg 0x1A01 ch = 0 then .voltage (code * 24414062500)
    else if s.reg 0x1A01 ch = 1 then .source (code * 30517578125)
    else .sink (code * 30517578125)

/-- DAC_UPDATE (R402, R413, R414, R36, R64): the staged codes of the channels of its mask that have LATCH = 1 are latched
in the last of the item's 400 cycles (log 16). An item whose latch would fall behind the boundary is left to be cut
there with no effect. -/
def execDacUpdate (i : Fin 64) (s : State) : Host.Outcome State Fault Refusal :=
  .next (match s.startItem i.val 3 with
    | (s1, none) => s1
    | (s1, some it) =>
      if s1.tickEnd < s1.tickStart + it.offset + 400 then s1
      else
        let s2 := (s1.reach (s1.tickStart + it.offset + 399)).each (List.range 8) fun s ch =>
          match it.arg.testBit ch && s.reg 0x1A02 ch == 1, (s.dac ch).staged with
          | true, some code => (s.setDac ch { s.dac ch with staged := none }).latchDac ch code s.now
          | _, _ => s
        s2.finishItem i.val)

/-- DAC_COMPLIANCE (R401, R882): the pin of a channel in current mode leaves or re-enters its compliance range. -/
def execDacCompliance (ch : Fin 8) (out : Bool) (s : State) : Host.Outcome State Fault Refusal :=
  let c := ch.val
  let m := s.reg 0x1A01 c
  .next (if m == 0 || !s.dacOn c || s.regBit 0x1A05 c 0 == out then s
    else
      let s1 := s.setRegBit 0x1A05 c 0 out
      if out then (s1.setRegBit 0x1A05 c 1 true).emit 0x1A evDacCompliance (c + (m == 2).toNat * 8) else s1)

/-- The RUNNING or DRAINING region whose image owns an output port (Table FAB-7). -/
def State.portOwner (s : State) (bit : Nat) : Option Nat :=
  (List.range 8).find? fun r => s.isActive (0x20 + r) && match s.body r with
    | none => false
    | some b => b.ownPorts.testBit bit

/-- DAC_PORT_WRITE (R403, R404, R450, R629, R645, R338): a fabric write is latched, held until 400 cycles have passed
since the last latch, or dropped. -/
def execDacPortWrite (ch : Fin 8) (dt : Nat) (code : BitVec 16) (s : State) : Host.Outcome State Fault Refusal :=
  let c := ch.val
  let s0 := let z := s.elapse dt; State.dueHeld z.now z c
  let w : Word := code.setWidth 32
  .next (match s0.portOwner c with
    | none => s0
    | some r =>
      if !s0.isRunning 0x1A then s0.absentDrop (0x20 + r)
      else if s0.reg 0x1A02 c ≠ 2 then s0.absentDrop 0x1A
      else
        let x := s0.dac c
        let early := match x.latchT with
          | none => false
          | some t => decide (s0.now < t + 400)
        if early then
          let s1 := if x.held.isSome then s0.bump 0x1A06 c else s0
          (s1.setDac c { x with held := some w }).withdrawStep c
        else s0.latchDac c w s0.now)

/-- DAC_HELD_LATCH (R403): the held write is latched once 400 cycles have passed since the last latch. -/
def execDacHeldLatch (ch : Fin 8) (s : State) : Host.Outcome State Fault Refusal :=
  let x := s.dac ch.val
  .next (match x.held, x.latchT with
    | some w, some t =>
      ((s.reach (t + 400)).setDac ch.val { x with held := none }).latchDac ch.val w (s.reach (t + 400)).now
    | some w, none => (s.setDac ch.val { x with held := none }).latchDac ch.val w s.now
    | none, _ => s)

/-- DAC_OUTPUT_RESUME (R405): 400 cycles after the commit the output is driven again in its new mode. -/
def execDacOutputResume (ch : Fin 8) (s : State) : Host.Outcome State Fault Refusal :=
  .next (match (s.dac ch.val).offT with
    | none => s
    | some t => (s.reach t).setDac ch.val { s.dac ch.val with offT := none })

end Sys2Proof.Machine
end

