-- ==== Sys2Proof/Machine/Wire.lean ====
section
/-! DEFINITION. Broken, shorted and reversed wires (chapter 9): WIRE_CHECK, WIRE_CHECK_FINISH, WIRE_CLAMP,
CLAMP_RELEASE and CLAMP_SWITCH_RETURN. -/

namespace Sys2Proof.Machine

/-- A pin becomes SUS or stops being SUS now (R438, R457). -/
def State.setSus (s : State) (pin : Nat) (on : Bool) : State :=
  let old := s.reg 0x1B16
  let s1 : State := { s with wire := { s.wire with hist := (s.now, old) :: s.wire.hist } }
  let s2 : State := if on then { s1 with wire := { s1.wire with
      susTick := insert 0 s1.wire.susTick pin (s.tick.count.setWidth 32) } } else s1
  (s2.setRegBit 0x1B16 0 pin on).setRegBit 0x1B05 pin 3 on

/-- The data of R441 for a pin. -/
def State.wireData (s : State) (pin : Nat) : Nat :=
  s.regN 0x1B06 pin + pin * 2 ^ 32 + (!s.regBit 0x1B05 pin 5).toNat * 2 ^ 40

/-- WIRE_CHECK (R426 to R432, R435 to R437, R456): the item begins the checks of the due pins of its group in ascending
order; `meas` are the monitor's measurements. With no due pin it finishes at its start. -/
def execWireCheck (i : Fin 64) (meas : List WireMeas) (s : State) : Host.Outcome State Fault Refusal :=
  .next (match s.startItem i.val 4 with
    | (s1, none) => s1
    | (s1, some it) =>
      let due := (List.range 24).filter fun p => s1.regBit 0x1B05 p 4 && s1.regN 0x1B01 p == it.arg % 16
      if due.isEmpty then s1.finishItem i.val
      else { s1 with wire := { s1.wire with runs := s1.wire.runs ++
        [{ idx := i.val, meas := meas, todo := due.filter fun p => monitored (s1.reg 0x1B00 p)
           idle := due.filter fun p => !monitored (s1.reg 0x1B00 p), at_ := s1.now, least := s1.now }] } })

/-- A verdict takes effect (R434, R438, R441, R442, R444). Only an OK verdict of a pin that is monitored clears its SUS
(R454). -/
def State.applyVerdict (s : State) (c : PinFound) : State :=
  let p := c.pin
  let v := c.verdict
  let cnt : Word := s.tick.count.setWidth 32
  let sus := s.regBit 0x1B16 0 p
  let s1 := (s.setReg 0x1B05 p (((s.reg 0x1B05 p).setBits 0 3 v).setBit 6 c.skipped)).setReg 0x1B07 p cnt
  if v = 0 then
    let s2 := (s1.setReg 0x1B06 p cnt).setRegBit 0x1B05 p 5 true
    if sus && monitored (s.reg 0x1B00 p) then
      (s2.setSus p false).emit 0x1B evWireRestored ((lookup 0 s2.wire.susTick p).toNat + p * 2 ^ 32)
    else s2
  else
    let s2 := s1.bump 0x1B08 p
    if sus then s2
    else
      let s3 := s2.setSus p true
      if v = 1 then s3.emit 0x1B evWireOpen (s3.wireData p)
      else if v = 2 then s3.emit 0x1B evWireShort (s3.wireData p)
      else if v = 3 then s3.emit 0x1B evWireReversed (s3.wireData p)
      else s3

/-- A check as it stands when every line of it is made with the settings in force. -/
def State.made (s : State) (r : WireRun) : WireRun := s.carryOn (s.now + r.at_ + (checkLines + 1) * 65536) checkLines r

/-- The cycle in which a check finishes: the last one of its final measurement (R430). -/
def WireRun.finish (r : WireRun) : Nat := max r.least (r.at_ - 1)

/-- WIRE_CHECK_FINISH (R430, R434, R438, R441 to R444, R426, R452): the verdicts of the check in progress take effect
together in its last cycle; the pins it found due are due no longer. A check that would end behind the boundary is left to
be cut there. -/
def execWireCheckFinish (s : State) : Host.Outcome State Fault Refusal :=
  .next (match s.wire.runs with
    | [] => s
    | r :: rest =>
      let q := s.made r
      if s.tickEnd ≤ q.finish then s
      else
        let s1 := s.reach q.finish
        let next := rest.map fun (w : WireRun) => { w with at_ := max w.at_ (s1.now + 1) }
        let s2 : State := { s1 with wire := { s1.wire with runs := next } }
        let s3 := s2.each q.found State.applyVerdict
        let s4 := s3.each (q.found.map PinFound.pin ++ q.idle) fun s p => s.setRegBit 0x1B05 p 4 false
        s4.finishItem q.idx)

/-- A flagged pin is recorded: it is marked SUS if it is monitored, and its first flag since CLAMP_SEEN was clear is
logged (R424, R425, R441). -/
def State.recordClamp (s : State) (p : Nat) : State :=
  let data := s.wireData p + (s.wire.high.bit p).toNat * 2 ^ 41
  let s1 := if monitored (s.reg 0x1B00 p) ∧ !s.regBit 0x1B16 0 p then s.setSus p true else s
  if s1.regBit 0x1B18 0 p then s1 else (s1.setRegBit 0x1B18 0 p true).emit 0x1B evWireClamp data

/-- WIRE_CLAMP (R420 to R425, R441, R448, R451): a pin is flagged: it is isolated, marked SUS if it is monitored, and
its first flag since CLAMP_SEEN was clear is logged. Before the end of phase 1 nothing is recorded but the flag. -/
def execWireClamp (pin : Fin 24) (up : Bool) (s : State) : Host.Outcome State Fault Refusal :=
  let p := pin.val
  .next (if s.regBit 0x1B17 0 p then s
    else
      let s1 := (s.keepUp.mapRun (WireRun.clampPin p s.now)).setRegBit 0x1B17 0 p true
      let s2 : State := { s1 with wire := { s1.wire with
          iso := s1.wire.iso.setBit p true,
          high := s1.wire.high.setBit p up } }
      if s2.alive then s2.recordClamp p else s2)

/-- CLAMP_RELEASE (R421): the flag releases; the pin stays isolated for 400 cycles. -/
def execClampRelease (pin : Fin 24) (s : State) : Host.Outcome State Fault Refusal :=
  let p := pin.val
  .next (if !s.regBit 0x1B17 0 p then s
    else
      let s1 := s.keepUp.setRegBit 0x1B17 0 p false
      { s1 with wire := { s1.wire with relT := insert 0 s1.wire.relT p s1.now } })

/-- CLAMP_SWITCH_RETURN (R422): 400 cycles after the release the switches return to their programmed settings. -/
def execClampSwitchReturn (pin : Fin 24) (s : State) : Host.Outcome State Fault Refusal :=
  let p := pin.val
  .next (if s.regBit 0x1B17 0 p || !s.wire.iso.bit p then s
    else
      let s1 := s.reach (lookup 0 s.wire.relT p + 400)
      { s1 with wire := { s1.wire with iso := s1.wire.iso.setBit p false, relT := insert 0 s1.wire.relT p 0 } })

end Sys2Proof.Machine
end

