-- ==== Sys2Proof/Machine/Conv.lean ====
section
/-! DEFINITION. Converter calibration and modes (chapter 10): CAL_ROTATE, CAL_ROTATE_SWAP, COLD_STEP,
COLD_SPARE_SWAP, CONV_CAL_TIMEOUT, and what a SET of CONV.MODE or CONV.TRICKLE_DIV does. -/

namespace Sys2Proof.Machine

/-- Slice map, SUSPECT and CONVERGED are about to change: their present values are kept for results sampled earlier
(R494). -/
def State.keepConv (s : State) (n : Nat) : State :=
  let b := convUnit n * 256
  let x := s.convOf n
  s.setConv n { x with hist := (s.now, s.reg (b + 7), s.reg (b + 9), s.regBit (b + 6) 0 0) :: x.hist }

/-- The terms and the last residue of a slice (Table CONV-5). -/
def State.setTerms (s : State) (n k : Nat) (m : SliceMeas) : State :=
  let b := convUnit n * 256
  (s.setReg (b + 0x10 + k) 0 (Word.of (intBits m.o 16 + intBits m.g 16 * 65536))).setReg (b + 0x18 + k) 0
    (Word.of (intBits m.t 12 + m.r % 4096 * 65536))

/-- A slice that takes a position is SUSPECT where its residue is above RESID_WARN (R478), as the step found it (R496). -/
def State.markSlice (s : State) (n k r warn : Nat) : State :=
  let b := convUnit n * 256
  if warn < r then
    ((s.setRegBit (b + 9) 0 k true).setRegBit (b + 6) 0 3 true).emit (convUnit n) evConvHealth (k + r % 4096 * 65536)
  else s.setRegBit (b + 9) 0 k false

/-- The first sample instant of position `p` at or after an instant. -/
def State.posInstant (s : State) (n p t : Nat) : Nat :=
  let iv := s.interval n
  gridAt ((s.convOf n).grid.getD 0 + p * iv) (iv * s.positions n) t

/-- The measured spare takes position `p`; the slice that leaves it becomes the spare, or returns to off in TRICKLE
mode (R473, R475, R888). -/
def State.swapSpare (s : State) (n p : Nat) (w : Waiting) : State :=
  let b := convUnit n * 256
  let old := (s.reg (b + 7)).bits (3 * p) 3
  let s1 := (s.keepConv n).setTerms n w.slice w.m
  let map := ((s1.reg (b + 7)).setBits (3 * p) 3 w.slice).setBits 12 3 (if s1.regN (b + 1) = 2 then 7 else old)
  let s2 := (s1.setReg (b + 7) 0 map).markSlice n w.slice w.m.r w.warn
  let s3 := s2.setReg (b + 10) 0 (s2.reg (b + 10) + 1)
  let s4 := s3.setConv n { s3.convOf n with waiting := none }
  (s4.refreshHealth n).refreshStalled n

/-- The spare is retired, and the lowest slice that is neither active nor retired becomes the spare (R479). -/
def State.retireSpare (s : State) (n : Nat) (r : Nat) : State :=
  let b := convUnit n * 256
  let k := s.spare n
  let s1 := (s.setRegBit (b + 8) 0 k true).setReg (b + 0x18 + k) 0 ((s.reg (b + 0x18 + k)).setBits 16 12 r)
  let s2 := s1.setConv n { s1.convOf n with latched := true }
  let s3 := ((s2.setRegBit (b + 6) 0 3 true).refreshHealth n).emit (convUnit n) evConvRetired (k + r % 4096 * 65536)
  let next := ((List.range 5).find? fun j => !(s3.active n).contains j && !s3.regBit (b + 8) 0 j).getD 7
  (s3.setReg (b + 7) 0 ((s3.reg (b + 7)).setBits 12 3 next)).refreshStalled n

/-- A SET of CONV.MODE or CONV.TRICKLE_DIV has completed: the grid is anchored again in the next cycle with the slice
map of R486, and a slice that takes a position after a poor cold measurement is SUSPECT (R461, R486, R487, R888). -/
def State.regrid (s : State) (n : Nat) : State :=
  let b := convUnit n * 256
  let before := s.active n
  let s1 := s.keepConv n
  let s2 := s1.setReg (b + 7) 0 (entryMap (s1.regN (b + 1)) (s1.slicesLeft n))
  let s3 := s2.setConv n { s2.convOf n with grid := (s2.convOf n).grid.map fun _ => s2.now + 1 }
  let poor := (s3.active n).filter fun k => !before.contains k && s3.regBit (b + 6) 0 1 &&
    lookup 0 (s3.convOf n).meas k != 0 && decide (s3.regN (b + 4) < (s3.reg (b + 0x18 + k)).bits 16 12)
  ((s3.each poor fun s k => s.markSlice n k ((s.reg (b + 0x18 + k)).bits 16 12)
    (s.regN (b + 4))).refreshHealth n).refreshStalled n

/-- CAL_ROTATE (R472 to R474, R476, R479): the item measures the spare. A spare beyond RESID_FAIL is retired in the last
of the 6,400 cycles of measurement; else the terms are ready after 7,040 cycles and the swap is awaited. An item that
reaches neither within the tick is left to be cut. -/
def execCalRotate (i : Fin 64) (m : SliceMeas) (s : State) : Host.Outcome State Fault Refusal :=
  .next (match s.startItem i.val 8 with
    | (s1, none) => s1
    | (s1, some it) =>
      let n := it.unit - 8
      let b := it.unit * 256
      let rot := s1.regN (b + 3)
      if 1 < s1.regN (b + 1) ∨ s1.regBit (b + 6) 0 1 ∨ s1.spare n = 7 ∨ rot = 0 ∨ s1.tick.count.toNat % rot ≠ 0 then
        s1.finishItem i.val
      else if s1.regN (b + 5) < m.r then
        if s1.tickEnd < s1.tickStart + it.offset + 6400 then s1
        else ((s1.reach (s1.tickStart + it.offset + 6399)).retireSpare n m.r).finishItem i.val
      else if s1.tickEnd < s1.tickStart + it.offset + 7040 then s1
      else
        let s2 := s1.reach (s1.tickStart + it.offset + 7040)
        let w : Waiting := { slice := s2.spare n, m := m, cold := false, warn := s1.regN (b + 4) }
        s2.setConv n { s2.convOf n with waiting := some w })

/-- CAL_ROTATE_SWAP (R473, R475, R478, R493, R494): the measured spare takes its position at a sample instant of it, and
the item finishes. -/
def execCalRotateSwap (c : Side) (s : State) : Host.Outcome State Fault Refusal :=
  let n := sideN c
  .next (match (s.convOf n).waiting with
    | none => s
    | some w =>
      let p := s.regN (convUnit n * 256 + 10) % s.positions n
      let t := s.posInstant n p s.now
      if w.cold || s.tickEnd ≤ t then s
      else
        let s1 := (s.reach t).swapSpare n p w
        match s1.tick.items.find? fun r => r.item.unit == convUnit n && r.item.action == 8 with
        | none => s1
        | some r => s1.finishItem r.idx)

/-- A cold measurement of a slice counts towards R481: the number of measurements, and whether its terms are close to
the last ones. -/
def State.countCold (s : State) (n k : Nat) (m : SliceMeas) : State :=
  let og := s.reg (convUnit n * 256 + 0x10 + k)
  let near := (m.o - og.signed 16).natAbs ≤ 2 && (m.g - Word.signed (og >>> 16) 16).natAbs ≤ 64 &&
    (m.t - (s.reg (convUnit n * 256 + 0x18 + k)).signed 12).natAbs ≤ 4
  let x := s.convOf n
  s.setConv n { x with meas := insert 0 x.meas k (lookup 0 x.meas k + 1), close := insert false x.close k near }

/-- Cold calibration completes once every slice meets R481, with RESID_WARN as the step began with it; else the next cold
step starts, back to back (R888). -/
def State.judgeCold (s : State) (n warn : Nat) : State :=
  let b := convUnit n * 256
  let x := s.convOf n
  if (List.range 5).all fun k => 2 ≤ lookup 0 x.meas k && lookup false x.close k &&
      (s.reg (b + 0x18 + k)).bits 16 12 ≤ warn then
    let t := usOf (s.now - x.wakeT)
    let s1 := s.keepConv n
    ((((s1.setConv n { s1.convOf n with cold := none }).setRegBit (b + 6) 0 0 true).setRegBit (b + 6) 0 1 false).setReg
      (b + 0x0C) 0 (Word.of t)).emit (convUnit n) evConvConverged t
  else s.startCold n

/-- A converter works: it wakes, is READY, RUNNING or DRAINING, and its clocks run (R482, R492). -/
def State.convWorks (s : State) (n : Nat) : Bool :=
  let x := s.unit (convUnit n)
  !x.skewed && !s.pwr.stopped && (x.st == .waking || x.st == .ready || x.st == .running || x.st == .draining)

/-- The sample grid of a converter runs: from the end of its wake until it leaves RUNNING or READY (R461). In DRAINING only
the conversions that it has accepted still go by that grid (R348; DEDUCED, log 67). -/
def State.gridRuns (s : State) (n : Nat) : Bool :=
  s.convWorks n && (s.unit (convUnit n)).st != .draining && (s.convOf n).grid.isSome

/-- COLD_STEP (R481, R483, R888): 7,040 cycles after its start a cold step has measured its slice. The terms of an off slice
are stored; those of the spare wait for its swap. A slice that a mode change has put into a position meanwhile keeps its
terms (DESIGN CHOICE, log 67). -/
def execColdStep (c : Side) (terms : Terms) (resid : Nat) (s : State) : Host.Outcome State Fault Refusal :=
  let n := sideN c
  let m := terms.with resid
  let b := convUnit n * 256
  .next (match (s.convOf n).cold with
    | none => s
    | some q =>
      if !s.convWorks n then s
      else
        let s1 := s.reach (q.start + 7040)
        if (s1.active n).contains q.slice then s1.startCold n
        else if q.spare then
          let w : Waiting := { slice := q.slice, m := m, cold := true, warn := q.warn }
          s1.setConv n { s1.convOf n with cold := none, waiting := some w }
        else
          let s2 := (s1.countCold n q.slice m).setTerms n q.slice m
          (if m.r ≤ q.warn then s2.setRegBit (b + 9) 0 q.slice false else s2).judgeCold n q.warn)

/-- COLD_SPARE_SWAP (R888, R475, R478, R481): the spare that a cold step measured takes its position at the first sample
instant of it, once the grid runs. -/
def execColdSpareSwap (c : Side) (s : State) : Host.Outcome State Fault Refusal :=
  let n := sideN c
  .next (match (s.convOf n).waiting with
    | none => s
    | some w =>
      if !w.cold || !s.gridRuns n then s
      else if (s.active n).contains w.slice then (s.setConv n { s.convOf n with waiting := none }).startCold n
      else
        let p := s.regN (convUnit n * 256 + 10) % s.positions n
        let s1 := s.reach (s.posInstant n p s.now)
        ((s1.countCold n w.slice w.m).swapSpare n p w).judgeCold n w.warn)

/-- CONV_CAL_TIMEOUT (R482): cold calibration has not completed 40 ms after the start of the wake. -/
def execConvCalTimeout (c : Side) (s : State) : Host.Outcome State Fault Refusal :=
  let n := sideN c
  let b := convUnit n * 256
  let x := s.convOf n
  .next (if !s.regBit (b + 6) 0 1 || x.timedOut then s
    else
      let s1 := (s.reach (x.wakeT + 16000000)).setConv n { x with timedOut := true, latched := true }
      ((s1.setRegBit (b + 6) 0 3 true).refreshHealth n).emit (convUnit n) evConvCalTimeout 0)

end Sys2Proof.Machine
end

