-- ==== Sys2Proof/Machine/Manifest.lean ====
section
/-! DEFINITION. What boot flash holds (chapter 15): manifests, members, region images, and the checks of Table BOOT-5
and Table IMG-6. -/

namespace Sys2Proof.Machine

/-! ### Fields -/

/-- The little-endian number of `n` bytes at an offset. -/
def field (bs : List Byte) (off n : Nat) : Nat :=
  ((bs.drop off).take n).reverse.foldl (fun a b => a * 256 + b.toNat) 0

/-- Base and size of a target: 0 slot A, 1 slot B, 2 the staging area (Table IMG-1). -/
def targetBase (t : Nat) : Nat := if t = 0 then 0x200000 else if t = 1 then 0xA00000 else 0x100000
def targetSize (t : Nat) : Nat := if t ≤ 1 then 0x800000 else 0x100000

/-- `n` bytes of boot flash. -/
def State.flashBytes (s : State) (a n : Nat) : List Byte := readBytes s.flashByte a n

/-- A member table entry (Table IMG-4). -/
structure Member where
  type   : Nat
  index  : Nat
  ilev   : Nat
  offset : Nat
  length : Nat
  min    : Nat
  max    : Nat
  hash   : List Byte
  deriving DecidableEq, Repr

/-- Entry `i` of the member table of a manifest. -/
def manMember (man : List Byte) (i : Nat) : Member :=
  let e := (man.drop (0x20 + 48 * i)).take 48
  { type := field e 0 1, index := field e 1 1, ilev := field e 2 2, offset := field e 4 4, length := field e 8 4,
    min := field e 12 2, max := field e 14 2, hash := e.drop 16 }

/-- The eleven members. -/
def manMembers (man : List Byte) : List Member := (List.range 11).map (manMember man)

/-- The key of a root-key slot in the key table: 64 bytes. -/
def manKey (man : List Byte) (slot : Nat) : List Byte := (man.drop (0x230 + 64 * slot)).take 64

/-- The fields of Table IMG-3 that single numbers hold. -/
def manSetLen (man : List Byte) : Nat := field man 0x08 4
def manSecver (man : List Byte) : Nat := field man 0x10 1
def manMinStep (man : List Byte) : Nat := field man 0x11 1
def manMaxTested (man : List Byte) : Nat := field man 0x12 1
def manFlags (man : List Byte) : Nat := field man 0x13 1
def manKeySlot (man : List Byte) : Nat := field man 0x14 1

/-- The type and index that each position of the member table must have (R693). -/
def memberKinds : List (Nat × Nat) :=
  [(1, 0), (2, 0), (3, 0), (4, 0), (4, 1), (4, 2), (4, 3), (4, 4), (4, 5), (4, 6), (4, 7)]

/-- Two members that are not empty overlap. -/
def Member.hits (a b : Member) : Bool :=
  a.length != 0 && b.length != 0 && a.offset < b.offset + b.length && b.offset < a.offset + a.length

/-- No two of a list of members overlap. -/
def apart : List Member → Bool
  | [] => true
  | a :: t => t.all (fun b => !a.hits b) && apart t

/-- The structure of a manifest (R694). -/
def manifestOk (man : List Byte) : Bool :=
  let ms := manMembers man
  man.take 4 == [0x4C, 0x4E, 0x4D, 0x46] && field man 4 2 == 1 && field man 6 2 == 11 &&
    ms.map (fun m => (m.type, m.index)) == memberKinds &&
    ms.all (fun m => m.length == 0 ||
      (752 ≤ m.offset && m.offset + m.length ≤ 0x800000 && m.offset + m.length ≤ manSetLen man)) &&
    apart ms

/-- A public key matches a root-key slot (R652). -/
def State.keyMatches (s : State) (key : List Byte) (slot : Nat) : Bool := (sha256 key).take 14 == s.keyHash slot

/-- Check 2: the manifest verifies against an unrevoked root key (R653, R692). -/
def State.manAuth (s : State) (man : List Byte) : Bool :=
  let k := manKeySlot man
  k < 2 && s.keyUsable k && s.keyMatches (manKey man k) k &&
    ecdsaVerify (manKey man k) (man.take 0x2B0) ((man.drop 0x2B0).take 32) ((man.drop 0x2D0).take 32)

/-- The manifest bytes of a slot. -/
def State.slotManifest (s : State) (slot : Nat) : List Byte := s.flashBytes (targetBase slot) 752

/-- The bytes of member `i` of a slot. -/
def State.memberBytes (s : State) (slot i : Nat) : List Byte :=
  let m := manMember (s.slotManifest slot) i
  s.flashBytes (targetBase slot + m.offset) m.length

/-- Checks 1 to 5 of Table BOOT-5 on a slot: the result code, 1 where all pass; `strict` says that a failing check 2
ends them (R139). -/
def State.slotChecks (s : State) (slot : Nat) (readErr strict : Bool) : Nat :=
  let man := s.slotManifest slot
  if s.regBit 0x0005 0 2 then 8
  else if readErr || !manifestOk man then 2
  else if strict && !s.manAuth man then 3
  else if manSecver man < s.counterValue 0 then 4
  else if Config.stepping < manMinStep man then 5
  else if (List.range 11).any fun i =>
      (manMember man i).length != 0 && sha256 (s.memberBytes slot i) != (manMember man i).hash then 6
  else 1

/-! ### Region images (Table IMG-5) -/

def imgIlev (img : List Byte) : Nat := field img 0x06 2
def imgBodyLen (img : List Byte) : Nat := field img 0x08 4
def imgBody (img : List Byte) : List Byte := (img.drop 0x100).take (imgBodyLen img)

/-- The header is a region image's, of at most 512 KiB (R699). -/
def imgHeaderOk (img : List Byte) : Bool :=
  img.take 4 == [0x4C, 0x4E, 0x52, 0x47] && field img 4 2 == 1 && 0x100 + imgBodyLen img ≤ 0x80000

/-- The body is whole and matches BODY_HASH. -/
def imgHashOk (img : List Byte) : Bool :=
  (imgBody img).length == imgBodyLen img && sha256 (imgBody img) == (img.drop 0x18).take 32

/-- The configuration that an image gives a region. -/
def imgCfg (img : List Byte) : RegionCfg :=
  { imageId := Word.of (field img 0x0C 4), ilev := imgIlev img,
    keySlot := if field img 0x15 1 < 2 then some (field img 0x15 1) else none,
    secver := field img 0x14 1, body := Config.regionBody (imgBody img) }

/-- Two bodies claim a port, event line or pin in common (R627, R636). -/
def bodiesClash (a b : RegionBody) : Bool :=
  a.ownPorts &&& b.ownPorts != 0 || a.ownFev &&& b.ownFev != 0 || a.ownFio &&& b.ownFio != 0

/-- A body claims an FIO pin that a clock line uses as its source (R636). -/
def claimsSource (v : View) (b : RegionBody) : Bool :=
  (List.range 6).any fun k => v (0x2808 + k) 0 != 0 && b.ownFio.testBit ((v (0x2808 + k) 0).toNat - 1)

/-- Every clock line of every class A path is PLL-sourced at 100 MHz or more (R634). -/
def pathsOk (v : View) (b : RegionBody) : Bool :=
  b.aPaths.all fun p => p.2.all fun k => v (0x2808 + k) 0 == 0 && (v (0x2800 + k) 0).toNat ≤ 20

/-- The image that a REGION_LOAD copies: the loaded set's member (source 0), or the staging area's content. -/
def State.loadImage (s : State) (r : Nat) (staging : Bool) : List Byte :=
  if staging then
    let h := s.flashBytes (targetBase 2) 0x100
    s.flashBytes (targetBase 2) (min (0x100 + imgBodyLen h) 0x80000)
  else
    let m := manMember s.img.manifest (3 + r)
    s.flashBytes (targetBase ((s.reg 0x0004).bits 8 2 - 1) + m.offset) m.length

/-- The signature of a staging image verifies with the key of its slot (Table IMG-6, R654). -/
def State.imgAuth (s : State) (img : List Byte) : Bool :=
  let k := field img 0x15 1
  k < 2 && s.keyUsable k && (manKey s.img.manifest k).any (· != 0) &&
    ecdsaVerify (manKey s.img.manifest k) (img.take 0x38) ((img.drop 0x38).take 32) ((img.drop 0x58).take 32)

/-- The outcome of a REGION_LOAD and whether its image is unlisted (Table IMG-6, R298, R634, R636, R711; log 18). -/
def State.loadOutcome (s : State) (r : Nat) (staging : Bool) (img : List Byte) : Nat × Bool :=
  let man := s.img.manifest
  let m := manMember man (3 + r)
  let unlisted := staging && !(m.min ≤ imgIlev img && imgIlev img ≤ m.max)
  let body := Config.regionBody (imgBody img)
  let clash := (List.range 8).any fun q => q != r &&
    ((s.regionOf q).active.toList ++ (s.regionOf q).shadow.toList).any fun c =>
      bodiesClash body (c.body)
  if !imgHeaderOk img then (stIncompatible, false)
  else if !imgHashOk img || (staging && !s.imgAuth img) || (!staging && sha256 img != m.hash) then (stDenied, false)
  else if staging && ((manMember man 0).ilev < field img 0x12 2 || Config.stepping < field img 0x11 1 ||
      field img 0x14 1 < s.counterValue 0 || !(field img 0x10 1).testBit r ||
      (unlisted && !(manFlags man).testBit 1)) then (stIncompatible, false)
  else if clash || claimsSource (fun a b => s.reg a b) body || !pathsOk (fun a b => s.reg a b) body then
    (stIncompatible, false)
  else (stDone, unlisted)

/-! ### Loading a set (check 6, R654, R695 to R700, R153) -/

/-- The powered unit numbers of an analog configuration (R696). -/
def poweredUnits (w0 w1 : Word) : List Nat :=
  ((List.range 32).filter fun i => w0.bit i) ++ ((List.range 32).filter fun i => w1.bit i).map (0x20 + ·)

/-- The records of an analog configuration, three words each. -/
def recordsOf : List Word → List (Word × Word × Word)
  | a :: b :: c :: t => (a, b, c) :: recordsOf t
  | _ => []

/-- A parameter record as a setting of the commit at the end of phase 2. -/
def recordSetting (r : Word × Word × Word) (bound : Nat) : Option Setting :=
  if r.1.bits 16 16 = 0 then
    some { id := r.1.bits 0 16, sub := r.2.1.toNat, val := r.2.2, bound := bound, group := 0, boot := false }
  else none

/-- The settings of an analog configuration's words. -/
def State.setSettings (s : State) (ws : List Word) : List Setting :=
  (recordsOf (ws.drop 3)).filterMap fun r => recordSetting r s.tick.count.toNat

/-- A record would be accepted (R697): a parameter record as a SET, a coefficient record as a COEF_LOAD. -/
def State.recordOk (s : State) (sets : List Setting) (r : Word × Word × Word) : Bool :=
  let kind := r.1.bits 16 16
  if kind = 0 then
    let id := r.1.bits 0 16
    let sub := r.2.1.toNat
    match paramRow id with
    | none => false
    | some row =>
      row.acc != .ro && (if indexedUnit (id / 256) then subOk id sub else sub == 0) && valueOk id sub r.2.2 &&
        s.crossOk (s.viewAt sets 0) 0 id sub
  else
    let mode := (s.viewAt sets 0) ((0x10 + r.1.bits 0 3) * 256 + 0x0B) 0
    kind == 1 && r.1.bits 4 12 == 0 && r.2.2.bits 18 14 == 0 && r.2.1.toNat ≤ (if mode = 1 then 31 else 63)

/-- The plan of a plan member: identifier, items, carried period (R698); none where a word is malformed. -/
def planOf (ws : List Word) : Option (Plan × Nat) :=
  match ws with
  | id :: cnt :: per :: t =>
    let items := (recordsOf t).map fun r => itemOfWords r.1 r.2.1 r.2.2
    if cnt.toNat ≤ 64 ∧ t.length = 3 * cnt.toNat ∧ items.all (fun i => i.2.all (! ·)) then
      some ({ id := id, items := items.map Prod.fst }, per.toNat)
    else none
  | _ => none

/-- The state with the regions configured as a slot's members would (R124): what check 6 judges windows, pins and strobe
durations by (R137). -/
def State.withSetRegions (s : State) (slot : Nat) : State :=
  s.each (List.range 8) fun s r =>
    let cfg := if (manMember (s.slotManifest slot) (3 + r)).length = 0 then none
      else some (imgCfg (s.memberBytes slot (3 + r)))
    s.setRegion r { active := cfg }

/-- Check 6 of Table BOOT-5 on a slot whose members have matched their hashes. -/
def State.setLoads (s : State) (slot : Nat) : Bool :=
  let z := s.withSetRegions slot
  let man := s.slotManifest slot
  let ana := s.memberBytes slot 1
  let ws := wordsOfBytes ana
  let sets := s.setSettings ws
  let v := s.viewAt sets 0
  let regions := (List.range 8).map fun r => (manMember man (3 + r), s.memberBytes slot (3 + r))
  let bodies := (regions.filter fun p => p.1.length != 0).map fun p => Config.regionBody (imgBody p.2)
  let keyOk := fun k => (manKey man k).all (· == 0) || (s.keyUsable k && s.keyMatches (manKey man k) k)
  (manMember man 0).length != 0 && (manMember man 0).length ≤ 0x100000 && keyOk 0 && keyOk 1 &&
    ana.length % 4 == 0 && 3 ≤ ws.length && ws.length == 3 + 3 * (ws.getD 2 0).toNat &&
    (poweredUnits (ws.getD 0 0) (ws.getD 1 0)).all isUnit && (recordsOf (ws.drop 3)).all (z.recordOk sets) &&
    ((List.range 8).all fun r =>
      let p := regions.getD r (manMember [] 0, [])
      p.1.length == 0 ||
        (imgHeaderOk p.2 && imgHashOk p.2 && (field p.2 0x10 1).testBit r && imgIlev p.2 == p.1.ilev &&
          field p.2 0x12 2 ≤ (manMember man 0).ilev && field p.2 0x11 1 ≤ Config.stepping)) &&
    bodies.all (fun b => !claimsSource v b && pathsOk v b) &&
    ((List.range bodies.length).all fun i => (List.range i).all fun j =>
      match bodies[i]?, bodies[j]? with
      | some a, some b => !bodiesClash a b
      | _, _ => true) &&
    match planOf (wordsOfBytes (s.memberBytes slot 2)) with
    | none => false
    | some (p, per) =>
      800 ≤ per && per ≤ 6553600 && z.planFits { v := v, bod := z.body, dma := dmaItemOk v, period := per } p && 4 * (v 0x0202 0).toNat ≤ per &&
        (v 0x0207 0 != 1 || 20000 ≤ per)

end Sys2Proof.Machine
end

