-- ==== Sys2Proof/Machine/Fabric.lean ====
section
/-! DEFINITION. The logic fabric's regions, strobes, ports and configuration (chapter 13) and region loading (R710 to
R713): FABRIC_STROBE, FABRIC_STROBE_DONE, REGION_FREEZE_END, REGION_LOAD_STEP, FAB_SCRUB_FIX, FAB_CONFIG_UPSET,
FAB_EXT_CLOCK_LOST, FAB_PORT_INPUT_WORD and FABRIC_SRAM_REQUEST. -/

namespace Sys2Proof.Machine

/-- A strobe is to be pulsed at the next edge of the strobe clock, and its done line is awaited (R632). The done line counts as low again (log 19). -/
def State.pulseStrobe (s : State) (r k : Nat) : State :=
  let g := s.regionOf r
  s.setRegion r { g with strobes := g.strobes.setBit k true, pdone := g.pdone.setBit k false,
                         pulse := g.pulse.setBit k true }

/-- FABRIC_STROBE (R632, R61, R38): the item pulses its strobe and awaits its done line. -/
def execFabricStrobe (i : Fin 64) (s : State) : Host.Outcome State Fault Refusal :=
  .next (match s.startItem i.val 6 with
    | (s1, none) => s1
    | (s1, some it) => s1.pulseStrobe (it.unit - 0x20) (it.arg % 8))

/-- FABRIC_STROBE_DONE (R632, R642): a rising edge of a done line finishes the item that awaits it, but for one that comes
before the strobe's own edge; in a freeze it is not seen. -/
def execFabricStrobeDone (r : Fin 8) (strobe : Fin 8) (s : State) : Host.Outcome State Fault Refusal :=
  let g := s.regionOf r.val
  .next (if !s.isActive (0x20 + r.val) then s
    else
      let seen := g.strobes.bit strobe.val && !g.pulse.bit strobe.val
      let s1 := s.setRegion r.val { g with strobes := if seen then g.strobes.setBit strobe.val false else g.strobes,
                                           pdone := g.pdone.setBit strobe.val true }
      if !seen then s1
      else match s1.tick.items.find? fun q =>
          q.item.unit == 0x20 + r.val && q.item.action == 6 && q.item.arg % 8 == strobe.val with
        | none => s1
        | some q => s1.finishItem q.idx)

/-- The plan items that waited for the end of a region's freeze start, or are skipped where it does not run (R61, R642,
R38). -/
def State.startWaiting (s : State) (r : Nat) : State :=
  let u := 0x20 + r
  let mine := s.tick.skip.filterMap fun i => (s.tick.plan.bind fun p => p.items[i]?).bind fun it =>
    if it.unit = u then some (i, it) else none
  let s1 : State := { s with tick := { s.tick with skip := s.tick.skip.filter fun i => !mine.any fun p => p.1 == i } }
  s1.each mine fun s p =>
    if s.isRunning u then
      let s2 : State := { s with tick := { s.tick with items := s.tick.items ++ [{ idx := p.1, item := p.2 }] } }
      s2.pulseStrobe r (p.2.arg % 8)
    else s.bump 0x0108

/-- REGION_FREEZE_END (R624, R713, R299, R61, R370, R641, R644, R648): the shadow is the active configuration, the region
returns to RUNNING or READY, or goes to DRAINING or FAULT where that was asked for or found in the freeze, and plan
items that waited start. -/
def execRegionFreezeEnd (r : Fin 8) (s : State) : Host.Outcome State Fault Refusal :=
  let u := 0x20 + r.val
  let g := s.regionOf r.val
  .next (if (s.unit u).st != .reloading then s
    else
      let old := match g.active with
        | some c => c.ilev
        | none => 0
      let cfg := g.shadow.or g.active
      let s1 := (s.setRegion r.val { g with active := cfg, shadow := none, complete := false, invalid := false,
                                            upset := false, afterFrz := none, strobes := 0, pdone := 0,
                                            held := [], shown := [], gate := [], pulse := 0, pstb := 0,
                                            thawed := s.now }).fabricInit r.val
      let s2 := match g.afterFrz with
        | none => s1.goState u (if g.wasRun then .running else .ready) 3
        | some off =>
          let z := s1.goState u .draining (if off then 2 else 1)
          z.setUnit u { z.unit u with next := some (if off then .off else .waking, if off then 2 else 1),
                                      restart := !off }
      let s3 := s2.emit u evImgRegionSwapped ((match cfg with
        | some c => c.ilev
        | none => 0) + old * 65536)
      let s4 := match s3.findJob fun j => match j with
          | .regionSwap q _ => q == r.val
          | _ => false with
        | none => s3
        | some j => s3.endJob j.num stDone j.kind.words
      let s5 := if g.upset then s4.forceFault u else s4
      (s5.startWaiting r.val).refreshHold false)

/-- REGION_LOAD_STEP (R711, R298, R627, R634, R636, R712, R723, R701): a step copies up to 4 KiB of the image; after the
last one the image is checked, and the shadow is complete or the job ends with the reason. -/
def execRegionLoadStep (r : Fin 8) (s : State) : Host.Outcome State Fault Refusal :=
  let u := 0x20 + r.val
  .next (match s.findJob fun j => match j with
      | .regionLoad q .. => q == r.val
      | _ => false with
    | none => s
    | some j => match j.kind with
      | .regionLoad q staging done total =>
        let st := (s.unit u).st
        let img := s.loadImage r.val staging
        if !(st == .running || st == .ready || st == .reloading) then s
        else if done + 4096 < img.length then s.setJob j.num (.regionLoad q staging (done + 4096) total)
        else
          let out := s.loadOutcome r.val staging img
          let g := s.regionOf r.val
          if out.1 = stDone then
            let s1 := s.setRegion r.val { g with loading := false, complete := true, shadow := some (imgCfg img) }
            let s2 := if out.2 then s1.emit u evImgUnlisted (imgIlev img) else s1
            s2.endJob j.num stDone []
          else
            ((s.setRegion r.val { g with loading := false }).emit u evImgRefused
              (out.1 + (if imgHeaderOk img then imgIlev img else 0) * 256)).endJob j.num out.1 []
      | _ => s)

/-- FAB_SCRUB_FIX (R626, R648): the scrubber has corrected a single-bit upset; during a freeze it waits for its end. -/
def execFabScrubFix (r : Fin 8) (cluster : Fin 128) (s : State) : Host.Outcome State Fault Refusal :=
  let u := 0x20 + r.val
  .next (if (s.unit u).st = .reloading then s else (s.bump (u * 256 + 10)).emit u evFabScrubFix cluster.val)

/-- FAB_CONFIG_UPSET (R626, R648): a multi-bit upset forces a region that is not OFF to FAULT, at the end of the freeze
where one is in progress, and marks an OFF region's configuration invalid. -/
def execFabConfigUpset (r : Fin 8) (cluster : Fin 128) (s : State) : Host.Outcome State Fault Refusal :=
  let u := 0x20 + r.val
  let x := s.unit u
  let g := s.regionOf r.val
  let s1 := s.emit u evFabConfigUpset cluster.val
  .next (if x.st = .off then s1.setRegion r.val { g with invalid := true }
    else if x.st = .reloading then s1.setRegion r.val { g with upset := true }
    else if x.st = .fault ∨ x.skewed then s1 else s1.forceFault u)

/-- FAB_EXT_CLOCK_LOST (R618): a pin-sourced line that runs has shown no rising edge for 256 cycles. -/
def execFabExtClockLost (line : Fin 6) (s : State) : Host.Outcome State Fault Refusal :=
  let k := line.val
  .next (if !s.isActive 0x28 || !s.regBit 0x2810 0 k || s.reg (0x2808 + k) == 0 then s
    else (s.setRegBit 0x2812 0 k true).emit 0x28 evFabExtClockLost k)

/-- The number of an input port as FAB_SYNC_DROP numbers them; none beyond the instances of its kind (Table FAB-6). -/
def streamPort (k : StreamPort) (n : Nat) : Option Nat :=
  if n < k.count then some (n + match k with
    | .seq => 0
    | .filt => 2
    | .uart => 10) else none

/-- The oldest word on its way to a region's synchroniser of an input port. -/
def State.nextWord (s : State) (r : Nat) (k : StreamPort) (n : Nat) : Option StreamWord :=
  (s.regionOf r).inbox.find? fun x => streamPort k n == some x.port

/-- FAB_PORT_INPUT_WORD (R627, R628, R646, R350, R351): after `dt` cycles the oldest word on its way to the region's
synchroniser of an input port arrives: it waits to be presented at the next edge of the region's line, or is dropped while the
one before still waits. A region that is not RUNNING is an absent sink; a word with a stale tag is discarded. -/
def execFabPortInputWord (r : Fin 8) (kind : StreamPort) (n : Fin 8) (dt : Nat) (s : State) :
    Host.Outcome State Fault Refusal :=
  let u := 0x20 + r.val
  let s0 := s.elapse dt
  let g := s0.regionOf r.val
  .next (match s0.nextWord r.val kind n.val with
    | none => s0
    | some x =>
      let s1 := s0.setRegion r.val { g with inbox := g.inbox.erase x }
      if !s1.isRunning u then s1.absentDrop x.prod
      else if s1.staleTags x.tags then s1.discard u
      else if (lookup none g.held x.port).isNone then
        s1.setRegion r.val { s1.regionOf r.val with held := insert none g.held x.port (some x.word) }
      else
        let s2 := s1.bump (u * 256 + 11)
        if g.dropTick then s2
        else (s2.setRegion r.val { s2.regionOf r.val with dropTick := true }).emit u evFabSyncDrop x.port)

/-- The class that a region's image declares for an SRAM port (R730). -/
def State.sramClass (s : State) (r port : Nat) : Nat := match s.body r with
  | none => 3
  | some b => (b.sramCls.find? fun p => p.1 == port).elim 3 fun p => p.2

/-- Ring writes that wait for a bank and go before a request of a class are made first (R44, R731); in the C slot a class C
request goes first. They meet no uncorrectable word. -/
def State.ringsBefore (bank cls : Nat) : Nat → State → State
  | 0, s => s
  | n + 1, s =>
    if cls = 3 ∧ s.now % 16 = 15 then s
    else match nextRing (s.mem.rings.filter fun x => !(s.reg (ringId x.ring 0x58)).bit 5 &&
        bankOf (s.ringAddr x.ring) == bank && decide (x.cls ≤ cls)) with
      | none => s
      | some x => State.ringsBefore bank cls n (s.ringStep x false)

/-- A reply leaves an SRAM bank for a fabric port and arrives `lat` cycles later. -/
def State.launchReply (s : State) (f : Flight) : State :=
  { s with mem := { s.mem with flight := s.mem.flight ++ [f] } }

/-- FABRIC_SRAM_REQUEST (R630, R338, R346, R629, R731 to R736): a request inside the port's window reads or writes one 64-bit
word when its bank grants it; one outside it returns ERR and writes nothing. The reply arrives `answer.lat` cycles later with the
tags of the region and of SRAM. A poisoned word reads with ERR until a full write replaces it; data read with an
uncorrectable error are free values (log 3). -/
def execFabricSramRequest (port : Fin 8) (addr : Word) (wr : Option (BitVec 64)) (answer : BankAnswer) (s : State) :
    Host.Outcome State Fault Refusal :=
  let a := addr.toNat % 0x800000 / 8 * 8
  let p := port.val
  .next (match s.portOwner (16 + p) with
    | none => s
    | some r =>
      let wins := match s.body r with
        | none => []
        | some b => b.windows
      let cls := s.sramClass r p
      if !s.isRunning 0x3C then
        (match wr with
          | none => s
          | some _ => s.absentDrop (0x20 + r)).gone 0x3C
      else
        let reply := fun (z : State) err data => z.launchReply
          { port := p, region := r, due := z.now + answer.lat, tags := [z.tagNow (0x20 + r), z.tagNow 0x3C], err := err, data := data }
        if !wins.any fun w => w.1 == p && w.2.1 ≤ a && a + 8 ≤ w.2.1 + w.2.2 then
          let z := s.landReplies (s.now + 1)
          reply z true (lookup (false, 0) z.mem.replies p).2
        else
          let z := ((State.ringsBefore (bankOf a) cls s.mem.rings.length s).grant (bankOf a) cls false)
          match wr with
          | some d =>
            ((z.setSramWord a (d.setWidth 32)).setSramWord (a + 4) ((d >>> 32).setWidth 32)).unpoison (a / 8)
          | none =>
            let z0 := z.landReplies (z.now + 1)
            let r := z0.readSram a 2 answer.ecc
            reply r.1 (!(z0.uncorrWords a 2 answer.ecc).isEmpty) ((r.2.getD 1 0).setWidth 64 <<< 32 ||| (r.2.getD 0 0).setWidth 64))

end Sys2Proof.Machine
end

