-- ==== Sys2Proof/Machine/Mem.lean ====
section
/-! DEFINITION. On-chip memory, Geyser queues, DMA and the external ports (chapter 16): DMA_BURST, DMA_BURST_COMPLETE,
DMA_AUTO_BURST, DMA_STREAM_WORD, GEYSER_DRAIN, GEYSER_BACKGROUND_DRAIN, DRAIN_COMPLETE, SRAM_SCRUB_STEP,
SRAM_ECC_UNCORR and XSPI_PATTERN. -/

namespace Sys2Proof.Machine

/-! ### DMA -/

/-- An image job holds XSPI0 (R761); a marker write is whole within IMAGE_ACTIVATE. -/
def State.flashBusy (s : State) : Bool :=
  s.jobs.running.any fun j => match j.kind with
    | .imageOpen .. | .imageWrite .. | .imageVerify _ => true
    | _ => false

/-- The STATUS with which the descriptor at TAIL ends at once, 0 where it runs (R761, R764; log 21 for a LENGTH of 0
and the reserved SRC_SPACE). -/
def State.descStatus (s : State) (n : Nat) : Nat :=
  let cfg := s.dmaCfg n
  let src := (s.descWord n 0).toNat
  let dst := (s.descWord n 1).toNat
  let len := s.descLength n
  let sp := s.descSpace n
  let toX := s.dmaToX n
  if src % 4 ≠ 0 ∨ (!cfg.bit 9 ∧ dst % 4 ≠ 0) ∨ len % 4 ≠ 0 ∨ len = 0 ∨ sp = 3 ∨ s.spaceSize sp < src + len ∨
      (!cfg.bit 9 ∧ s.spaceSize (if toX then 1 else 0) < dst + len) ∨ (cfg.bit 9 ∧ 2 ^ cfg.bits 10 5 < len) then 3
  else if cfg.bits 1 2 = 3 ∧ s.period - 128 < s.dmaNominal (fun a b => s.reg a b) n then 5
  else if (sp = 2 ∧ s.flashBusy) ∨ !s.isRunning (spaceUnit sp) ∨ !s.isRunning (if toX then 0x3B else 0x3C) then 4
  else 0

/-- The descriptor at TAIL ends: its STATUS is written and TAIL advances (R759). -/
def State.endDesc (s : State) (n status : Nat) : State :=
  let s1 := s.setSramByte (s.descAddr (fun a b => s.reg a b) n + 12) (BitVec.ofNat 8 status)
  let tail := (s.regN (0x3860 + n) + 1) % 2 ^ (s.dmaCfg n).bits 5 4
  let s2 := s1.setReg (0x3860 + n) 0 (Word.of tail)
  if 2 < status then s2.emit 0x38 evDmaDescErr (n + status * 256) else s2

/-- The units at the ends of a channel's burst that do not run answer UNIT_GONE; a destination that does not is an absent sink
(R338, R764). -/
def State.dmaAbsent (s : State) (n : Nat) : State :=
  let dst := if s.dmaToX n then 0x3B else 0x3C
  let src := spaceUnit (s.descSpace n)
  let s1 := if s.isRunning dst then s else (s.absentDrop 0x38).gone dst
  if src = dst ∨ s.isRunning src then s1 else s1.gone src

/-- A channel starts its next burst, or its descriptor ends at once; the flag says whether a burst runs. -/
def State.startBurst (s : State) (n : Nat) (item : Option Nat) : State × Bool :=
  if !s.isRunning 0x3C then (s.gone 0x3C, false)
  else
    let st := s.descStatus n
    if st ≠ 0 then ((if st = 4 then s.dmaAbsent n else s).endDesc n st, false) else (s.moveBurst n item, true)

/-- DMA_BURST (R759 to R761, R38, R764): the item runs the descriptor at TAIL; without one, or with a faulty one, it
finishes at its start. -/
def execDmaBurst (i : Fin 64) (s : State) : Host.Outcome State Fault Refusal :=
  .next (match s.startItem i.val 2 with
    | (s1, none) => s1
    | (s1, some it) =>
      let n := it.arg % 32
      if s1.dmaPending (fun a b => s1.reg a b) n = 0 ∨ (s1.dmaOf n).burst.isSome then s1.finishItem i.val
      else
        let r := s1.startBurst n (some i.val)
        if r.2 then r.1 else r.1.finishItem i.val)

/-- DMA_AUTO_BURST (R759, R761, R765): an AUTO channel of class C starts a pending descriptor as a background step. -/
def execDmaAutoBurst (ch : Fin 24) (s : State) : Host.Outcome State Fault Refusal :=
  let n := ch.val
  let cfg := s.dmaCfg n
  .next (if !s.isRunning 0x38 || s.dozeTick || !cfg.bit 0 || !cfg.bit 3 || cfg.bits 1 2 != 3 ||
      s.dmaPending (fun a b => s.reg a b) n == 0 || (s.dmaOf n).burst.isSome then s
    else (s.startBurst n none).1)

/-- DRING_WR advances by a number of bytes; when it reaches or passes DRING_MARK the mark is recorded (R759, R763,
log 22). -/
def State.advanceDring (s : State) (n bytes : Nat) : State :=
  let cfg := s.dmaCfg n
  let size := 2 ^ cfg.bits 10 5
  let old := s.regN (0x38A0 + n)
  let gap := (s.regN (0x38C0 + n) % size + size - old % size) % size
  let s1 := s.setReg (0x38A0 + n) 0 (Word.of ((old + bytes) % size))
  if (if gap = 0 then size else gap) ≤ bytes then
    let s2 := s1.setRegBit 0x38E0 0 n true
    if cfg.bit 16 then s2.emit 0x38 evDmaMark n else s2
  else s1

/-- DMA_BURST_COMPLETE (R44, R45, R749, R750, R754, R759, R763, R734, R735, R752, R764): the burst finishes when the lanes and
ports have moved it, if that is within the tick: its words stand at its destination, STATUS is written, and TAIL and DRING_WR
advance. Words read with an error are free values (log 3); a reply with a stale tag is one of a unit that is gone (R350). -/
def execDmaBurstComplete (ch : Fin 24) (ecc : Ecc) (s : State) : Host.Outcome State Fault Refusal :=
  let n := ch.val
  .next (match (s.dmaOf n).burst with
    | none => s
    | some item =>
      let fin := fun (z : State) => match item with
        | none => z
        | some i => z.finishItem i
      if s.tickEnd < (s.moverEnd n).1 then s
      else
      let z := s.endMover n
      let s0 := z.setDma n { z.dmaOf n with burst := none, tags := [] }
      if !s0.isActive 0x38 || !s0.isRunning 0x3C then fin s0
      else if s0.staleTags (s.dmaOf n).tags then fin ((s0.discard 0x38).endDesc n 4)
      else if !s0.isRunning (if s0.dmaToX n then 0x3B else 0x3C) then fin ((s0.dmaAbsent n).endDesc n 4)
      else
        let len := s0.descLength n
        let sp := s0.descSpace n
        let src := (s0.descWord n 0).toNat
        let bad := sp == 0 && !(s0.uncorrWords src (len / 4) ecc).isEmpty
        let strobe := sp != 0 && ecc == .strobe
        let tag := (s0.descWord n 3).toNat / 256 * 256
        let r := if sp = 0 then s0.readSram src (len / 4) ecc
          else if strobe then (((s0.bump (spaceUnit sp * 256 + 8)).emit (spaceUnit sp) evXspiStrobe 0).useFree (len / 4),
            s0.freeWords (len / 4))
          else (s0, s0.burstWords n (len / 4))
        let s2 := r.1.writeBurst n r.2
        let s3 := if sp = 1 then s2.countBytes true len else if sp = 2 then s2.countBytes false len else s2
        let s4 := if s0.dmaToX n then s3.countBytes true len else s3
        let s5 := s4.endDesc n (if bad then 2 else 1)
        let s6 := if (s5.dmaCfg n).bit 9 then s5.advanceDring n len else s5
        fin (if (s6.dmaCfg n).bit 16 then s6.emit 0x38 evDmaDone (n + tag) else s6))

/-- One word of a stream channel is written at DRING_WR. -/
def State.writeStream (s : State) (n : Nat) (w : Word) : State :=
  let toX := (s.dmaCfg n).bit 15
  let s1 := s.spaceWrite toX (s.regN (0x3880 + n) + s.regN (0x38A0 + n)) w
  (if toX then s1.countBytes true 4 else s1).advanceDring n 4

/-- A stream channel's words for XSPI1 wait: a transaction is in progress there, or movers of a class before theirs, or their
own words before, wait for one (R44, R750). -/
def State.streamWaits (s : State) (n : Nat) : Bool :=
  let cfg := s.dmaCfg n
  let b := s.busNow
  cfg.bit 15 && ((b.busy.any fun p => p.1 == 1) ||
    b.movers.any fun m => m.at_ 1 && (decide (m.cls < cfg.bits 1 2) || m.who == 41 + n))

/-- Words of a stream channel are written, those for XSPI1 as one transfer. -/
def State.putStream (s : State) (n : Nat) (ws : List Word) : State :=
  let cfg := s.dmaCfg n
  let s1 := if cfg.bit 15 then s.addMover
      { who := 41 + n, cls := cfg.bits 1 2, lane := false
        legs := [{ port := 1, addr := s.regN (0x3880 + n) + s.regN (0x38A0 + n), rem := 4 * ws.length
                   unit := s.xferUnit (some (2 ^ cfg.bits 10 5)) }] }
    else s
  s1.each ws fun s w => s.writeStream n w

/-- The words that wait in a stream channel's input buffer are written as soon as the port is free. -/
def State.flushStream (s : State) (n : Nat) : State :=
  let x := s.dmaOf n
  if x.stream.isEmpty || !s.isActive 0x38 || !s.isRunning (if (s.dmaCfg n).bit 15 then 0x3B else 0x3C) || s.streamWaits n
  then s else (s.setDma n { x with stream := [] }).putStream n x.stream

/-- DMA_STREAM_WORD (R762 to R764, R629, R338): a word of the fabric port is written at DRING_WR; while the lane (`busy`) or
XSPI1 is busy it waits in the input buffer, and it is dropped when that is full. -/
def execDmaStreamWord (ch : Fin 4) (w : Word) (busy : Bool) (s : State) : Host.Outcome State Fault Refusal :=
  let n := ch.val
  let x := s.dmaOf n
  let cfg := s.dmaCfg n
  .next (match s.portOwner (12 + n) with
    | none => s
    | some r =>
      if !s.isRunning 0x38 then s.absentDrop (0x20 + r)
      else if !cfg.bit 0 || !cfg.bit 4 then s.absentDrop (0x20 + r)
      else if !s.isRunning (if cfg.bit 15 then 0x3B else 0x3C) then
        (s.absentDrop 0x38).gone (if cfg.bit 15 then 0x3B else 0x3C)
      else
        let full : Bool := decide (64 ≤ x.stream.length)
        if busy || s.streamWaits n then
          (if full then s.bump 0x38E1 else s.setDma n { x with stream := x.stream ++ [w] })
        else ((if full then s.bump 0x38E1 else s).setDma n { x with stream := [] }).putStream n
          (if full then x.stream else x.stream ++ [w]))

/-! ### Geyser -/

/-- Words that the next burst of a queue moves (R743). -/
def State.drainSize (s : State) (q : Nat) : Nat := min (s.queue q).words.length (s.regN 0x3980 / 4)

/-- GEYSER_DRAIN (R743, R744, R746, R38): the item starts one burst of its queue; with XSPI1 not RUNNING, or with nothing
to move, it finishes at its start. -/
def execGeyserDrain (i : Fin 64) (s : State) : Host.Outcome State Fault Refusal :=
  .next (match s.startItem i.val 7 with
    | (s1, none) => s1
    | (s1, some it) =>
      let q := it.arg % 16
      let x := s1.queue q
      if !s1.isRunning 0x3B || s1.drainSize q == 0 || x.burst.isSome then s1.finishItem i.val
      else s1.moveDrain q 2 (s1.drainSize q) (some i.val))

/-- GEYSER_BACKGROUND_DRAIN (R744, R746, R765): a queue whose level has reached DRAIN_MIN starts a burst. -/
def execGeyserBackgroundDrain (qi : Fin 16) (s : State) : Host.Outcome State Fault Refusal :=
  let q := qi.val
  let x := s.queue q
  .next (if !s.isRunning 0x39 || !s.isRunning 0x3B || s.dozeTick || !s.regBit 0x3982 0 0 ||
      4 * x.words.length < s.regN 0x3981 || x.burst.isSome then s
    else s.moveDrain q 3 (s.drainSize q) none)

/-- DRAIN_COMPLETE (R44, R45, R743, R537, R749, R750, R536): the burst finishes when XSPI1 has served its transactions, if that
is within the tick: its words stand in XSPI1; the ring's WR and the queue's read index advance together. -/
def execDrainComplete (qi : Fin 16) (s : State) : Host.Outcome State Fault Refusal :=
  let q := qi.val
  let x := s.queue q
  .next (match x.burst with
    | none => s
    | some (k, item) =>
      let fin := fun (z : State) => match item with
        | none => z
        | some i => z.finishItem i
      if s.tickEnd < (s.moverEnd (24 + q)).1 then s
      else
      let s0 := (s.endMover (24 + q)).setQueue q { x with burst := none, tags := [] }
      if !s0.isActive 0x39 || !s0.isRunning 0x3B then fin s0
      else if s0.staleTags x.tags then fin (s0.discard 0x39)
      else
        let ws := x.words.take k
        let s1 := ((s0.writeDrain ws).setQueue q { x with words := x.words.drop k, burst := none, tags := [] }).countBytes true
          (4 * ws.length)
        fin (s1.each ws fun s p => (s.advanceWr p.1).refreshThresh p.1))

/-! ### SRAM and XSPI1 -/

/-- The C slot of the scrubber's next step (R731, R737): it reads one word of every bank in one C slot, so the 32 steps for
one place in the banks share a slot. -/
def State.scrubSlot (s : State) : Nat :=
  if s.mem.scrubAt % 32 ≠ 0 ∧ s.mem.scrubT = s.now + 1 then s.now
  else firstCycle (fun t => t % 16 == 15) 16 (max s.now s.mem.scrubT)

/-- The 64-bit word that the scrubber reads next: the same place in every bank, then the next place. -/
def State.scrubWord (s : State) : Nat := s.mem.scrubAt % 32 * 32768 + s.mem.scrubAt / 32

/-- SRAM_SCRUB_STEP (R737, R734 to R736, R765): in a C slot the scrubber reads the next word and corrects a single-bit error; a
poisoned word reads as uncorrectable. -/
def execSramScrubStep (single : Bool) (s : State) : Host.Outcome State Fault Refusal :=
  .next (if !s.scrubs then s
    else
      let t := s.scrubSlot
      let s0 := s.reach t
      let s1 := if lookup false s0.mem.poison s0.scrubWord then s0.eccUncorr s0.scrubWord
        else if single then s0.bump 0x3C01 else s0
      if s1.mem.scrubAt + 1 < sramBytes / 8 then
        { s1 with mem := { s1.mem with scrubAt := s1.mem.scrubAt + 1, scrubT := t + 1 } }
      else ({ s1 with mem := { s1.mem with scrubAt := 0, scrubT := t + 1 } } : State).bump 0x3C05)

/-- SRAM_ECC_UNCORR (R735): an uncorrectable read of a requester that no other command carries (a drain, a descriptor, a queue,
the scrubber, Knatar) is counted, its address stored, and the event logged. -/
def execSramEccUncorr (addr : Word) (s : State) : Host.Outcome State Fault Refusal :=
  .next (if !s.isRunning 0x3C then s else s.eccUncorr (addr.toNat % 2 ^ 23 / 8))

/-- A pattern check is due: CHECK_TICKS ticks have begun since the last one (R751). -/
def State.patternDue (s : State) : Bool := match s.mem.checked with
  | none => true
  | some c => decide (s.regN 0x3B07 ≤ (s.tick.count - c).toNat)

/-- XSPI_PATTERN (R751, R765, R44, R45): every CHECK_TICKS ticks the pattern check writes and reads back 64 bytes, as class C
work that XSPI1 serves within the tick. -/
def execXspiPattern (ok : Bool) (s : State) : Host.Outcome State Fault Refusal :=
  let s1 := s.addMover { who := 40, cls := 3, lane := false
                         legs := [{ port := 1, addr := s.psramBytes, rem := 128, unit := 64 }] }
  .next (if !s.isRunning 0x3B || s.reg 0x3B07 == 0 || s.dozeTick || !s.patternDue || s1.tickEnd < (s1.moverEnd 40).1 then s
    else
      let s2 := s1.endMover 40
      let s3 : State := { s2 with mem := { s2.mem with checked := some s2.tick.count } }
      let s4 := s3.countBytes true 128
      if ok then s4 else (s4.bump 0x3B09).emit 0x3B evXspiPattern 0)

end Sys2Proof.Machine
end

