-- ==== Sys2Proof/Machine/Cecor.lean ====
section
/-! DEFINITION. The Cecor transports (chapter 5): which are served, errors and replies, and the commands
SPI_FRAME_START, SPI_FIRST_BYTE, SPI_FRAME_END, GAP_TIMEOUT and TRANSPORT_REPLY_SEND. -/

namespace Sys2Proof.Machine

/-- A transport error is counted and kept in HOST.LAST_EVENT: 1 abort, 2 CRC, 3 frame, 4 duplicate, 5 overrun, 6 gap
(R232, R269). -/
def State.transportError (s : State) (n kind : Nat) (seq : Byte) : State :=
  (s.bump (0x3D01 + kind)).setReg 0x3D0C 0 (Word.of (n + kind * 16 + seq.toNat * 256))

/-- An error reply is on its way (R230): each of them becomes ready by itself, whatever others are in preparation. -/
def State.errReply (s : State) (n : Nat) (r : Reply) : State :=
  s.setTr n { s.trOf n with errs := (s.trOf n).errs ++ [r] }

/-- A FRAME_BAD reply with LEN 0, counted (R243, R255). -/
def State.frameBad (s : State) (n : Nat) (seq : Byte) : State :=
  (s.transportError n 3 seq).errReply n { seq := seq, status := stFrameBad, op := 0, words := [] }

/-- What the reply buffer of the SPI port holds (R244, R245). -/
def State.replyBuffer (s : State) : Option Reply :=
  let t := s.trOf 0
  match t.up with
  | some e => some e
  | none => if t.exec.isSome then none else t.stored

/-- The bytes of a reply (Table CMD-2, R222, R225). -/
def Reply.bytes (r : Reply) : List Byte :=
  let body := [r.seq, BitVec.ofNat 8 r.status, BitVec.ofNat 8 r.words.length] ++ r.words.flatMap Word.bytes
  (0x5C : Byte) :: body ++ (crc32c body).bytes

/-! ### HSDI and HSDO (R240, R246) -/

/-- The byte that eight samples of HSDI spell, the first the most significant bit: HSDI is sampled on rising edges of
HSCK (R240). -/
def byteOfBits (bits : List Bool) : Byte := BitVec.ofNat 8 ((bits.take 8).foldl (fun a b => 2 * a + b.toNat) 0)

/-- Byte `i` that HSDO sends in a frame: the reply's, and 0xFF beyond it and where the buffer was empty (R246). -/
def SpiSt.byte (p : SpiSt) (i : Nat) : Byte := match p.hsdo with
  | none => 0xFF
  | some r => (r.bytes[i]?).getD 0xFF

/-- The level of HSDO after so many falling edges of HSCK that follow a rising edge, most significant bit first from the
falling edge of HCS_N on; none, high impedance, outside a frame (R240, R246). -/
def SpiSt.level (p : SpiSt) (falls : Nat) : Option Bool :=
  if p.open_ then some ((p.byte (falls / 8)).getLsbD (7 - falls % 8)) else none

/-- HSCK is faster than doze allows: more than a quarter of the reference while the clocks stand (R101). -/
def State.overclocked (s : State) : Bool := s.pwr.stopped && decide (1000 * s.refMhz < 4 * s.spi.hsck)

/-- SPI_FRAME_START (R240, R246 to R248, R267, R119): HCS_N falls: HSDO sends the reply buffer as it stands, and HIRQ_N is
released. -/
def execSpiFrameStart (s : State) : Host.Outcome State Fault Refusal :=
  .next { s with spi := {
    open_ := true, hsck := 0, kind := none, committed := false, errAt := (s.trOf 0).up.isSome
    hsdo := if s.served 0 then s.replyBuffer else none, hirqLow := false } }

/-- SPI_FIRST_BYTE (R101, R240, R241, R243, R264): the bits that HSDI has shown at the rising edges of HSCK, which runs at
`hsck` kHz, as the device samples them, up to the end of the second byte where that was completed. The first complete byte decides the kind of the frame; a bad
frame receives a FRAME_BAD reply with the second byte as SEQ. -/
def execSpiFirstByte (bits : List Bool) (hsck : Nat) (s : State) : Host.Outcome State Fault Refusal :=
  .next (if !s.spi.open_ || s.spi.kind.isSome || bits.length < 8 then s
    else
      let b := byteOfBits bits
      let k : FrameKind := if b = 0xC5 then .request else if b = 0x00 ∨ b = 0xFF then .read else .bad
      let s1 : State := { s with spi := { s.spi with kind := some k, hsck := hsck } }
      if k = .bad ∧ s1.served 0 then s1.frameBad 0 (if bits.length < 16 then 0 else byteOfBits (bits.drop 8)) else s1)

/-- SPI_FRAME_END (R227, R242, R245): HCS_N rises. A request that has not reached its commit point is discarded and
counted; an error reply that occupied the buffer at the start of a frame that is no read frame leaves it. -/
def execSpiFrameEnd (seq : Byte) (s : State) : Host.Outcome State Fault Refusal :=
  .next (if !s.spi.open_ then s
    else
      let s1 := if s.spi.kind = some .request ∧ !s.spi.committed ∧ s.served 0 then s.transportError 0 1 seq else s
      let s2 := if s.spi.errAt ∧ (s.spi.kind = some .request ∨ s.spi.kind = some .bad) then
          s1.setTr 0 { s1.trOf 0 with up := none }
        else s1
      { s2 with spi := { s2.spi with open_ := false, kind := none, committed := false, errAt := false } })

/-- A reply is ready on transport `n`: the SPI port pulls HIRQ_N low, a serial port has it to send (R248, R258). -/
def State.announce (s : State) (n : Nat) (r : Reply) : State :=
  if n = 0 then { s with spi := { s.spi with hirqLow := true } }
  else s.setTr n { s.trOf n with toSend := (s.trOf n).toSend ++ [r] }

/-- An error reply of transport `n` is ready: on the SPI port it occupies the buffer from now until the end of the next frame
that is no read frame (R230, R245). -/
def State.errorReady (s : State) (n : Nat) : State :=
  let t := s.trOf n
  match t.errs with
  | [] => s
  | e :: rest =>
    let s1 := s.setTr n { t with errs := rest, up := if n = 0 then some e else none }
    let s2 : State := if n = 0 then { s1 with spi := { s1.spi with errAt := false } } else s1
    s2.announce n e

/-! ### Receiving on a serial port (R253 to R259) -/

/-- The SEQ received so far in a partial request (R255). -/
def rxSeq (rx : List Byte) : Byte := rx.getD 1 0

/-- A serial receiver is inside a request: it has taken SYNC and not the last CRC byte (R253). -/
def rxPartial (rx : List Byte) : Bool :=
  !rx.isEmpty && !(decide (4 ≤ rx.length) && rx.length == 8 + 4 * (rx.getD 3 0).toNat)

/-- Bits of a character under a format: start bit, data, parity and stop bits (R254, R779). -/
def charBits (fmt : Word) : Nat :=
  1 + (if fmt.bit 0 then 7 else 8) + (if fmt.bits 1 2 = 0 then 0 else 1) + (if fmt.bit 3 then 2 else 1)

/-- The key of a channel's parameter. -/
def uartId (u i : Nat) : Nat := (0x30 + u) * 256 + i

/-- Frame mode (R806). -/
def State.linMode (s : State) (u : Nat) : Bool := s.regBit (uartId u 0x20) 0 0

/-- The format in force: in frame mode 8 data bits, no parity and 1 stop bit, whatever FORMAT holds apart from its decision
(R806). -/
def State.format (s : State) (u : Nat) : Word :=
  if s.linMode u then s.reg (uartId u 2) &&& 0x10 else s.reg (uartId u 2)

/-- Cycles that `k` character times take at a channel's current rate; DIV is in 1/16 of a cycle (R254, R777). -/
def State.charCycles (s : State) (u k : Nat) : Nat :=
  k * charBits (s.format u) * s.regN (uartId u 1) / 16

/-- The first instant at which the gap after the last byte is longer than HOST.UART_GAP character times. It is measured from
the byte's arrival to the next start bit (DEDUCED, log 64). -/
def State.gapEnd (s : State) (u : Nat) : Nat := (s.trOf (u + 1)).rxT + s.charCycles u (s.regN 0x3D01) + 1

/-- A partial request is discarded and counted, as an abort (1) or a gap (6) (R254, R256, R262). -/
def State.discardRx (s : State) (n kind : Nat) : State :=
  let t := s.trOf n
  let s1 := s.setTr n { t with rx := [] }
  if rxPartial t.rx then s1.transportError n kind (rxSeq t.rx) else s1

/-- A start bit meets a partial request whose gap is over (R254). -/
def State.gapCheck (s : State) (u : Nat) : State :=
  if rxPartial (s.trOf (u + 1)).rx && decide (s.gapEnd u ≤ s.now) then s.discardRx (u + 1) 6 else s

/-- GAP_TIMEOUT (R254, R265): the gap inside a request has become longer than HOST.UART_GAP character times: the request is
discarded without a reply. A character in progress has ended the gap. -/
def execGapTimeout (u : Fin 4) (s : State) : Host.Outcome State Fault Refusal :=
  .next (if !rxPartial (s.trOf (u.val + 1)).rx || (s.uartOf u.val).inChar then s
    else (s.reach (s.gapEnd u.val)).discardRx (u.val + 1) 6)

/-- TRANSPORT_REPLY_SEND (R258): a serial transport begins to send its next ready reply. -/
def execTransportReplySend (u : Fin 4) (s : State) : Host.Outcome State Fault Refusal :=
  let n := u.val + 1
  let t := s.trOf n
  .next (match t.toSend with
    | [] => s
    | r :: rest =>
      if !t.out.isEmpty || !s.isActive (0x30 + u.val) then s
      else s.setTr n { t with toSend := rest, out := r.bytes })

/-- A character arrives at a transport's receiver (R253, R255 to R257, R259): `bad` says FE or PE, `brk` a break. -/
def State.transportByte (s : State) (u : Nat) (b : Byte) (bad brk : Bool) : State :=
  let n := u + 1
  let t := s.trOf n
  if brk then (s.setTr n { t with out := [] }).discardRx n 1
  else if !rxPartial t.rx then
    if b = 0xC5 then s.setTr n { t with rx := [b], rxT := s.now } else (s.setTr n { t with rx := [] }).bump 0x3D08
  else if bad then (s.setTr n { t with rx := [] }).frameBad n (rxSeq t.rx)
  else s.setTr n { t with rx := t.rx ++ [b], rxT := s.now }

end Sys2Proof.Machine
end

