-- ==== Sys2Proof/Machine/Uart.lean ====
section
/-! DEFINITION. The four serial ports (chapter 17): receiver, transmitter, flow control, auto-baud, contention, frame
mode and the fabric's end of the queues. -/

namespace Sys2Proof.Machine

/-- Receive and transmit depths of a channel. -/
def State.depths (s : State) (u : Nat) : Nat × Nat := queueDepths (s.reg (uartId u 3))

/-! ### Levels and triggers (R794, R798) -/

/-- The receive level has gone from `old` to its present value. -/
def State.rxLevelled (s : State) (u old : Nat) : State :=
  let x := s.uartOf u
  let lvl := x.rxq.length
  let rt := (s.reg (uartId u 4)).bits 0 8
  let fc := s.reg (uartId u 6)
  let s1 := if old < rt ∧ rt ≤ lvl then
      let z := s.setRegBit (uartId u 0x0D) 0 6 true
      if z.regBit (uartId u 0x0E) 0 0 then z.emit (0x30 + u) evUartRxTrig lvl else z
    else s
  let sent := s1.regBit (uartId u 0x0D) 0 2
  if fc.bit 1 && old < fc.bits 8 8 && fc.bits 8 8 ≤ lvl && !sent && x.owed.isNone then
    s1.setUart u { x with owed := some ((s1.reg (uartId u 7)).setWidth 8) }
  else if fc.bit 1 && fc.bits 16 8 < old && lvl ≤ fc.bits 16 8 && sent && x.owed.isNone then
    s1.setUart u { x with owed := some ((s1.reg (uartId u 7) >>> 8).setWidth 8) }
  else s1

/-- The transmit level has gone from `old` to its present value. -/
def State.txLevelled (s : State) (u old : Nat) : State :=
  let lvl := (s.uartOf u).txq.length
  let tt := (s.reg (uartId u 4)).bits 8 8
  if tt < old ∧ lvl ≤ tt then
    let z := s.setRegBit (uartId u 0x0D) 0 7 true
    if z.regBit (uartId u 0x0E) 0 1 then z.emit (0x30 + u) evUartTxTrig lvl else z
  else s

/-- A byte leaves the transmit queue. -/
def State.popTx (s : State) (u : Nat) : State :=
  let x := s.uartOf u
  (s.setUart u { x with txq := x.txq.drop 1 }).txLevelled u x.txq.length

/-- The oldest receive entry leaves the queue. -/
def State.popRx (s : State) (u : Nat) : State :=
  let x := s.uartOf u
  (s.setUart u { x with rxq := x.rxq.drop 1 }).rxLevelled u x.rxq.length

/-! ### Receive entries (R784, R789, R790, R252) -/

/-- A receive entry from its data and tags. -/
def rxEntry (data : Byte) (fe pe nf brk : Bool) : BitVec 12 :=
  BitVec.ofNat 12 (data.toNat + fe.toNat * 256 + pe.toNat * 512 + nf.toNat * 1024 + brk.toNat * 2048)

/-- The counters of a stored entry. -/
def State.countEntry (s : State) (u : Nat) (e : BitVec 12) : State :=
  let c := fun (s : State) (b : Bool) (i : Nat) => if b then s.bump (uartId u i) else s
  c (c (c (c (s.bump (uartId u 0x10)) (e.getLsbD 8) 0x13) (e.getLsbD 9) 0x14) (e.getLsbD 10) 0x15)
    (e.getLsbD 11) 0x16

/-- An entry reaches the receive queue, or is dropped when that is full. -/
def State.storeEntry (s : State) (u : Nat) (e : BitVec 12) : State :=
  let x := s.uartOf u
  if (s.depths u).1 ≤ x.rxq.length then
    let s1 := s.bump (uartId u 0x12)
    if s1.regBit (uartId u 0x0D) 0 8 then s1
    else (s1.setRegBit (uartId u 0x0D) 0 8 true).emit (0x30 + u) evUartRxOverrun 0
  else ((s.setUart u { x with rxq := x.rxq ++ [e] }).countEntry u e).rxLevelled u x.rxq.length

/-- An entry reaches its consumer: on a transport channel Knatar takes it in the same cycle (R252). -/
def State.deliverEntry (s : State) (u : Nat) (e : BitVec 12) : State :=
  if s.isTransport u then
    (s.countEntry u e).transportByte u (e.setWidth 8) (e.getLsbD 8 || e.getLsbD 9) (e.getLsbD 11)
  else s.storeEntry u e

/-! ### Frame mode (R806 to R812) -/

/-- The parity bits of a protected identifier (R807). -/
def linPid (id : Nat) : Byte :=
  let b := fun i => id.testBit i
  let p0 := b 0 ^^ b 1 ^^ b 2 ^^ b 4
  let p1 := !(b 1 ^^ b 3 ^^ b 4 ^^ b 5)
  BitVec.ofNat 8 (id % 64 + p0.toNat * 64 + p1.toNat * 128)

/-- An 8-bit sum with each carry added back (R807). -/
def carrySum (bs : List Byte) : Nat :=
  bs.foldl (fun a b => if a + b.toNat < 256 then a + b.toNat else a + b.toNat - 255) 0

/-- Direction, length and kind of checksum of an identifier. -/
def State.linDir (s : State) (u id : Nat) : Nat := (s.reg (uartId u (0x40 + id % 64))).bits 0 2
def State.linLen (s : State) (u id : Nat) : Nat := (s.reg (uartId u (0x40 + id % 64))).bits 2 4
def State.linEnhanced (s : State) (u id : Nat) : Bool :=
  (s.reg (uartId u (0x40 + id % 64))).bit 6 && id != 0x3C && id != 0x3D

/-- The checksum of a frame's data bytes. -/
def State.linSum (s : State) (u id : Nat) (pid : Byte) (data : List Byte) : Byte :=
  ~~~(BitVec.ofNat 8 (carrySum (if s.linEnhanced u id then pid :: data else data)))

/-- A frame ends with an outcome of Table UART-2, 0 OK (R808). -/
def State.linEnd (s : State) (u outcome : Nat) : State :=
  let x := s.uartOf u
  let r := uartId u 0x22
  let s1 := (s.setUart u { x with lin := .hunt, linGot := [] }).setReg r 0 ((s.reg r).setBits 8 4 outcome)
  if outcome = 0 then s1
  else
    let s2 := s1.bump (uartId u 0x23)
    if s2.regBit (uartId u 0x0D) 0 9 then s2
    else (s2.setRegBit (uartId u 0x0D) 0 9 true).emit (0x30 + u) evUartLinErr
      ((s2.reg r).bits 0 6 + outcome * 256)

/-- A PID with correct parity, received or read back, starts what its identifier's direction says (R808, R809, R811). -/
def State.linStart (s : State) (u : Nat) (pid : Byte) (nf : Bool) : State :=
  let id := pid.toNat % 64
  let r := uartId u 0x22
  let s1 := (s.setUart u { s.uartOf u with linId := id, pid := pid, linGot := [] }).setReg r 0
    ((s.reg r).setBits 0 6 id)
  let go := fun (z : State) (p : LinPhase) => z.setUart u { z.uartOf u with lin := p }
  let dir := s1.linDir u id
  if dir = 1 then go (s1.storeEntry u (rxEntry pid false false nf true)) .subscribe
  else if dir = 2 then
    if (s1.uartOf u).txq.length < s1.linLen u id then s1.linEnd u 7 else go s1 .publish
  else go s1 .ignore

/-- A character of a frame arrives (Table UART-2, R806, R808 to R810). -/
def State.linChar (s : State) (u : Nat) (data : Byte) (fe nf : Bool) : State :=
  let x := s.uartOf u
  match x.lin with
  | .hunt => s.storeEntry u (rxEntry data fe false nf false)
  | .sync =>
    if s.regBit (uartId u 0x20) 0 2 then s
    else if data = 0x55 ∧ !fe then s.setUart u { x with lin := .pid } else s.linEnd u 1
  | .pid =>
    let id := data.toNat % 64
    let r := uartId u 0x22
    if data ≠ linPid id then
      ((s.storeEntry u (rxEntry data false true nf true)).setReg r 0 ((s.reg r).setBits 0 6 id)).linEnd u 2
    else if fe then (s.setReg r 0 ((s.reg r).setBits 0 6 id)).linEnd u 8
    else s.linStart u data nf
  | .subscribe =>
    if fe then s.linEnd u 8
    else if x.linGot.length < s.linLen u x.linId then
      (s.setUart u { x with linGot := x.linGot ++ [data] }).storeEntry u (rxEntry data false false nf false)
    else
      let ok := data == s.linSum u x.linId x.pid x.linGot
      (s.storeEntry u (rxEntry data false (!ok) nf false)).linEnd u (if ok then 0 else 3)
  | _ => s

/-! ### Sampling (R777, R778, R780, R785) -/

/-- The cycle of sample `j`, the nearest to its exact instant: samples are DIV / 256 cycles apart. -/
def UartSt.sampleAt (x : UartSt) (j : Nat) : Nat := (x.smp + j * x.divLive.toNat + 128) / 256

/-- The first sample at or after a cycle. -/
def UartSt.sampleFrom (x : UartSt) (c : Nat) : Nat :=
  (256 * c - 128 - x.smp + x.divLive.toNat - 1) / max 1 x.divLive.toNat

/-- The level of UnRX in a cycle. -/
def UartSt.lineAt (x : UartSt) (c : Nat) : Bool := x.high ^^ ((x.wave.filter fun t => decide (t ≤ c)).length % 2 == 1)

/-- Sample `j` as it reads. -/
def UartSt.sample (x : UartSt) (j : Nat) : Bool := x.lineAt (x.sampleAt j)

/-- Transitions of UnRX become known, `from_` + each of `edges`; those that do not come after the known ones are none. -/
def UartSt.see (x : UartSt) (from_ : Nat) (edges : List Nat) : UartSt :=
  edges.foldl (fun x e => if x.wave.all fun t => decide (t < from_ + e) then { x with wave := x.wave ++ [from_ + e] } else x) x

/-- The transitions up to a cycle are history. -/
def UartSt.forget (x : UartSt) (c : Nat) : UartSt :=
  { x with high := x.lineAt c, wave := x.wave.filter fun t => decide (c < t) }

/-- The hunt goes on with sample `j`; `seen` says that a sample before it counts as high. -/
def UartSt.huntFrom (x : UartSt) (j : Nat) (seen : Bool) : UartSt :=
  { x.forget (x.sampleAt j - 1) with inChar := false, smp := x.smp + j * x.divLive.toNat, seen := seen }

/-- A hunt begins anew in a cycle, with the line high before it. -/
def UartSt.freshHunt (x : UartSt) (c : Nat) : UartSt :=
  { x.forget c with inChar := false, smp := 256 * c, seen := true, highT := c }

/-- Sample 0 of a start bit: the first sample that reads low after one that reads high (R780). -/
def UartSt.startSample (x : UartSt) : Option Nat :=
  (0 :: x.wave.map x.sampleFrom).find? fun j => !x.sample j && (if j = 0 then x.seen else x.sample (j - 1))

/-- A received character as decided bit by bit (R781, R783): data bits, parity bit, first stop bit, and whether the three
samples of a bit have disagreed. -/
structure RxChar where
  data   : Byte
  parity : Bool
  stop   : Bool
  noise  : Bool
  deriving DecidableEq, Repr

/-- Bit `k` of a character as decided under a format: MAJ3 or CENTRE (R781). -/
def UartSt.bitOf (x : UartSt) (fmt : Word) (k : Nat) : Bool :=
  let a := x.sample (16 * k + 7)
  let b := x.sample (16 * k + 8)
  let c := x.sample (16 * k + 9)
  if fmt.bit 4 then b else (a && b) || (b && c) || (a && c)

/-- The three samples of a bit disagree. -/
def UartSt.split (x : UartSt) (k : Nat) : Bool :=
  x.sample (16 * k + 7) != x.sample (16 * k + 8) || x.sample (16 * k + 8) != x.sample (16 * k + 9)

/-- Data bits of a format. -/
def dataBits (fmt : Word) : Nat := if fmt.bit 0 then 7 else 8

/-- The index of the first stop bit (R779). -/
def stopBit (fmt : Word) : Nat := 1 + dataBits fmt + (if fmt.bits 1 2 = 0 then 0 else 1)

/-- The character in progress as its samples decide it. -/
def UartSt.decide (x : UartSt) : RxChar :=
  let f := x.fmtLive
  let n := stopBit f
  { data := BitVec.ofNat 8 ((List.range (dataBits f)).foldl (fun a k => a + (x.bitOf f (k + 1)).toNat * 2 ^ k) 0)
    parity := x.bitOf f (1 + dataBits f)
    stop := x.bitOf f n
    noise := (List.range (n + 1)).any x.split }

/-! ### Receiver -/

/-- The bit time of the receiver: DIV, and in frame mode with a measured sync field DIV_LIVE (R810). -/
def State.rxDiv (s : State) (u : Nat) (lin : LinPhase) : Word :=
  if s.linMode u && s.regBit (uartId u 0x20) 0 2 && (lin == .pid || lin == .subscribe) then s.reg (uartId u 0x21)
  else s.reg (uartId u 1)

/-- A line that reads high ends BRK_ACTIVE, and the delimiter of a frame (R784, Table UART-2). -/
def UartSt.afterHigh (x : UartSt) : UartSt := { x with lin := if x.lin = .delim then .sync else x.lin }

/-- UART_START_BIT (R254, R778, R780, R782, R785, R786, R795, R814 to R816): UnRX changes its level `edges` cycles from now, the
first of them from high to low where it is high. The hunting receiver samples it and finds a start bit; one decided high is a
glitch and is counted. -/
def execUartStartBit (ui : Fin 4) (edges : List Nat) (s : State) : Host.Outcome State Fault Refusal :=
  let u := ui.val
  let x := (s.uartOf u).see s.now edges
  .next (if !s.isRunning (0x30 + u) || s.pwr.stopped || x.inChar || x.waits || s.regBit (uartId u 8) 0 0 then s
    else match x.startSample with
    | none => s.setUart u x
    | some j =>
      let s0 := s.reach (x.sampleAt j)
      let s1 := ((s0.setRegBit (uartId u 0x0D) 0 3 false).setRegBit (uartId u 0x0D) 0 4 false).gapCheck u
      let f := s1.format u
      let y := { (x.huntFrom j true).afterHigh with divLive := s1.rxDiv u x.afterHigh.lin }
      if y.bitOf f 0 then
        let k := if f.bit 4 then 9 else 10
        ((s1.reach (y.sampleAt (k - 1))).setUart u (y.huntFrom k (y.sample (k - 1)))).bump (uartId u 0x17)
      else s1.setUart u { y with inChar := true, fmtLive := f, fcLive := s1.reg (uartId u 6), chLive := s1.reg (uartId u 7) })

/-- A decided character's data, FE, PE, NF and BRK under a format (R779, R781, R784). -/
def charTags (fmt : Word) (c : RxChar) : Byte × Bool × Bool × Bool × Bool :=
  let data := if fmt.bit 0 then c.data &&& 0x7F else c.data
  let par := fmt.bits 1 2
  let ones := (List.range 8).foldl (fun a i => a ^^ data.getLsbD i) false
  let nf := c.noise && !fmt.bit 4
  let brk := data == 0 && (par == 0 || !c.parity) && !c.stop
  (data, !c.stop, !brk && par != 0 && c.parity != (if par = 1 then ones else !ones), nf, brk)

/-- What a decided character does (R252, R253, R255, R256, R259, R784, R790, R796, R806 to R809, R811, R819, R824). -/
def State.takeChar (s : State) (u : Nat) (x : UartSt) (c : RxChar) : State :=
  let t := charTags x.fmtLive c
  let data := t.1
  let fe := t.2.1
  let pe := t.2.2.1
  let nf := t.2.2.2.1
  let brk := t.2.2.2.2
  let s1 := if brk then s.setRegBit (uartId u 0x0D) 0 4 true else s
  if s.linMode u then (if brk && x.lin == .hunt then s1 else s1.linChar u data fe nf)
  else if x.fcLive.bit 0 && !fe && !pe && (data == x.chLive.setWidth 8 || data == (x.chLive >>> 8).setWidth 8) then
    (s1.setRegBit (uartId u 0x0D) 0 1 (data == x.chLive.setWidth 8)).bump (uartId u 0x1B)
  else s1.deliverEntry u (rxEntry data fe pe nf brk)

/-- UART_CHAR_COMPLETE (R778, R779, R781, R783, R785, R786): UnRX has changed its level, after what is known of it, `edges`
cycles after sample 0 of the character in progress; sample 16n + 8, the decision of the first stop bit, completes it. The hunt
goes on with sample 16n + 10, and after FE once a sample has read high. -/
def execUartCharComplete (ui : Fin 4) (edges : List Nat) (s : State) : Host.Outcome State Fault Refusal :=
  let u := ui.val
  let x0 := s.uartOf u
  let x := x0.see (x0.sampleAt 0) edges
  let n := stopBit x.fmtLive
  let c := x.decide
  .next (if !s.isActive (0x30 + u) || !x.inChar then s
    else
      let s1 := s.reach (x.sampleAt (16 * n + 8))
      let y := { x.huntFrom (16 * n + if c.stop then 10 else 9) c.stop with
        highT := x.sampleAt (16 * n + 8), linT := x.sampleAt (16 * (n + 1)) }
      (s1.setUart u y).takeChar u y c)

/-- The instant since which UnRX reads high, as far as it is known: its last rise, or the decision of the last character's
stop bit (R795). -/
def UartSt.highSince (x : UartSt) (from_ : Nat) : Nat := max from_ (x.wave.getLastD 0)

/-- UnRX reads high once its known transitions are over. -/
def UartSt.endsHigh (x : UartSt) : Bool := x.high ^^ (x.wave.length % 2 == 1)

/-- The line turns idle (R794, R795). -/
def State.turnIdle (s : State) (u : Nat) : State :=
  let s1 := s.setRegBit (uartId u 0x0D) 0 3 true
  let lvl := (s1.uartOf u).rxq.length
  if 1 ≤ lvl ∧ lvl < (s1.reg (uartId u 4)).bits 0 8 then
    let s2 := s1.setRegBit (uartId u 0x0D) 0 6 true
    if s2.regBit (uartId u 0x0E) 0 0 then s2.emit (0x30 + u) evUartRxTrig (lvl + 256) else s2
  else s1

/-- UART_RX_IDLE (R794, R795, R816): the line has read high for one character time, counted from the decision of the last stop
bit, and turns idle; or for one since the clocks restarted after doze, and the receiver hunts again. -/
def execUartRxIdle (ui : Fin 4) (s : State) : Host.Outcome State Fault Refusal :=
  let u := ui.val
  let x := s.uartOf u
  let time := s.charCycles u 1
  let idle := s.regBit (uartId u 0x0D) 0 3
  .next (if !s.isActive (0x30 + u) || x.inChar || s.pwr.stopped || !x.endsHigh || (idle && !x.waits) then s
    else
      let s1 := s.reach (if idle then x.highSince x.waitT + time else x.highSince x.highT + time)
      let s2 := (s1.setUart u (if x.waits && decide (x.highSince x.waitT + time ≤ s1.now)
          then { x.afterHigh.freshHunt s1.now with waits := false, highT := x.highT } else x.afterHigh)).setRegBit
        (uartId u 0x0D) 0 4 false
      if idle then s2 else s2.turnIdle u)

/-! ### Transmitter -/

/-- The transmitter may start a character: it works, has not released its ball, and no doze tick holds it (R797, R805,
R815, R816). -/
def State.txFree (s : State) (u : Nat) : Bool :=
  s.isActive (0x30 + u) && !s.regBit (uartId u 0x0D) 0 0 && !s.dozeTick

/-- The end of a character that takes `bits` bit times, sent no sooner than the one before it has ended (R788, R805). -/
def State.txEnd (s : State) (u bits : Nat) : Nat := max s.now ((s.uartOf u).txT + bits * s.regN (uartId u 1) / 16)

/-- A character that ends at an instant is not started: it would end at or after the start of a tick without plan work
(R816). -/
def State.txHeld (s : State) (t : Nat) : Bool := s.dozeNext && decide (s.tickEnd ≤ t)

/-- A character has been sent: its last stop bit ends, and TX_CHARS counts it (R788). -/
def State.sent (s : State) (u bits : Nat) : State :=
  let s1 := s.reach (s.txEnd u bits)
  (s1.setUart u { s1.uartOf u with txT := s1.now }).bump (uartId u 0x11)

/-- XOFF_SEND (R797, R798, R816, R818, R819): the owed stop or start character has been sent. -/
def execXoffSend (ui : Fin 4) (s : State) : Host.Outcome State Fault Refusal :=
  let u := ui.val
  let x := s.uartOf u
  .next (match x.owed with
    | none => s
    | some _ =>
      if !s.regBit (uartId u 6) 0 1 then s.setUart u { x with owed := none }
      else if !s.txFree u || s.txHeld (s.txEnd u (charBits (s.reg (uartId u 2)))) then s
      else
        let sent := !s.regBit (uartId u 0x0D) 0 2
        let fc := s.reg (uartId u 6)
        let lvl := x.rxq.length
        let ch := s.reg (uartId u 7)
        let next : Option Byte := if sent && lvl ≤ fc.bits 16 8 then some ((ch >>> 8).setWidth 8)
          else if !sent && fc.bits 8 8 ≤ lvl then some (ch.setWidth 8) else none
        ((s.setUart u { x with owed := next }).setRegBit (uartId u 0x0D) 0 2 sent).sent u (charBits (s.reg (uartId u 2))))

/-- UART_TX_CHAR (R779, R788, R794, R797, R814, R816, R258): the next byte has left as one character: of a reply on a
transport, else of the transmit queue. -/
def execUartTxChar (ui : Fin 4) (s : State) : Host.Outcome State Fault Refusal :=
  let u := ui.val
  let x := s.uartOf u
  let t := s.trOf (u + 1)
  let bits := charBits (s.reg (uartId u 2))
  .next (if !s.txFree u || x.owed.isSome || s.linMode u || s.txHeld (s.txEnd u bits) then s
    else if !t.out.isEmpty then (s.setTr (u + 1) { t with out := t.out.drop 1 }).sent u bits
    else if x.txq.isEmpty || s.regBit (uartId u 0x0D) 0 1 then s
    else (s.popTx u).sent u bits)

/-- UART_TX_CONTEND (R804, R805, R818, R823): two consecutive read-back mismatches: the ball is released, and the
character in progress is abandoned and removed. The transmitter is sending where it has something to send. It sees no sign of
a test instruction that overrides its ball (R869). -/
def execUartTxContend (ui : Fin 4) (s : State) : Host.Outcome State Fault Refusal :=
  let u := ui.val
  let x := s.uartOf u
  let t := s.trOf (u + 1)
  let lin := s.linMode u
  let queued : Bool := !x.txq.isEmpty && !s.regBit (uartId u 0x0D) 0 1 && (!lin || (s.regBit (uartId u 0x20) 0 1 && x.lin == .hunt))
  let sending := !t.out.isEmpty || queued || (lin && x.lin == .publish)
  .next (if !s.txFree u || s.tapOverrides then s
    else
      let s1 := ((s.setRegBit (uartId u 0x0D) 0 0 true).bump (uartId u 0x19)).emit (0x30 + u) evUartTxContend
        sending.toNat
      if !t.out.isEmpty then s1.setTr (u + 1) { t with out := t.out.drop 1 }
      else if lin && x.lin == .publish then (s1.popTx u).linEnd u 6
      else if queued then (if lin then (s1.popTx u).linEnd u 6 else s1.popTx u)
      else s1)

/-! ### Auto-baud (R799 to R802, R808) -/

/-- The bits before which a character's level changes, within its data bits, the start bit's fall being at 0. -/
def changeBits (c n : Nat) : List Nat :=
  0 :: ((List.range n).filter fun k =>
    (if k = 0 then false else c.testBit (k - 1)) != c.testBit k).map (· + 1)

/-- The new divisor from the stamps of a known character's transitions (R800); none where the measurement fails. -/
def measureDiv (c n : Nat) (stamps : List Nat) (stopHigh : Bool) : Option Nat :=
  let bits := changeBits c n
  let dist := (fallingBits c n).getLastD 0
  let s0 := stamps.headD 0
  let iv := ((bits.zip stamps).find? fun p => p.1 == dist).elim 0 fun p => p.2 - s0
  let div := (32 * iv + dist) / (2 * dist)
  let near := (bits.zip stamps).all fun p =>
    decide ((8 * dist * (p.2 - s0) : Int) - (8 * p.1 * iv : Nat) ≤ iv) &&
      decide ((8 * p.1 * iv : Int) - (8 * dist * (p.2 - s0) : Nat) ≤ iv)
  if stamps.length = bits.length ∧ dist ≠ 0 ∧ near ∧ 640 ≤ div ∧ div ≤ 21333333 ∧ stopHigh then some div else none

/-- UART_AUTOBAUD (R799 to R803, R808): the armed measurement, or that of a sync field in frame mode, ends. -/
def execUartAutobaud (ui : Fin 4) (stamps : List Nat) (stopHigh : Bool) (s : State) :
    Host.Outcome State Fault Refusal :=
  let u := ui.val
  let x := s.uartOf u
  let div := s.regN (uartId u 1)
  .next (if !s.isRunning (0x30 + u) then s
    else if s.linMode u then
      if x.lin ≠ .sync ∨ !s.regBit (uartId u 0x20) 0 2 then s
      else
        let s1 := s.setUart u (x.freshHunt s.now)
        match measureDiv 0x55 8 stamps stopHigh with
        | none => s1.linEnd u 1
        | some d =>
          if 85 * div ≤ 100 * d ∧ 100 * d ≤ 115 * div then
            (s1.setUart u { s1.uartOf u with lin := .pid }).setReg (uartId u 0x21) 0 (Word.of d)
          else s1.linEnd u 1
    else if !s.regBit (uartId u 8) 0 0 then s
    else
      let ab := s.regN (uartId u 9)
      let seven := s.regBit (uartId u 2) 0 0
      match measureDiv ab (if seven then 7 else 8) stamps stopHigh with
      | none => s.bump (uartId u 0x18)
      | some d =>
        let s1 := ((s.setReg (uartId u 1) 0 (Word.of d)).setRegBit (uartId u 8) 0 0 false).setRegBit
          (uartId u 0x0D) 0 5 false
        let s2 := (s1.setUart u { (s1.uartOf u).freshHunt s1.now with divLive := Word.of d }).emit (0x30 + u) evUartAutobaud d
        if s2.regBit (uartId u 8) 0 1 then
          s2.deliverEntry u (rxEntry (BitVec.ofNat 8 (if seven then ab % 128 else ab)) false false false false)
        else s2)

/-- AUTOBAUD_ABANDON (R802, R824): the armed measurement is abandoned and counted as failed; a break that caused it is
then stored as a BRK entry. -/
def execAutobaudAbandon (ui : Fin 4) (brk : Bool) (s : State) : Host.Outcome State Fault Refusal :=
  let u := ui.val
  .next (if !s.isRunning (0x30 + u) || !s.regBit (uartId u 8) 0 0 then s
    else
      let s1 := s.bump (uartId u 0x18)
      if brk then (s1.setRegBit (uartId u 0x0D) 0 4 true).deliverEntry u (rxEntry 0 true false false true) else s1)

/-! ### Frames -/

/-- LIN_BREAK (R808, R809): in frame mode the line has been low for 11 bit times: a frame starts. One that was being
received ends with the byte that the break spoiled. -/
def execLinBreak (ui : Fin 4) (s : State) : Host.Outcome State Fault Refusal :=
  let u := ui.val
  let x := s.uartOf u
  .next (if !s.isRunning (0x30 + u) || !s.linMode u || s.pwr.stopped || x.lin == .publish then s
    else
      let s0 := if x.inChar then s.reach (x.sampleAt (16 * 11))
        else if s.regBit (uartId u 0x0D) 0 4 then s.reach (x.linT + s.regN (uartId u 1) / 16) else s
      let s1 := if x.lin = .sync then s0.linEnd u 1
        else if x.lin = .pid ∨ x.lin = .subscribe then s0.linEnd u 8 else s0
      let y := if x.inChar then { x.freshHunt s1.now with high := false, seen := false } else x
      (s1.setUart u { y with lin := .delim, linGot := [] }).setRegBit (uartId u 0x0D) 0 4 true)

/-- The bit time of frame mode in 1/16 cycle: DIV_LIVE where sync fields are measured, else DIV (R810). -/
def State.linBit (s : State) (u : Nat) : Nat :=
  if s.regBit (uartId u 0x20) 0 2 then s.regN (uartId u 0x21) else s.regN (uartId u 1)

/-- LIN_RESPONSE_TIMEOUT (R810): a subscribed response has not reached its checksum within 1.4 × 10 × (length + 1) bit times
of the end of the PID's stop bit. -/
def execLinResponseTimeout (ui : Fin 4) (s : State) : Host.Outcome State Fault Refusal :=
  let u := ui.val
  let x := s.uartOf u
  let t := x.linT + 14 * (s.linLen u x.linId + 1) * s.linBit u / 16
  .next (if x.lin = .subscribe ∧ s.isActive (0x30 + u) then
      (s.reach (t + 1)).linEnd u (if x.linGot.isEmpty then 4 else 5)
    else s)

/-- How many leading bytes of a list come back as they were sent. -/
def readsBack : List Byte → List Byte → Nat
  | a :: t, b :: r => if a = b then 1 + readsBack t r else 0
  | _, _ => 0

/-- LIN_PUBLISH_RESPONSE (R807, R811): the response of a published identifier is sent from the transmit queue with its
checksum, the response space after the PID, and read back byte by byte; a mismatch stops it. -/
def execLinPublishResponse (ui : Fin 4) (readBack : List Byte) (s : State) : Host.Outcome State Fault Refusal :=
  let u := ui.val
  let x := s.uartOf u
  let len := s.linLen u x.linId
  let data := x.txq.take len
  let all := data ++ [s.linSum u x.linId x.pid data]
  let same := readsBack all readBack
  .next (if x.lin ≠ .publish ∨ !s.linMode u ∨ !s.txFree u then s
    else
      let s1 := (s.setUart u { x with txq := x.txq.drop len }).txLevelled u x.txq.length
      let sent := if same = all.length then same else same + 1
      let space := (s.reg (uartId u 0x20)).bits 3 3
      let s2 := s1.reach (x.linT + (space + 10 * sent) * s.linBit u / 16)
      let s3 := s2.setUart u { s2.uartOf u with txT := s2.now }
      (s3.bumpBy (uartId u 0x11) 0 sent).linEnd u (if same = all.length then 0 else 6))

/-- LIN_HEADER (R812): the commander takes a header request from the transmit queue, sends break, delimiter, sync and
PID, and reads them back; it then acts on the identifier's direction. -/
def execLinHeader (ui : Fin 4) (readBackOk : Bool) (s : State) : Host.Outcome State Fault Refusal :=
  let u := ui.val
  let x := s.uartOf u
  .next (match x.txq with
    | [] => s
    | b :: _ =>
      if !s.linMode u || !s.regBit (uartId u 0x20) 0 1 || !(x.lin == .hunt || x.lin == .ignore) || !s.txFree u ||
          s.regBit (uartId u 0x0D) 0 1 then s
      else
        let id := b.toNat % 64
        let s1 := s.popTx u
        if !readBackOk then
          (s1.setReg (uartId u 0x22) 0 ((s1.reg (uartId u 0x22)).setBits 0 6 id)).linEnd u 6
        else
          let cfg := s.reg (uartId u 0x20)
          let z := s1.reach (s1.txEnd u (cfg.bits 6 5 + cfg.bits 11 2 + 1 + 20))
          let s2 := (z.setUart u { z.uartOf u with txT := z.now, linT := z.now }).bumpBy (uartId u 0x11) 0 2
          (if s2.regBit (uartId u 0x20) 0 2 then s2.setReg (uartId u 0x21) 0 (s2.reg (uartId u 1)) else s2).linStart u
            (linPid id) false)

/-! ### The fabric's end (R646, R793) -/

/-- UART_FABRIC_WRITE (R252, R629, R646, R793, R338): a fabric transmit write appends to the transmit queue, or is
dropped. -/
def execUartFabricWrite (ui : Fin 4) (b : Byte) (s : State) : Host.Outcome State Fault Refusal :=
  let u := ui.val
  let x := s.uartOf u
  .next (match s.portOwner (8 + u) with
    | none => s
    | some r =>
      if !s.isRunning (0x30 + u) then s.absentDrop (0x20 + r)
      else if s.isTransport u || s.reg (uartId u 5) == 0 then s.absentDrop (0x20 + r)
      else if (s.depths u).2 ≤ x.txq.length then s.bump (uartId u 0x1C)
      else s.setUart u { x with txq := x.txq ++ [b] })

/-- UART_FABRIC_HANDOFF (R646, R793, R794): the receive queue hands its oldest entry to the fabric, no sooner than 64
cycles after the one before. -/
def execUartFabricHandoff (ui : Fin 4) (dt : Nat) (s : State) : Host.Outcome State Fault Refusal :=
  let u := ui.val
  let s1 := s.elapse dt
  let x := s1.uartOf u
  .next (if !s1.isActive (0x30 + u) || s1.isTransport u || s1.reg (uartId u 5) == 0 || x.rxq.isEmpty then s1
    else
      let s2 := match x.handT with
        | none => s1
        | some t => s1.reach (t + 64)
      ((s2.setUart u { s2.uartOf u with handT := some s2.now }).popRx u).feedPort (10 + u) (0x30 + u)
        ((x.rxq.headD 0).setWidth 32) [s2.tagNow (0x30 + u)])

end Sys2Proof.Machine
end

