-- ==== Sys2Proof/Machine/Sec.lean ====
section
/-! DEFINITION. The random number source (chapter 14): RNG_TAKE, RNG_HEALTH_FAIL, RNG_RETEST_END, RNG_RECOVERED,
DRBG_RESEED and DRBG_GENERATE. -/

namespace Sys2Proof.Machine

/-- The DRBG has made its 4,096 calls: it collects the blocks of a reseed and generates nothing (R669, R673). -/
def State.reseeds (s : State) : Bool := s.rng.live && decide (4096 ≤ s.rng.calls)

/-- RNG.STATUS bits 0 and 1: output available, RETESTING (R673). -/
def State.refreshRng (s : State) : State :=
  (s.setRegBit 0x0501 0 0 (!s.rng.buf.isEmpty)).setRegBit 0x0501 0 1 (s.rng.retest != 0 || s.rng.seeding || s.reseeds)

/-! ### Samples of a source (R666 to R668) -/

/-- The health tests of a source (Table SEC-2): the last sample and how many times it has come in a row; of the present
window, its first sample, how often that has come, and the samples taken. -/
structure TestSt where
  last  : Option Bool := none
  run   : Nat := 0
  first : Bool := false
  cnt   : Nat := 0
  pos   : Nat := 0
  deriving DecidableEq, Repr

/-- The next sample. -/
def TestSt.next (t : TestSt) (b : Bool) : TestSt :=
  let opens := t.pos % 1024 == 0
  { last := some b
    run := if t.last = some b then t.run + 1 else 1
    first := if opens then b else t.first
    cnt := if opens then 1 else t.cnt + (b == t.first).toNat
    pos := t.pos + 1 }

/-- The test that fails with the sample taken last: repetition count (false), adaptive proportion (true). -/
def TestSt.failed (t : TestSt) : Option Bool :=
  if 81 ≤ t.run then some false else if 825 ≤ t.cnt then some true else none

/-- The first failure in a series: how many samples it takes, and the test. -/
def firstFail : TestSt → Nat → List Bool → Option (Nat × Bool)
  | _, _, [] => none
  | t, k, b :: l => match (t.next b).failed with
    | some p => some (k + 1, p)
    | none => firstFail (t.next b) (k + 1) l

/-- The test that a source fails now (R671): the samples of its present window of 1,024, and those before it, as far as they
count for a repetition, oldest first. -/
def seriesFails (before window : List Bool) : Option Bool :=
  let t := before.foldl TestSt.next {}
  (firstFail { t with cnt := 0, pos := 0 } 0 window).map fun p => p.2

/-- The lowest-numbered source whose continuous test fails now, with the test (R667, R680). -/
def continuousFail (before window : List (List Bool)) : Option (Nat × Bool) :=
  ((List.range 4).zip (before.zip window)).findSome? fun p => (seriesFails p.2.1 p.2.2).map fun t => (p.1, t)

/-- The earliest failure of the sources in a start-up test, the lowest-numbered source's where several come at once (R672,
R680): samples, source, test. -/
def startFail (sources : List (List Bool)) : Option (Nat × Nat × Bool) :=
  ((List.range 4).zip sources).foldl (fun m p => match firstFail {} 0 p.2, m with
    | none, _ => m
    | some x, none => some (x.1, p.1, x.2)
    | some x, some y => if x.1 < y.1 then some (x.1, p.1, x.2) else some y) none

/-- Samples packed eight per byte, the earliest in bit 0 (R668). -/
def packSamples : Nat → List Bool → List Byte
  | 0, _ => []
  | n + 1, l => BitVec.ofNat 8 (bitsNat (l.take 8)) :: packSamples n (l.drop 8)

/-- A conditioned block: SHA-256 over 1,024 samples of one source (R668). -/
def conditioned (l : List Bool) : List Byte := sha256 (packSamples 128 l)

/-- The seed from two conditioned blocks (R669); which of their bits it takes is free (log 70). -/
def seedOf (a b : List Bool) : BitVec 384 := Config.seedBits (conditioned a ++ conditioned b)

/-! ### Delivery -/

/-- Random bytes have been delivered (RNG.BYTES wraps). -/
def State.countRandom (s : State) (n : Nat) : State := s.setReg 0x0507 0 (s.reg 0x0507 + Word.of n)

/-- Random bytes packed in order, the rest of the last word zero (R312). -/
def packRandom (bs : List Byte) : List Word := wordsOfBytes (bs ++ List.replicate ((4 - bs.length % 4) % 4) 0)

/-- A RANDOM request of transport `n` whose reply is not ready draws what the buffer holds; once it has its bytes its reply
is DONE (R312). -/
def State.feedRequest (s : State) (n : Nat) : State :=
  let t := s.trOf n
  match t.exec with
  | none => s
  | some r =>
    if r.op ≠ 0x48 ∨ r.status ≠ stQueued then s
    else
      let cnt := (t.ask.getD 0 0).toNat
      let all := t.got ++ s.rng.buf.take (cnt - t.got.length)
      let s1 : State := { s with rng := { s.rng with buf := s.rng.buf.drop (cnt - t.got.length) } }
      if all.length = cnt then
        (s1.setTr n { t with got := [], exec := some { r with status := stDone, words := packRandom all } }).countRandom cnt
      else s1.setTr n { t with got := all }

/-- The RANDOM job draws what the buffer holds, and ends once it has its bytes (R312, R670). -/
def State.feedJob (s : State) : State :=
  match s.findJob fun k => match k with
    | .random .. => true
    | _ => false with
  | none => s
  | some j => match j.kind with
    | .random n got =>
      let all := got ++ s.rng.buf.take (n - got.length)
      let s1 : State := { s with rng := { s.rng with buf := s.rng.buf.drop (n - got.length) } }
      if all.length = n then (s1.endJob j.num stDone (packRandom all)).countRandom n
      else s1.setJob j.num (.random n all)
    | _ => s

/-- Bytes go to the RANDOM job, then to the requests that wait for their reply. -/
def State.feedRandom (s : State) : State := s.feedJob.each (List.range 5) State.feedRequest

/-- RNG_TAKE (R633, R670): a fabric TAKE removes the word that the port presents. -/
def execRngTake (s : State) : Host.Outcome State Fault Refusal :=
  .next (if !s.isRunning 0x05 || s.rng.buf.length < 4 then s
    else
      (({ s with rng := { s.rng with buf := s.rng.buf.drop 4 } } : State).countRandom 4).refreshRng)

/-- A health test of a source has failed (R671, R672, Table SEC-4): recorded, counted and logged; `retest` is its
number, 0 for a continuous test, `start` says that a start-up test failed. -/
def State.healthEvent (s : State) (source : Nat) (proportion start : Bool) (retest : Nat) : State :=
  let v := source + proportion.toNat * 4 + start.toNat * 8
  let s1 := (s.setReg 0x0503 0 (Word.of v)).bump (if proportion then 0x0505 else 0x0504)
  (s1.setRegBit 0x0501 0 2 true).emit 0x05 evRngHealthFail (v + retest * 256)

/-- Every RANDOM request not yet replied to and every RANDOM job ends HEALTH_FAIL with no bytes; so does a challenge
whose nonce was being made, and with it the nonce held (R671, R677). -/
def State.failRandom (s : State) : State :=
  let s1 := match s.findJob fun k => match k with
      | .random .. => true
      | _ => false with
    | none => s
    | some j => s.endJob j.num stHealthFail []
  s1.each (List.range 5) fun s n =>
    let t := s.trOf n
    match t.exec with
    | none => s
    | some r =>
      let dead : Reply := { r with status := stHealthFail, words := [] }
      if r.op = 0x48 then
        (s.setTr n { t with exec := some dead, got := [] }).setReg 0x0507 0
          (s.reg 0x0507 - if r.status = stDone then t.ask.getD 0 0 else 0)
      else if r.op = 0x70 ∧ r.words.length = 8 then
        { s.setTr n { t with exec := some dead } with sec := { s.sec with nonce := none } }
      else s

/-- RNG_HEALTH_FAIL (R313, R667, R671, R633, R677, R680): with the sample that the sources have just delivered a continuous
test fails, of the lowest-numbered source where several fail: the output is flushed, the DRBG zeroized, pending requests fail,
and the first retest starts. -/
def execRngHealthFail (before window : List (List Bool)) (s : State) : Host.Outcome State Fault Refusal :=
  .next (if !(s.isActive 0x05 || (s.unit 0x05).st == .ready || (s.unit 0x05).st == .waking) || s.rng.stopped ||
      (!s.rng.live && !s.rng.seeding) then s
    else match continuousFail before window with
      | none => s
      | some (src, prop) =>
        let s1 : State := { s with rng := { s.rng with
          buf := [], key := 0, v := 0, calls := 0, live := false, seeding := false, retest := 1, errPort := true, since := s.now } }
        ((s1.failRandom).healthEvent src prop false 0).refreshRng)

/-- RNG_RETEST_END (R666, R667, R672, R674): a start-up test ends, at its first failure or after 1,024 samples of each source,
one every 80 cycles. It is the retest in progress, or the first test of a wake. A pass is followed by seed collection; after
the third failed retest the sources stop. -/
def execRngRetestEnd (sources : List (List Bool)) (s : State) : Host.Outcome State Fault Refusal :=
  let g := s.rng
  .next (if g.stopped || g.seeding || (g.retest == 0 && !((s.unit 0x05).st == .waking && !g.live)) then s
    else match startFail sources with
    | none =>
      if !(sources.length == 4 && sources.all fun l => l.length == 1024) then s
      else
        let s1 := s.reach (g.since + 81920)
        (({ s1 with rng := { g with seeding := true, since := s1.now } } : State).setReg 0x0502 0 0).refreshRng
    | some (k, src, prop) =>
      let s0 := s.reach (g.since + 80 * k)
      let s1 := (s0.healthEvent src prop true g.retest).setReg 0x0502 0 (Word.of g.retest)
      if g.retest = 3 then
        (({ s1 with rng := { g with stopped := true, retest := 0, errPort := true } } : State).emit 0x05
          evRngFault 0).refreshRng
      else ({ s1 with rng := { g with retest := g.retest + 1, errPort := true, since := s1.now } } : State).refreshRng)

/-- The DRBG takes a seed of 384 bits: reseeded, or instantiated from zeros (R669). -/
def State.seedDrbg (s : State) (seed : BitVec 384) : State :=
  let kv := ctrUpdate seed s.rng.key s.rng.v
  ({ s with rng := { s.rng with key := kv.1, v := kv.2, calls := 0, live := true } } : State).bump 0x0506

/-- RNG_RECOVERED (R668, R669, R672, R675): the seed is collected in one conditioning period of 81,920 cycles, the DRBG is
instantiated and output resumes; after a retest the event is logged. -/
def execRngRecovered (seed : Blocks) (s : State) : Host.Outcome State Fault Refusal :=
  .next (if !s.rng.seeding || s.rng.stopped then s
    else
      let s0 := s.reach (s.rng.since + 81920)
      let made := s.rng.retest
      let s1 := ({ s0 with rng := { s.rng with key := 0, v := 0, seeding := false, retest := 0, errPort := false } } :
        State).seedDrbg (seedOf seed.a seed.b)
      (if made = 0 then s1 else s1.emit 0x05 evRngRecovered made).refreshRng)

/-- DRBG_RESEED (R668, R669, R673): after 4,096 generate calls the DRBG reseeds from fresh blocks. -/
def execDrbgReseed (seed : Blocks) (s : State) : Host.Outcome State Fault Refusal :=
  .next (if !s.reseeds || !s.isRunning 0x05 || s.dozeTick then s else (s.seedDrbg (seedOf seed.a seed.b)).refreshRng)

/-- DRBG_GENERATE (R312, R669, R670, R676): one generate call puts 64 bytes into the output buffer where there is room;
what RANDOM has asked for draws before and after. A DRAINING source goes on for what it has accepted (R348). -/
def execDrbgGenerate (s : State) : Host.Outcome State Fault Refusal :=
  .next (if !s.isActive 0x05 || !s.rng.live || s.dozeTick then s
    else
      let s1 := s.feedRandom
      let s2 := if s1.rng.calls < 4096 ∧ s1.rng.buf.length + 64 ≤ 256 then
          let g := ctrGenerate s1.rng.key s1.rng.v
          { s1 with rng := { s1.rng with
            buf := s1.rng.buf ++ g.1, key := g.2.1, v := g.2.2, calls := s1.rng.calls + 1 } }
        else s1
      s2.feedRandom.refreshRng)

end Sys2Proof.Machine
end

