-- ==== Sys2Proof/Machine/Commit.lean ====
section
/-! DEFINITION. What a value that takes effect changes besides its parameter: the shared operation of the commit at cycle
128 (R28), of the analog configuration (R697) and of a SET_NOW (R287). -/

namespace Sys2Proof.Machine

/-- The parameter whose write is an action and is not stored (R16). -/
def writeOnly (id : Nat) : Bool := match paramRow id with
  | some r => r.acc == .wo
  | none => true

/-- The values before an application, as a view. -/
def State.values (s : State) : View := fun id sub => s.reg id sub

/-- A parameter has a new value. -/
def State.changed (s : State) (old : View) (id sub : Nat) : Bool := old id sub != s.reg id sub

/-- A unit keeps its outputs: it is READY, RUNNING or DRAINING. -/
def State.isAwake (s : State) (u : Nat) : Bool :=
  !(s.unit u).skewed && ((s.unit u).st == .ready || (s.unit u).st == .running || (s.unit u).st == .draining)

/-- Entries of a sequencer have been written: earlier sampling instants keep the entries before (R508, R57). -/
def State.keepEntries (s : State) (old : View) (n : Nat) : State :=
  if (List.range 32).any fun e => s.changed old (seqUnit n * 256 + 0x20 + e) 0 then
    s.setSeq n { s.seqOf n with
      oldEnt := (List.range 32).map (fun e => old (seqUnit n * 256 + 0x20 + e) 0), commitT := s.now }
  else s

/-- The settings of a cell that its mode uses have changed (R396, R412, R415). -/
def State.cellTouched (s : State) (old : View) (c : Nat) : Bool :=
  let m := s.regN 0x1800 c
  ((m == 2 || m == 3) && s.changed old 0x1801 c) ||
    (m == 4 && (s.changed old 0x1802 c || s.changed old 0x1803 c || s.changed old 0x1804 c)) ||
    (m == 5 && (s.changed old 0x1805 c || (old 0x1806 c).bits 0 3 != (s.reg 0x1806 c).bits 0 3))

/-- A change of a cell's settings takes effect (R388, R396, R412, R415, R416): it settles, and powers up where it was
OFF. A change of what its mode uses while it settles lets both settling times pass (DESIGN CHOICE, log 66). -/
def State.afterCell (old : View) (s : State) (c : Nat) : State :=
  let m := s.regN 0x1800 c
  let x := s.cell c
  let ready := s.now + s.settleCycles c
  if !s.isAwake 0x18 then s
  else if !s.changed old 0x1800 c then
    (if !s.cellTouched old c || x.dozeOff then s
     else (s.setCell c { x with readyT := max x.readyT (if x.powering then 0 else ready) }).setRegBit 0x1809 c 0 true)
  else if m = 0 then (s.setCell c {}).setReg 0x1809 c (s.reg 0x1809 c &&& 8)
  else
    let up := !x.dozeOff && (x.powering || old 0x1800 c == 0)
    let st := (s.reg 0x1809 c &&& (if m = 5 then 10 else 12)).setBit 0 (!x.dozeOff)
    (s.setCell c { x with powering := up, holding := false
                          readyT := if x.powering then x.readyT else if up then s.now + 12000 else ready }).setReg 0x1809 c st

/-- The switches whose setting has changed open (R386). -/
def State.openSwitches (s : State) (old : View) : State :=
  s.setClosed s.now (s.closed.filter fun p => !s.changed old 0x1900 p.1)

/-- A DAC channel's settings take effect (R402, R403, R405, R414). `touched` says that CODE or LATCH was among the
values. -/
def State.afterDac (old : View) (touched : Nat → Bool) (s : State) (ch : Nat) : State :=
  let latch := s.regN 0x1A02 ch
  let code := s.reg 0x1A00 ch
  let s1 := if old 0x1A02 ch = 2 ∧ latch ≠ 2 ∧ (s.dac ch).held.isSome then
      (s.setDac ch { s.dac ch with held := none }).absentDrop 0x1A
    else s
  let s2 := if !touched ch then s1
    else if latch = 0 then (s1.setDac ch { s1.dac ch with staged := none }).latchDac ch code s1.now
    else if latch = 1 then s1.setDac ch { s1.dac ch with staged := some code }
    else s1.setDac ch { s1.dac ch with staged := none }
  if s2.changed old 0x1A01 ch || s2.changed old 0x1A04 ch then
    (s2.setDac ch { s2.dac ch with offT := some (s2.now + 400) }).setRegBit 0x1A05 ch 0 false
  else s2

/-- A ring starts again at its beginning (R538). -/
def State.restartRing (s : State) (ring : Nat) : State :=
  (((s.setReg (ringId ring 0x60) 0 0).setReg (ringId ring 0x68) 0 0).setRegBit (ringId ring 0x70) 0 0 false).refreshThresh
    ring

/-- A ring's settings take effect (R536, R538). -/
def State.afterRing (old : View) (s : State) (ring : Nat) : State :=
  let b := ringId ring 0x50
  let c := ringId ring 0x58
  if s.changed old b 0 || (old c 0).bits 0 11 != (s.reg c).bits 0 11 then s.restartRing ring
  else if s.changed old c 0 then s.refreshThresh ring
  else s

/-- The XSPI1 rings that use a queue. -/
def State.queueRings (s : State) (q : Nat) : List Nat := (List.range 16).filter fun r =>
  (s.reg (ringId r 0x58)).bit 5 && (s.reg (ringId r 0x58)).bits 6 4 == q

/-- A Geyser segment's settings take effect: the queue's words are discarded and counted, and its ring starts again
(R768). -/
def State.afterSegment (old : View) (s : State) (q : Nat) : State :=
  if !(s.changed old (0x3900 + q) 0 || s.changed old (0x3910 + q) 0) then s
  else
    let x := s.queue q
    let s1 := ((s.setQueue q {}).bumpBy (0x3930 + q) 0 x.words.length).each (s.queueRings q) State.restartRing
    match x.burst with
    | some (_, some i) => s1.finishItem i
    | _ => s1

/-- A pin that is flagged as it becomes monitored becomes SUS (R425). -/
def State.afterPin (old : View) (s : State) (p : Nat) : State :=
  if monitored (s.reg 0x1B00 p) && !monitored (old 0x1B00 p) && s.regBit 0x1B17 0 p && !s.regBit 0x1B16 0 p then
    s.setSus p true
  else s

/-- A serial channel's settings take effect (R817, R262): recognition of stop characters switched off ends a pause, and
a channel that is a transport no longer discards a partial request. -/
def State.afterUart (old : View) (s : State) (u : Nat) : State :=
  let s1 := if s.changed old (uartId u 6) 0 && !s.regBit (uartId u 6) 0 0 then
      s.setRegBit (uartId u 0x0D) 0 1 false
    else s
  if (old 0x3D00 0).bit u && !s1.regBit 0x3D00 0 u then s1.discardRx (u + 1) 1 else s1

/-- The follower's present tracking of its master, as it is before any edge; a master's balls as they stand. -/
def TbusSt.forget (b : TbusSt) : TbusSt := { io := b.io, aux := b.aux, quiet := b.quiet }

/-- The follower begins to hunt, and stays awake until it is aligned (R88, R102). -/
def State.hunt (s : State) : State :=
  { s.setRegBit 0x0209 0 3 true with tbus := { s.tbus.forget with awake := true } }

/-- The roles on the tick bus take effect (R70, R76, R87, R88, R90, R148); `roleSet` says that ROLE was among the
values. -/
def State.afterRole (old : View) (roleSet : Bool) (s : State) : State :=
  let master : Bool := s.reg 0x0200 == 1
  let s1 : State := if roleSet && master then { s with tbus := { s.tbus with quiet := false } } else s
  let s2 := if master then (s1.setRegBit 0x0209 0 0 false).setRegBit 0x0209 0 5 false else s1
  if !s2.changed old 0x0101 0 then s2
  else if s2.reg 0x0101 = 1 then (if s2.released then s2.hunt else s2)
  else
    ({ s2 with tbus := s2.tbus.forget }.setReg 0x0209 0 (s2.reg 0x0209 &&& 0x52)).setRegBit 0x0606 0 0 false

/-- Values take effect together now, the later of two for one parameter prevailing (R28, R324), with everything that
their change entails. The lines of a wire check and the held writes of DACs that came before this cycle go by the values
before (R67, R403). -/
def State.applyValues (st : State) (ws : List (Nat × Nat × Word)) : State :=
  let s := st.keepUp.each (List.range 8) (State.dueHeld (st.now - 1))
  let old := s.values
  let given := fun (id sub : Nat) => ws.any fun w => w.1 == id && w.2.1 == sub
  let s1 := s.each ws fun s w => if writeOnly w.1 then s else s.setReg w.1 w.2.1 w.2.2
  let s2 := s1.each [0, 1] fun s n => s.keepEntries old n
  let s3 := s2.each (List.range 16) (State.afterCell old)
  let s4 := s3.openSwitches old
  let s5 := s4.each (List.range 8) (State.afterDac old fun ch => given 0x1A00 ch || given 0x1A02 ch)
  let s6 := s5.each (List.range 16) (State.afterRing old)
  let s7 := s6.each (List.range 16) (State.afterSegment old)
  let s8 := s7.each (List.range 24) (State.afterPin old)
  let s9 := s8.each (List.range 4) (State.afterUart old)
  let s10 := State.afterRole old (given 0x0200 0) s9
  s10.each ((List.range 8).filter fun f =>
    ((ws.filter fun w => w.1 == (0x10 + f) * 256 + 0x10).getLast?.map fun w => w.2.2) == some 1) State.clearChain

end Sys2Proof.Machine
end

