-- ==== Sys2Proof/Machine/Sinter.lean ====
section
/-! DEFINITION. The fuse bank at work (chapter 4): the checks of FUSE_PROG and COUNTER_ADVANCE, the programming job, scans,
and what a burn of a revoke bit ends; the commands FUSE_STEP and SINTER_SCAN_DONE. -/

namespace Sys2Proof.Machine

/-! ### The test access port and the unlock (R661, R863, R877, R678) -/

/-- The TAP controller is held in Test-Logic-Reset (R863). -/
def State.tapHeld (s : State) : Bool :=
  s.boot.phase == .held || (s.boot.phase == .phase1 && !s.boot.delivered) || !s.testOpen

/-- Where it is held, the controller selects IDCODE and any override of the outputs ends (R865, R877). -/
def State.closeTap (s : State) : State := if s.tapHeld then { s with tap := { s.tap with ir := 1, captured := 0x3048096B } } else s

/-- The active unlock ends, for a cause of SEC_RELOCK (R665, R678). -/
def State.relock (s : State) (cause : Nat) : State :=
  if s.sec.scope = 0 then s
  else (({ s with sec := { s.sec with scope := 0, slot := 0 } } : State).emit 0x04 evSecRelock cause).closeTap

/-! ### CRC of a critical region (R169, R170) -/

/-- The region CRC over rows from the lowest to the check row. -/
def regionCrc (security : Bool) (rows : List Word) : BitVec 16 :=
  let last := (rows.getLastD 0).setBits 0 16 0
  let last' := if security then last.setBits 20 5 0 else last
  crc16 (rows.dropLast.flatMap Word.bytes ++ last'.bytes)

/-- The region is sealed. -/
def regionSealed (rows : List Word) : Bool := (rows.getLastD 0).bit 16

/-- The CRC field equals the CRC. -/
def regionCrcOk (security : Bool) (rows : List Word) : Bool :=
  (rows.getLastD 0).setWidth 16 == regionCrc security rows

/-! ### Checks of a FUSE_PROG (R160, R161, R171 to R176, R189, R216) -/

/-- First and check row of the critical region that holds a row. -/
def criticalRows (r : Nat) : Nat × Nat := if r < 16 then (0, 15) else if r < 20 then (16, 19) else (20, 31)

/-- Reserved bits of a critical row (Tables SINT-2 and SINT-3, R168). -/
def reservedMask (r : Nat) : Word :=
  if r = 16 then 0xFFFFF8C0 else if r = 17 ∨ r = 18 then 0xFFFFFFFF else if r = 19 then 0xFFFE0000
  else if r = 31 then 0xFE0C0000 else 0

/-- The ratchet bits of row 31. -/
def ratchetMask : Word := 0x01F00000

/-- The rows of a region as they will stand once `mask` is set in row `r`. -/
def State.rowsAfter (s : State) (r : Nat) (mask : Word) : List Word :=
  let b := criticalRows r
  (List.range (b.2 + 1 - b.1)).map fun i =>
    if b.1 + i = r then s.fuseRow r ||| mask else s.fuseRow (b.1 + i)

/-- Some root-key slot is neither empty nor revoked, as the fuses stand, once `mask` is set in row 31. -/
def State.keyLeft (s : State) (mask : Word) : Bool :=
  let bs := ((List.range 7).map fun i => (s.fuseRow (24 + i)).bytes).flatten
  [0, 1].any fun k => ((bs.drop (14 * k)).take 14).any (· != 0) && !(s.fuseRow 31 ||| mask).bit (23 + k)

/-- SECURITY is sealed, as its fuses stand. -/
def State.securitySealed (s : State) : Bool := (s.fuseRow 31).bit 16

/-- The refusal of a FUSE_PROG that its row and mask call for, 0 where there is none. -/
def State.fuseRefusal (s : State) (r : Nat) (mask : Word) : Nat :=
  if r < 16 ∨ (mask ≠ 0 ∧ ((32 ≤ r ∧ r < 48) ∨ (20 ≤ r ∧ r < 24))) then stDenied
  else if 32 ≤ r then 0
  else
    let b := criticalRows r
    let free := if r = 31 then ratchetMask else 0
    if (s.fuseRow b.2).bit 16 ∧ mask &&& ~~~free ≠ 0 then stDenied
    else if mask &&& reservedMask r ≠ 0 then stParamBad
    else if 20 ≤ r ∧ s.ratchet 0 ∧ mask &&& ~~~free ≠ 0 then stDenied
    else if r = 31 ∧ mask.bit 20 ∧ !(s.securitySealed && s.keyLeft 0) then stDenied
    else if r = 31 ∧ (mask.bit 23 || mask.bit 24) ∧ !s.keyLeft mask then stDenied
    else if r = b.2 ∧ mask.bit 16 ∧ !regionCrcOk (20 ≤ r) (s.rowsAfter r mask) then stParamBad
    else 0

/-- A programming job runs. -/
def State.programming (s : State) : Bool := s.jobs.running.any fun j => match j.kind with
  | .fuse _ => true
  | _ => false

/-- SYS.TEMP lies between −20 °C and 85 °C. -/
def State.tempOk (s : State) : Bool :=
  let t := (s.reg 0x000E).signed 16
  decide (-320 ≤ t) && decide (t ≤ 1360)

/-- The conditions of R196. -/
def State.mayProgram (s : State) : Bool :=
  s.tempOk && decide (40000 ≤ s.period) && s.reg 0x0207 == 0 && !s.programming

/-! ### The programming job -/

/-- A copy of a logical bit reads 1. -/
def State.copyBit (s : State) (c : Nat) (p : Nat × Nat) : Bool := (s.fuseCopy (c == 1) p.1).bit p.2

/-- A copy of a logical bit is burnt. -/
def State.burnCopy (s : State) (c : Nat) (p : Nat × Nat) : State :=
  let w := (s.fuseCopy (c == 1) p.1).setBit p.2 true
  if c = 1 then { s with sint := { s.sint with copy1 := insert 0 s.sint.copy1 p.1 w } }
  else { s with sint := { s.sint with copy0 := insert 0 s.sint.copy0 p.1 w } }

/-- The first copy of a bit that must be pulsed. -/
def State.firstCopy (s : State) (p : Nat × Nat) : Nat := (s.copyBit 0 p).toNat

/-- The programming job for a list of logical bits, of which those with both copies at 1 are skipped (R192); none where
there is nothing to pulse (R197). -/
def State.fuseJob (s : State) (counter : Option Nat) (bits : List (Nat × Nat)) : Option FuseJob :=
  let todo := bits.filter fun p => !(s.copyBit 0 p && s.copyBit 1 p)
  match todo with
  | [] => none
  | p :: _ =>
    some { counter := counter, todo := todo, copy := s.firstCopy p, pulses := 0, p0 := 0, p1 := 0, steps := 0,
           total := todo.foldl (fun n q => n + (!s.copyBit 0 q).toNat + (!s.copyBit 1 q).toNat) 0, split := false,
           burnt := false, last := (0, 0) }

/-- Cycles of one pulse with its verify read (R193). -/
def State.stepCycles (s : State) : Nat := if s.reg 0x0306 = 1 then 4400 else 20400

/-- A pulse can reach a fuse: from VPP, or from the internal pump where PUMP_DISABLE allows it (R162). -/
def State.canPulse (s : State) : Bool := s.reg 0x0306 == 1 || !s.pumpOff

/-- A step that starts now ends no later than cycle P − 1 (R198). -/
def State.stepFits (s : State) : Bool := decide (128 ≤ s.cyc) && decide (s.now + s.stepCycles < s.tickEnd)

/-- SINTER.PROG_RESULT of a job with an outcome and a reason (Table SINT-5). -/
def progResult (f : FuseJob) (status reason : Nat) : Word :=
  Word.of (status + f.last.1 * 2 ^ 8 + f.last.2 * 2 ^ 14 + f.p0 * 2 ^ 19 + f.p1 * 2 ^ 23 + f.split.toNat * 2 ^ 27 +
    reason * 2 ^ 28)

/-- A counter whose headroom is 8 or less is logged (R206). -/
def State.warnHeadroom (s : State) (c : Nat) : State :=
  let h := (counterShape c).2 - s.counterValue c
  if h ≤ 8 then s.emit 0x03 evSinterHeadroom (c + h * 256) else s

/-- The complete shadows that a test picks are discarded (R712). -/
def State.dropShadows (s : State) (f : RegionCfg → Bool) : State :=
  s.each (List.range 8) fun s r =>
    let g := s.regionOf r
    if g.shadow.any f then s.setRegion r { g with shadow := none, complete := false } else s

/-- The programming job ends (R195, R197, R203, R206, R219, R712): its outcome stands in PROG_RESULT and a scan follows. A
scan that still runs starts anew with it: one SINTER_SCAN_DONE ends both, and it stays the one of the end of phase 2 where it
was that one (DESIGN CHOICE, log 63: the spec does not say what overlapping scans do). -/
def State.endFuse (s : State) (num : Nat) (f : FuseJob) (status reason : Nat) : State :=
  let w := progResult f status reason
  let s1 := ((s.setReg 0x0307 0 w).setJob num (.fuse f)).endJob num status [w]
  let s2 : State := { s1 with sint := { s1.sint with scan := some (s1.sint.scan == some true) } }
  match f.counter with
  | none => s2
  | some c =>
    let s3 := if f.burnt then s2.warnHeadroom c else s2
    if c = 0 ∧ status = stDone then s3.dropShadows fun g => decide (g.secver < s3.counterValue 0) else s3

/-- The burn of a logical bit is complete: a revoke bit ends what its slot's key granted or signed, and the test access
port may close (R678, R706, R712, R863). A burnt ratchet bit is in force from now on (log 44). -/
def State.burnDone (s : State) (p : Nat × Nat) : State :=
  if p.1 ≠ 31 then s
  else
    let s1 := if p.2 = 23 ∨ p.2 = 24 then
        let k := p.2 - 23
        let signed := fun (t : Nat) (v : Verify) =>
          if (if t = 2 then field (s.flashBytes (targetBase 2) 0x100) 0x15 1 else manKeySlot (s.slotManifest t)) = k
          then ({} : Verify) else v
        let z : State := { s with img := { s.img with
          vA := signed 0 s.img.vA, vB := signed 1 s.img.vB, vS := signed 2 s.img.vS } }
        let z1 := z.dropShadows fun g => g.keySlot == some k
        if z1.sec.slot = k then z1.relock 2 else z1
      else s
    let d := if 20 ≤ p.2 ∧ p.2 ≤ 24 then insert 0 s1.sint.dlv 31 ((s1.dlvRow 31).setBit p.2 true) else s1.sint.dlv
    ({ s1 with sint := { s1.sint with dlv := d } } : State).closeTap

/-- The programming job, if one runs. -/
def State.fuseRun (s : State) : Option (Nat × FuseJob) := s.jobs.running.findSome? fun j => match j.kind with
  | .fuse f => some (j.num, f)
  | _ => none

/-- A copy is finished, verified or not: the job goes on to the other copy, to the next bit, or ends (R192, R195). -/
def State.copyDone (s : State) (num : Nat) (f : FuseJob) (p : Nat × Nat) : State :=
  if f.copy = 0 ∧ !s.copyBit 1 p then s.setJob num (.fuse { f with copy := 1, pulses := 0 })
  else if !s.copyBit 0 p && !s.copyBit 1 p then s.endFuse num f stFuseFail 1
  else
    let split := s.copyBit 0 p != s.copyBit 1 p
    let g : FuseJob := { f with todo := f.todo.drop 1, pulses := 0, split := f.split || split, burnt := true }
    let s1 := (if split then s.emit 0x03 evSinterSplit (p.1 + p.2 * 256) else s).burnDone p
    match g.todo with
    | [] => s1.endFuse num g stDone 0
    | q :: _ => s1.setJob num (.fuse { g with copy := s1.firstCopy q })

/-- FUSE_STEP (R192 to R201, R162, R206, R219, R678, R706, R712): one pulse with its verify read, if it ends no later than
cycle P − 1; SYS.TEMP is read before it. With PGM_SOURCE = 0 and PUMP_DISABLE = 1 no pulse reaches the fuse, and the copy
does not verify (log 63). Steps may start until the RESTART that a SOFT_RESET asked for (DESIGN CHOICE, log 63: R208 says
only that the reset takes effect once the step in progress has ended). -/
def execFuseStep (verified : Bool) (s : State) : Host.Outcome State Fault Refusal :=
  .next (match s.fuseRun with
    | none => s
    | some (num, f) =>
      match f.todo with
      | [] => s
      | p :: _ =>
        if !s.stepFits then s
        else if !s.tempOk then s.endFuse num f stFuseFail 2
        else
          let s1 := s.elapse s.stepCycles
          let verified := verified && s.canPulse
          let s2 := if verified then s1.burnCopy f.copy p else s1
          let same := f.last == p
          let n := f.pulses + 1
          let g : FuseJob := { f with pulses := n, last := p, burnt := f.burnt || verified,
                                      p0 := (if same then f.p0 else 0) + (f.copy == 0).toNat,
                                      p1 := (if same then f.p1 else 0) + (f.copy == 1).toNat }
          if verified || n == 8 then s2.copyDone num { g with steps := g.steps + 1 } p
          else s2.setJob num (.fuse g))

/-! ### Scans -/

/-- The bits of a row whose copies differ. -/
def State.splitBits (s : State) (r : Nat) : Nat :=
  let x := s.fuseCopy false r ^^^ s.fuseCopy true r
  ((List.range 32).filter fun b => x.bit b).length

/-- SINTER_SCAN_DONE (R203 to R206): the scan in progress ends: the count of split bits and the lowest row with one are
stored, a rise is logged, and after the scan at the end of phase 2 the counters with little headroom. -/
def execSinterScanDone (s : State) : Host.Outcome State Fault Refusal :=
  .next (match s.sint.scan with
    | none => s
    | some boot =>
      let n := ((List.range 64).map s.splitBits).foldl (· + ·) 0
      let first := ((List.range 64).find? fun r => s.splitBits r != 0).getD 0xFF
      let s1 := (s.setReg 0x0303 0 (Word.of n)).setReg 0x0304 0 (Word.of first)
      let s2 := if s.sint.prev < n then s1.emit 0x03 evSinterSplit (first + 0xFF * 2 ^ 8 + n * 2 ^ 16) else s1
      let s3 : State := { s2 with sint := { s2.sint with scan := none, prev := n } }
      if boot then s3.each [0, 1, 2, 3] State.warnHeadroom else s3)

end Sys2Proof.Machine
end

