-- ==== Sys2Proof/Machine/Image.lean ====
section
/-! DEFINITION. Image work on boot flash (chapter 15): targets, verify states, the marker log, and the commands
IMAGE_ERASE_DONE, IMAGE_WRITE_DONE, IMAGE_VERIFY_DONE and MARKER_BLOCK_ERASE. -/

namespace Sys2Proof.Machine

/-- The verify state of a target (R705). -/
def State.verify (s : State) (t : Nat) : Verify := if t = 0 then s.img.vA else if t = 1 then s.img.vB else s.img.vS

/-- The state with a target's verify state replaced. -/
def State.setVerify (s : State) (t : Nat) (v : Verify) : State :=
  if t = 0 then { s with img := { s.img with vA := v } }
  else if t = 1 then { s with img := { s.img with vB := v } }
  else { s with img := { s.img with vS := v } }

/-- A range of boot flash is erased: every byte reads 0xFF. -/
def State.eraseFlash (s : State) (a n : Nat) : State :=
  { s with img := { s.img with flash := s.img.flash.filter fun c => c.1 < a || a + n ≤ c.1 } }

/-- Words written to boot flash. -/
def State.writeFlash (s : State) (a : Nat) (ws : List Word) : State :=
  s.writeBytes State.setFlashByte a (ws.flatMap Word.bytes)

/-- The image job that runs, if one does (R278). -/
def State.imageJob (s : State) : Option Job := s.jobs.running.find? fun j => match j.kind with
  | .imageOpen .. | .imageWrite .. | .imageVerify _ => true
  | _ => false

/-- IMAGE_ERASE_DONE (R314): the open job has erased its target and ends DONE. -/
def execImageEraseDone (s : State) : Host.Outcome State Fault Refusal :=
  .next (match s.imageJob with
    | some j => match j.kind with
      | .imageOpen t _ => (s.eraseFlash (targetBase t) (targetSize t)).endJob j.num stDone []
      | _ => s
    | none => s)

/-- IMAGE_WRITE_DONE (R315): a write that the flash needed longer for has ended. -/
def execImageWriteDone (s : State) : Host.Outcome State Fault Refusal :=
  .next (match s.imageJob with
    | some j => match j.kind with
      | .imageWrite a ws => (s.writeFlash a ws).endJob j.num stDone []
      | _ => s
    | none => s)

/-- The result of an IMAGE_VERIFY of the staging area: its header, its signature, its hash (R316, R654, R724). -/
def State.stagingChecks (s : State) (readErr : Bool) : Nat :=
  let img := s.loadImage 0 true
  if s.img.manifest.isEmpty then 3
  else if readErr || !imgHeaderOk img then 2
  else if s.regBit 0x0005 0 2 || !s.imgAuth img then 3
  else if !imgHashOk img then 6 else 1

/-- The result of an IMAGE_VERIFY of a slot: checks 1 to 5 in order (R316). -/
def State.verifyChecks (s : State) (t : Nat) (readErr : Bool) : Nat :=
  if s.regBit 0x0005 0 2 then (if readErr || !manifestOk (s.slotManifest t) then 2 else 3)
  else s.slotChecks t readErr true

/-- The job outcome that a result code of Table BOOT-5 gives (R316). -/
def verifyStatus (code : Nat) : Nat :=
  if code = 1 then stDone else if code = 3 ∨ code = 6 then stDenied else stIncompatible

/-- IMAGE_VERIFY_DONE (R316, R694, R705, R724): the verify job ends with its outcome, and the target keeps its result. A
wrong data strobe on XSPI0 is counted and logged (R752). -/
def execImageVerifyDone (readErr : Bool) (s : State) : Host.Outcome State Fault Refusal :=
  .next (match s.imageJob with
    | some j => match j.kind with
      | .imageVerify t =>
        let code := if t = 2 then s.stagingChecks readErr else s.verifyChecks t readErr
        let s1 := if readErr then (s.bump 0x3A08).emit 0x3A evXspiStrobe 0 else s
        (s1.setVerify t { code := code, good := true }).endJob j.num (verifyStatus code) [Word.of code]
      | _ => s
    | none => s)

/-! ### The marker log (R686 to R690) -/

/-- The lowest erased record location of a marker block. -/
def State.erasedAt (s : State) (block : Nat) : Option Nat :=
  let used := s.markerUsed
  (List.range 2048).findSome? fun i => if used.contains (2048 * block + i) then none else some (2048 * block + i)

/-- Where the next record goes: the block of the current marker, else the other block. -/
def State.nextRecord (s : State) : Option Nat :=
  let block := match s.marker with
    | none => 0
    | some m => m.1 / 2048
  (s.erasedAt block).or (s.erasedAt (1 - block))

/-- The bytes of a record (Table IMG-2). -/
def recordBytes (mseq : Word) (slot : Nat) : List Byte :=
  let head : List Byte := [0x4C, 0x4E, 0x4D, 0x4B] ++ mseq.bytes ++ [BitVec.ofNat 8 slot, ~~~(BitVec.ofNat 8 slot)] ++
    List.replicate 18 0
  head ++ (crc32c head).bytes

/-- MARKER_BLOCK_ERASE (R689): a marker block with no erased location and no current marker is erased. -/
def execMarkerBlockErase (block : Bool) (s : State) : Host.Outcome State Fault Refusal :=
  let b := block.toNat
  let holds := match s.marker with
    | none => false
    | some m => m.1 / 2048 == b
  .next (if !s.alive || holds || (s.erasedAt b).isSome then s else s.eraseFlash (0x10000 * b) 0x10000)

end Sys2Proof.Machine
end

