-- ==== Sys2Proof/WellFormed.lean ====
section
/-! DEFINITION. Which commands are well formed: the bounds that the operand types do not state themselves. -/

namespace Sys2Proof

/-- The words of a request fit its LEN field (Table CMD-1). -/
def wfWords (ws : List Word) : Bool := decide (ws.length ≤ 255)

/-- A packet's length is 8 + 4 × LEN bytes, from 8 to 1,028 (R220). -/
def wfPacket (bs : List Byte) : Bool :=
  decide (8 ≤ bs.length) && decide (bs.length ≤ 1028) &&
    decide (bs.length = 8 + 4 * (bs.getD 3 0).toNat)

/-- A critical region's read has one word per row of the region (Table SINT-1). -/
def wfRows (n : Nat) : Option (List Word) → Bool
  | none => true
  | some rs => decide (rs.length = n)

/-- So has a read of both copies. -/
def wfCopies (n : Nat) : Option (List (Word × Word)) → Bool
  | none => true
  | some rs => decide (rs.length = n)

/-- The rows of each critical region. -/
def FuseRegion.rows : FuseRegion → Nat
  | .trim => 16
  | .option => 4
  | .security => 12

/-- Terms and residue lie within Table CONV-1 and Table CONV-5. -/
def wfMeas (m : SliceMeas) : Bool :=
  decide (-32768 ≤ m.o ∧ m.o ≤ 32767 ∧ -32768 ≤ m.g ∧ m.g ≤ 32767 ∧ -2048 ≤ m.t ∧ m.t ≤ 2047 ∧ m.r < 4096)

/-- A slice code lies within 14 bits at quarter-LSB resolution (R469). -/
def wfCode (x : Int) : Bool := decide (-32768 ≤ x ∧ x < 32768)

/-- A private TAP code is one of 0x80 to 0xFE (Table PKG-4). -/
def wfPrivate (c : BitVec 8) : Bool := decide (0x80 ≤ c.toNat ∧ c.toNat ≤ 0xFE)

/-- The commands whose operands lie in the ranges their rules give. -/
def Instr.wellFormed : Instr → Bool
  | .ident _ ws | .status _ ws | .poll _ ws | .echo _ ws | .nop _ ws | .get _ ws | .set _ ws | .setNow _ ws
  | .setGroup _ ws | .cancelPending _ ws | .unitReset _ ws | .unitState _ ws | .planLoad _ ws | .planSwap _ ws
  | .regionLoad _ ws | .regionSwap _ ws | .coefLoad _ ws | .coefSwap _ ws | .convert _ ws | .fuseRead _ ws
  | .fuseProg _ ws | .counterRead _ ws | .counterAdvance _ ws | .random _ ws | .imageOpen _ ws | .imageWrite _ ws _
  | .imageVerify _ ws | .imageActivate _ ws | .imageInfo _ ws | .logRead _ ws | .logClear _ ws
  | .softReset _ ws => wfWords ws
  | .debugUnlockResponse _ _ _ sig => decide (sig.length = 16)
  | .requestCommit _ _ bs => wfPacket bs
  | .sinterDelivery t o s => wfRows 16 t && wfRows 4 o && wfCopies 12 s
  | .trimReread r rows => wfRows r.rows rows
  | .wireCheck _ ms => decide (ms.length ≤ 24)
  | .calRotate _ m => wfMeas m
  | .coldStep _ terms resid => wfMeas (terms.with resid)
  | .resultWordDelivery _ _ _ smp => wfCode smp.x && wfCode smp.prev && wfCode smp.next
  | .fabPortInputWord _ kind n _ => decide (n.val < kind.count)
  | .fabricSramRequest _ addr _ _ | .sramEccUncorr addr => decide (addr.toNat < 2 ^ 23)
  | .linPublishResponse _ bs => decide (bs.length ≤ 9)
  | .uartStartBit _ es | .uartCharComplete _ es => es.Pairwise (· < ·)
  | .spiFirstByte bits _ => decide (8 ≤ bits.length ∧ bits.length ≤ 16)
  | .privateDebug c => wfPrivate c
  | .rngHealthFail before window => decide (before.length = 4 ∧ window.length = 4) &&
    window.all fun l => decide (0 < l.length ∧ l.length ≤ 1024)
  | .rngRetestEnd ss => decide (ss.length = 4) && ss.all fun l => decide (l.length ≤ 1024)
  | .rngRecovered seed | .drbgReseed seed => decide (seed.a.length = 1024 ∧ seed.b.length = 1024)
  | _ => true

end Sys2Proof
end

