-- ==== Sys2Proof/Machine/Boot.lean ====
section
/-! DEFINITION. Reset, start-up and restart (chapters 3, 4, 18): RST_N_ASSERT, RST_N_RELEASE, SINTER_DELIVERY, PLL_LOCK,
TRIM_REREAD, SLOT_ATTEMPT, SLOT_ATTEMPT_TIMEOUT, REFERENCES_SETTLED, PHASE3_TIMEOUT, RESTART and POWER_UP. -/

namespace Sys2Proof.Machine

/-! ### What a reset keeps -/

/-- What a start-up finds of the register file: the clamp flags, which follow their pins, and, at a restart other than by
RST_N, the transport counters and the log's counters (R151, R270, R379, R424). -/
def keptRegister (hard : Bool) (p : Nat × Word) : Bool :=
  let id := p.1 / 256
  id == 0x1B17 || (!hard && ((0x3D02 ≤ id && id ≤ 0x3D08) || (0x0601 ≤ id && id ≤ 0x0603)))

/-- Work on fuses and flash that the reset interrupts: a copy being pulsed, where a step can be in progress now (R198),
may read 0 or 1 afterwards (R209), an erase
or a write is partly done (R716). What they leave is a free value (log 3). -/
def State.interrupt (s : State) (hard : Bool) : State :=
  let k := Config.cutWords s.free
  let s1 := match s.imageJob with
    | none => s
    | some j => match j.kind with
      | .imageOpen t _ => s.eraseFlash (targetBase t) (min (0x10000 * k) (targetSize t))
      | .imageWrite a ws => s.writeFlash a (ws.take k)
      | _ => s
  let s2 := match s1.fuseRun with
    | none => s1
    | some (_, f) => match f.todo with
      | [] => s1
      | p :: _ =>
        if hard && s.stepFits && s.tempOk && s.canPulse && Config.cutCopy s.free then s1.burnCopy f.copy p else s1
  s2.useFree 1

/-- The machine at the start of phase 1, or with RST_N low (R113, R150, R151, R238, R344, R445): every register at its
At-reset value, fuses, flash and external memory as they stand, and, at a restart other than by RST_N, the log and each
transport's last SEQ and stored reply. -/
def State.freshStart (s0 : State) (hard : Bool) : State :=
  let s := s0.interrupt hard
  { State.reset with
    pending := s.pending
    now := s.now
    free := s.free
    regs := s.regs.filter (keptRegister hard)
    fuma := if hard then {} else s.fuma
    tr := if hard then [] else
      ofPairs {} (s.tr.map fun p => (p.1, ({ last := p.2.last, stored := p.2.stored } : TrSt)))
    sint := { copy0 := s.sint.copy0, copy1 := s.sint.copy1 }
    wire := { iso := s.wire.iso, high := s.wire.high, relT := s.wire.relT }
    img := { flash := s.img.flash }
    mem := { psram := s.mem.psram, moved := (0, 0) }
    pwr := { vioH := s.pwr.vioH, vioM := s.pwr.vioM, ana := s.pwr.ana }
    tap := { s.tap with ir := 1, captured := 0x3048096B } }

/-- The boot straps are sampled (R114, R117, R250). -/
def State.strap (s : State) (b : BitVec 2) : State :=
  let uart := if b.getLsbD 0 then (1 : Word) else 0
  ((s.setReg 0x0003 0 (b.setWidth 32)).setReg 0x3000 0 uart).setReg 0x3D00 0 uart

/-- Phase 1 begins now. -/
def State.beginPhase1 (s : State) (b : BitVec 2) : State :=
  let s1 := s.strap b
  { s1 with boot := { s1.boot with phase := .phase1, began := s1.now } }

/-- RST_N_ASSERT (R112, R113, R151, R209, R238, R266, R716, R717, R863, R876): RST_N low for `ns` nanoseconds. Below 50 ns
it is ignored; for 50 ns to 1 µs nothing is stated. -/
def execRstNAssert (ns : Nat) (s : State) : Host.Outcome State Fault Refusal :=
  if ns < 50 then .next s
  else if ns < 1000 then .fault .rstPulseUnstated
  else .next (s.freshStart true)

/-- RST_N_RELEASE (R114, R113, R117, R20): the rising edge of RST_N samples the straps and starts phase 1. -/
def execRstNRelease (bootsel : BitVec 2) (s : State) : Host.Outcome State Fault Refusal :=
  .next (if s.boot.phase = .held then s.beginPhase1 bootsel else s)

/-- RESTART (R150, R283, R317, R327, R208, R114, R151, R279): the restart that a SOFT_RESET or an IMAGE_ACTIVATE asked for,
once its reply is ready. -/
def execRestart (bootsel : BitVec 2) (s : State) : Host.Outcome State Fault Refusal :=
  .next (match s.boot.restart with
    | none => s
    | some (cause, n) =>
      if (s.trOf n).exec.isSome then s
      else
        let s1 := ((s.freshStart false).beginPhase1 bootsel).setReg 0x0002 0 (Word.of cause)
        s1.emit 0x00 evSoftReset cause)

/-- POWER_UP (R830): VDD_CORE and a domain's own supply both exceed 0.5 V: the balls of the domain take their states of
Table BOOT-1. -/
def execPowerUp (d : Domain) (s : State) : Host.Outcome State Fault Refusal :=
  .next { s with pwr := match d with
    | .vioH => { s.pwr with vioH := true }
    | .vioM => { s.pwr with vioM := true }
    | .ana => { s.pwr with ana := true } }

/-! ### Sinter delivery (R177 to R184) -/

/-- Rows stand delivered from a first row on. -/
def State.deliver (s : State) (first : Nat) (rows : List Word) : State :=
  let d := ((List.range rows.length).zip rows).foldl (fun m p => insert 0 m (first + p.1) p.2) s.sint.dlv
  { s with sint := { s.sint with dlv := d } }

/-- The outcome of a region's check: 0 OK, 1 UNSEALED, 3 FAILED (R178). -/
def regionOutcome (trim security : Bool) (rows : List Word) : Nat :=
  if !regionSealed rows then (if trim then 3 else 1) else if regionCrcOk security rows then 0 else 3

/-- A region's outcome fails: its ALARM bit is set and SINTER_ALARM is logged (R179). -/
def State.alarm (s : State) (region outcome : Nat) : State :=
  if outcome = 3 then (s.setRegBit 0x0301 0 region true).emit 0x03 evSinterAlarm region else s

/-- The failing rows of SECURITY, from what the read found in each copy (R183). -/
def failingRows (read : List (Word × Word)) : List Nat :=
  let rows := (List.range 12).map (20 + ·)
  let split := rows.filter fun r => match read[r - 20]? with
    | some p => p.1 != p.2
    | none => false
  if split.isEmpty then rows else split

/-- SINTER_DELIVERY (R177 to R184, R118, R121, R123, R163, R214, R658, R863): the critical regions are read, checked and
delivered. An operand gives what the read finds, where it is not the fuses' own values: of TRIM and OPTION the rows, of
SECURITY the rows of each copy (R183). -/
def execSinterDelivery (trim option : Option (List Word)) (security : Option (List (Word × Word))) (s : State) : Host.Outcome State Fault Refusal :=
  let read := fun (first n : Nat) (o : Option (List Word)) => o.getD ((List.range n).map fun i => s.fuseRow (first + i))
  let t := read 0 16 trim
  let o := read 16 4 option
  let xs := security.getD ((List.range 12).map fun i => (s.fuseCopy false (20 + i), s.fuseCopy true (20 + i)))
  let x := xs.map fun p => p.1 ||| p.2
  let ot := regionOutcome true false t
  let oo := regionOutcome false false o
  let ox := regionOutcome false true x
  .next (if s.boot.phase != .phase1 || s.boot.delivered then s
    else
      let s1 := ((s.deliver 0 t).deliver 16 o).deliver 20 x
      let s2 := s1.setReg 0x0300 0 (Word.of (ot + oo * 4 + ox * 16))
      let s3 := ((s2.alarm 0 ot).alarm 1 oo).alarm 2 ox
      let s4 : State := { s3 with sint := { s3.sint with forced := ox == 3 },
                                  sec := { s3.sec with life := s3.counterValue 1 },
                                  boot := { s3.boot with delivered := true } }
      let s5 := if ox = 3 then
          let z := s4.setRegBit 0x0005 0 1 true
          if (failingRows xs).any fun r => 24 ≤ r && r ≤ 30 then z.setRegBit 0x0005 0 2 true else z
        else s4
      s5.closeTap)

/-! ### The end of phase 2 -/

/-- XSPI0.MODE that BOOT_XSPI selects (Table SINT-2, R748). -/
def State.bootXspi (s : State) : Nat :=
  let m := (s.dlvRow 16).bits 8 2
  if m = 3 then 0 else m

/-- What every end of phase 2 does (R203, R705, R748, Table BOOT-6). -/
def State.endPhase2 (s : State) : State :=
  let w := s.reg 0x0004
  let v := fun (c : Nat) => if c = 0 then ({} : Verify) else { code := c, good := true }
  let s1 := (s.setReg 0x0007 0 (Word.of (usOf (s.now - s.boot.began)))).setReg 0x3A01 0 (Word.of s.bootXspi)
  { s1 with img := { s1.img with vA := v (w.bits 0 4), vB := v (w.bits 4 4) },
            sint := { s1.sint with scan := some true } }

/-- The start-up transport is UART0 (Table BOOT-2). -/
def State.bootUart (s : State) : Bool := s.regBit 0x0003 0 0

/-- Units that are RUNNING in limited mode (R144). -/
def State.limitedRuns (s : State) (u : Nat) : Bool :=
  u == 0x01 || u == 0x03 || u == 0x06 || u == 0x3A || u == 0x3D || (u == 0x30 && s.bootUart)

/-- The device enters limited mode for a reason (R143 to R145). -/
def State.enterLimited (s : State) (reason : Nat) : State :=
  let s1 := s.endPhase2
  let s2 := s1.each allUnits fun s u => s.setUnit u { s.unit u with st := if s.limitedRuns u then .running else .off }
  let s3 : State := { s2 with boot := { s2.boot with phase := .limited, began := s2.now } }
  (s3.setRegBit 0x0606 0 1 true).emit 0x00 evBootLimited reason

/-- Some slot is still to be tried: the next one, 0 A or 1 B (R136, R152). -/
def State.nextSlot (s : State) : Option Nat :=
  let untried := fun k => (s.reg 0x0004).bits (4 * k) 4 == 0
  let first := match s.marker with
    | none => 0
    | some m => m.2.2 - 1
  if s.regBit 0x0003 0 1 then (if untried 0 then some 0 else none)
  else if untried first then some first
  else if untried (1 - first) then some (1 - first)
  else none

/-- A re-read of TRIM or OPTION is still to be made (R121). -/
def State.rereadDue (s : State) : Bool :=
  ((s.reg 0x0300).bits 0 2 == 3 && s.boot.rereads.1 < 3) || ((s.reg 0x0300).bits 2 2 == 3 && s.boot.rereads.2 < 3)

/-- SYS.TEMP takes the sensor's reading (R836, R837). -/
def State.takeTemp (s : State) (temp : BitVec 16) : State :=
  let new : Int := temp.toInt
  let hi := (s.reg 0x0016).signed 16
  let was := (s.reg 0x000E).signed 16
  let s1 := s.setReg 0x000E 0 (temp.setWidth 32)
  let s2 := if (s1.reg 0x0017).signed 16 < new then s1.setReg 0x0017 0 (temp.setWidth 32) else s1
  let rise : Bool := decide (hi ≤ new) && decide (was < hi)
  let s3 := if rise then s2.setRegBit 0x0018 0 2 true else s2
  let s4 := if rise && s.pwr.armed then s3.emit 0x00 evPwrTempHigh temp.toNat else s3
  { s4 with pwr := { s4.pwr with
    armed := if new ≤ hi - 32 then true else if rise then false else s4.pwr.armed } }

/-- PLL_LOCK (R22, R118, R120, R128, R163, R336, R424, R659, R813, R839, R840): the PLL locks within 40 µs of the start of
phase 1: the tick generator starts with the boundary of count 0 and phase 2 begins; a scrapped device enters limited
mode. That boundary takes the sensor's reading as every boundary does (R155, R836), and the lock fixes the reference
frequency for the run (R163). The first slot attempt counts its 70 ms from here, also where re-reads of TRIM or OPTION come
before it (DESIGN CHOICE, log 62). -/
def execPllLock (lock : Lock) (s : State) : Host.Outcome State Fault Refusal :=
  .next (if s.boot.phase != .phase1 || !s.boot.delivered then s
    else
      let s1 := s.elapse lock.dt
      if 16000 < s1.now - s1.boot.began then s1
      else
        let s2 := ((s1.setReg 0x0006 0 (Word.of (usOf (s1.now - s1.boot.began)))).setReg 0x001A 0
          (Word.of s1.fuseMhz)).takeTemp lock.temp
        let s3 : State := { s2 with
          cyc := 0
          tick := { s2.tick with running := true }
          pwr := { s2.pwr with locked := true }
          boot := { s2.boot with phase := .phase2, began := s2.now, tryT := s2.now } }
        let runs := [0x01, 0x03, 0x06, 0x3D] ++ (if s3.bootUart then [0x30] else [])
        let s4 := s3.each runs fun s u => s.setUnit u { s.unit u with st := .running }
        let s5 := s4.each ((List.range 24).filter fun p => s4.regBit 0x1B17 0 p) State.recordClamp
        if 3 ≤ s5.sec.life then s5.enterLimited (if s5.regBit 0x0005 0 2 then 2 else 3) else s5)

/-- TRIM_REREAD (R121, R180, R181, R143, R149): the boot ROM reads a failed region again; the third failure leaves its
values in force under the continue policy, or enters limited mode. -/
def execTrimReread (r : FuseRegion) (rows : Option (List Word)) (s : State) : Host.Outcome State Fault Refusal :=
  let k := match r with
    | .trim => 0
    | .option => 1
    | .security => 2
  let first := 16 * k
  let made := if k = 0 then s.boot.rereads.1 else s.boot.rereads.2
  let vals := rows.getD ((List.range r.rows).map fun i => s.fuseRow (first + i))
  .next (if s.boot.phase != .phase2 || k == 2 || (s.reg 0x0300).bits (2 * k) 2 != 3 || 3 ≤ made then s
    else
      let s1 : State := { s with boot := { s.boot with
        rereads := if k = 0 then (made + 1, s.boot.rereads.2) else (s.boot.rereads.1, made + 1) } }
      if regionOutcome (k == 0) false vals ≠ 3 then
        (s1.deliver first vals).setReg 0x0300 0 ((s1.reg 0x0300).setBits (2 * k) 2 2)
      else if made < 2 then s1
      else
        let s2 := s1.deliver first vals
        if !(s2.dlvRow 31).bit 17 then s2.setRegBit 0x0005 0 0 true
        else s2.enterLimited (if s2.regBit 0x0005 0 2 then 2 else 1))

/-! ### Slots -/

/-- A slot attempt has failed (R137, R140, R143). -/
def State.failSlot (s : State) (slot code : Nat) : State :=
  let s1 := s.setReg 0x0004 0 ((s.reg 0x0004).setBits (4 * slot) 4 code)
  let s2 : State := { s1.emit 0x00 evBootSlotFail (slot + 1 + code * 16) with boot := { s1.boot with tryT := s1.now } }
  match s2.nextSlot with
  | some _ => s2
  | none => s2.enterLimited (if s2.regBit 0x0005 0 2 then 2 else 0)

/-- The parameter records of an analog configuration that are values to apply (R696, R697). -/
def recordValues (recs : List (Word × Word × Word)) : List (Nat × Nat × Word) :=
  recs.filterMap fun r =>
    let id := r.1.bits 0 16
    match paramRow id with
    | some row => if r.1.bits 16 16 = 0 ∧ row.acc = .rw then some (id, r.2.1.toNat, r.2.2) else none
    | none => none

/-- A coefficient record takes effect (R696). -/
def State.loadCoef (s : State) (r : Word × Word × Word) : State :=
  if r.1.bits 16 16 = 0 then s
  else
    let f := r.1.bits 0 3
    let x := s.filtOf f
    s.setFilt f { x with coef := insert 0 x.coef (64 * r.1.bits 3 1 + r.2.1.toNat) r.2.2 }

/-- A region member is the region's configuration (R124, R695, R714); an empty member leaves none. -/
def State.loadRegion (slot : Nat) (s : State) (r : Nat) : State :=
  if (manMember (s.slotManifest slot) (3 + r)).length = 0 then s
  else (s.setRegion r { active := some (imgCfg (s.memberBytes slot (3 + r))) }).fabricInit r

/-- A unit as the end of phase 2 leaves it (R343, R695): WAKING where the set powers it, else OFF. -/
def State.powerAtBoot (powered : Nat → Bool) (s : State) (u : Nat) : State :=
  if fixedUnit u ∨ (u = 0x30 ∧ s.bootUart) then s
  else if powered u ∧ !(0x20 ≤ u ∧ u ≤ 0x27 ∧ (s.regionOf (u - 0x20)).active.isNone) then
    (s.setUnit u { st := .waking, checkT := s.now }).onWake u
  else s.setUnit u { checkT := s.now }

/-- A set that passed every check is loaded from a slot, and phase 3 begins (R124, R126, R135, R139, R343, R655, R697,
R705, R714). Its records for UART0 and HOST.UART_MAP apply too while UART0 is the start-up transport: R697 applies every
record, and R117 keeps the settings until the host changes them (DESIGN CHOICE, log 62). -/
def State.loadSet (s : State) (slot : Nat) : State :=
  let man := s.slotManifest slot
  let ws := wordsOfBytes (s.memberBytes slot 1)
  let recs := recordsOf (ws.drop 3)
  let auth := s.manAuth man
  let plan := planOf (wordsOfBytes (s.memberBytes slot 2))
  let w := ((s.reg 0x0004).setBits (4 * slot) 4 1).setBits 8 2 (slot + 1)
  let s1 := (s.setReg 0x0004 0 w).endPhase2
  let s2 := (s1.setRegBit 0x0005 0 3 (manMaxTested man < Config.stepping)).setRegBit 0x0005 0 4 (!auth)
  let s3 := s2.setReg 0x0405 0 (Word.of (if auth then manKeySlot man else 3))
  let s4 := s3.each (List.range 8) (State.loadRegion slot)
  let s5 := (s4.each recs State.loadCoef).applyValues (recordValues recs)
  let modes := [0, 1].filter fun n => (recordValues recs).any fun w =>
    w.1 == convUnit n * 256 + 1 || w.1 == convUnit n * 256 + 2
  let s5b := s5.each modes State.regrid
  let s6 := s5b.each allUnits (State.powerAtBoot fun u => (poweredUnits (ws.getD 0 0) (ws.getD 1 0)).contains u)
  { s6 with
    img := { s6.img with manifest := man }
    boot := { s6.boot with phase := .phase3, began := s6.now, refs := false, ended := false,
                           early := (manFlags man).testBit 0, plan := plan.map fun p => p.1,
                           period := (plan.map fun p => p.2).getD 50000 } }

/-- SLOT_ATTEMPT (R136 to R143, R152, R153, R120, R123, R748, R752): the boot ROM checks the slot that is next and loads
it, or records its result code and goes on. -/
def execSlotAttempt (slot : Side) (dt : Nat) (readErr : Bool) (s : State) : Host.Outcome State Fault Refusal :=
  let k := sideN slot
  .next (if s.boot.phase != .phase2 || s.rereadDue || s.nextSlot != some k then s
    else
      let s1 := s.elapse dt
      let s2 := if readErr && !s1.regBit 0x0005 0 2 then (s1.bump 0x3A08).emit 0x3A evXspiStrobe 0 else s1
      let late : Bool := decide (s2.boot.tryT + 28000000 ≤ s2.now)
      let code := s2.slotChecks k (readErr || late) (s2.ratchet 0)
      if code ≠ 1 then s2.failSlot k code
      else if !s2.setLoads k then s2.failSlot k 7
      else s2.loadSet k)

/-- SLOT_ATTEMPT_TIMEOUT (R138, R140): an attempt that has not passed 70 ms after it began fails with READ. -/
def execSlotAttemptTimeout (slot : Side) (dt : Nat) (s : State) : Host.Outcome State Fault Refusal :=
  let k := sideN slot
  .next (if s.boot.phase != .phase2 || s.rereadDue || s.nextSlot != some k then s
    else
      let s1 := (s.elapse dt).reach (s.boot.tryT + 28000000)
      s1.failSlot k (if s1.regBit 0x0005 0 2 then 8 else 2))

/-! ### Phase 3 -/

/-- Every converter that the set powers has converged (R125). -/
def State.allConverged (s : State) : Bool :=
  [0x08, 0x09].all fun u => (s.unit u).st == .off || s.regBit (u * 256 + 6) 0 0

/-- Phase 3 has ended (R125). -/
def State.phase3Over (s : State) : Bool :=
  s.boot.ended || (s.boot.refs && (s.boot.early || s.allConverged))

/-- REFERENCES_SETTLED (R124, R125): the references have settled; with early release phase 3 ends. -/
def execReferencesSettled (dt : Nat) (s : State) : Host.Outcome State Fault Refusal :=
  .next (if s.boot.phase != .phase3 || s.boot.refs then s
    else
      let s1 := s.elapse dt
      let s2 : State := { s1 with boot := { s1.boot with refs := true, ended := s1.boot.ended || s1.boot.early } }
      if s1.boot.early then s2.setRegBit 0x0005 0 5 true else s2)

/-- PHASE3_TIMEOUT (R125): phase 3 ends 40 ms after it began. -/
def execPhase3Timeout (dt : Nat) (s : State) : Host.Outcome State Fault Refusal :=
  .next (if s.boot.phase != .phase3 then s
    else
      let s1 := (s.elapse dt).reach (s.boot.began + 16000000)
      { s1 with boot := { s1.boot with ended := true } })

end Sys2Proof.Machine
end

