-- ==== Sys2Proof/Machine/Power.lean ====
section
/-! DEFINITION. The PLL in work and in doze (chapters 2, 18): PWR_PLL_UNLOCK, PWR_PLL_RELOCK, PLL_RESTART and PLL_RELOCK. -/

namespace Sys2Proof.Machine

/-- The lock indicator has dropped (R841, R849): the loss is recorded, counted and logged. -/
def State.loseLock (s : State) : State :=
  let s1 : State := { s with pwr := { s.pwr with locked := false, lostT := s.now } }
  ((((s1.setRegBit 0x0018 0 0 true).setRegBit 0x0018 0 1 true).bump 0x0019).emit 0x00 evPwrPllUnlock 0).refreshHold false

/-- PWR_PLL_UNLOCK (R841, R843, R848, R851, R56): the lock indicator drops outside a doze restart. -/
def execPwrPllUnlock (s : State) : Host.Outcome State Fault Refusal :=
  .next (if !s.alive || !s.pwr.locked || s.pwr.stopped then s else s.loseLock)

/-- PWR_PLL_RELOCK (R842): the indicator has been steady for 10 µs. -/
def execPwrPllRelock (dt : Nat) (s : State) : Host.Outcome State Fault Refusal :=
  .next (if !s.regBit 0x0018 0 0 then s
    else
      let s1 := (s.elapse dt).reach (s.pwr.lostT + 4000)
      let s2 : State := { s1 with pwr := { s1.pwr with locked := true } }
      (s2.setRegBit 0x0018 0 0 false).emit 0x00 evPwrPllRelock (usOf (s1.now - s1.pwr.lostT)))

/-- A class A trigger waits for its ready instant. -/
def State.trigPending (s : State) : Bool := [0, 1].any fun n => !(s.seqOf n).trigs.isEmpty

/-- PLL_RESTART (R96, R100): the PLL that doze has stopped restarts 40 µs before a wake boundary, or at once for a class A
trigger. -/
def execPllRestart (s : State) : Host.Outcome State Fault Refusal :=
  .next (if !s.pwr.stopped || s.pwr.restarting then s
    else if s.trigPending then { s with pwr := { s.pwr with restarting := true } }
    else if s.dozeNext then s
    else
      let s1 := s.reach (s.exactEnd - 16000)
      { s1 with pwr := { s1.pwr with restarting := true } })

/-- An instant of a clock that stopped at `from_` and goes on now: what came before the stop is shifted by the time it took,
what was to come in the next cycle since then comes now. -/
def State.shifted (s : State) (from_ t : Nat) : Nat := if t ≤ from_ then t + (s.now - from_) else s.now

/-- A converter's sample grid and its cold step have stood still since the clocks stopped (R492), and so have the sampling
instants of a class A run that are still to come. -/
def State.shiftGrid (from_ : Nat) (s : State) (n : Nat) : State :=
  let x := s.convOf n
  let q := s.seqOf n
  (s.setConv n { x with
    grid := x.grid.map (s.shifted from_)
    cold := x.cold.map fun c => { c with start := s.shifted from_ c.start } }).setSeq n { q with
      a := q.a.map fun r => if from_ ≤ r.t then { r with t := r.t + (s.now - from_) } else r }

/-- A receiver hunts again only after a quiet line, and its idle timer goes on (R816). -/
def State.holdOff (s : State) (u : Nat) : State :=
  let x := s.uartOf u
  if s.isActive (0x30 + u) then
    s.setUart u { x with waits := true, waitT := s.now, highT := x.highT + (s.now - s.pwr.lostT), txT := max x.txT s.now }
  else s

/-- The clocks run again after doze (R96, R100, R492, R816): the sample grids go on from where they stopped, and class A
triggers that have waited are ready now, and the fabric lines restart (R640). -/
def State.clocksResume (s : State) : State :=
  let s1 := s.each [0, 1] (State.shiftGrid s.pwr.lostT)
  let s2 := s1.each [0, 1] fun s n =>
    s.setSeq n { s.seqOf n with trigs := (s.seqOf n).trigs.map fun t => { t with ready := max t.ready s.now } }
  let s3 := s2.each (List.range 4) State.holdOff
  ({ s3 with pwr := { s3.pwr with stopped := false, restarting := false } } : State).each (List.range 6) State.restartLine

/-- PLL_RELOCK (R96, R492, R816, R839): the restarted PLL has relocked. -/
def execPllRelock (s : State) : Host.Outcome State Fault Refusal :=
  .next (if !s.pwr.restarting then s
    else
      let s1 := s.clocksResume
      { s1 with pwr := { s1.pwr with locked := true } })

end Sys2Proof.Machine
end

