-- ==== Sys2Proof/Machine/Tbus.lean ====
section
/-! DEFINITION. The tick bus (chapter 2): where a follower's boundary falls, and the commands TICK_PULSE, TICK_EDGE,
GUARD_EXPIRY and MISSED_EDGE. -/

namespace Sys2Proof.Machine

/-! ### Missed edges, lock and loss -/

/-- LOCKED is set or cleared (R78, R90). ABSENT and its ALERT_N end when it is set (R87). -/
def State.setLocked (s : State) (b : Bool) : State :=
  let s1 := s.setRegBit 0x0209 0 0 b
  if b then (s1.setRegBit 0x0209 0 2 false).setRegBit 0x0606 0 0 false else s1

/-- No edge has fallen inside the search window around `t` (R85): the missed edge is counted, and after ABSENT_TICKS
consecutive ones the master counts as absent. -/
def State.missEdge (s : State) : State :=
  let s1 := s.bump 0x020C
  let n := s1.tbus.missed + 1
  let s2 : State := { s1 with tbus := { s1.tbus with missed := n, expired := none } }
  if s2.regN 0x0205 ≤ n ∧ !s2.absent then
    ((s2.setRegBit 0x0209 0 2 true).setRegBit 0x0606 0 0 true).emit 0x02 evTbusAbsent (s2.regN 0x0205)
  else s2

/-- A search window that is still open and ends before `e` has passed without an edge. -/
def State.closeWindow (s : State) (e : Nat) : State :=
  match s.tbus.expired with
  | some t => if t + s.search < e then s.missEdge else s
  | none => s

/-- Synchronisation is lost by `e` cycles (R82, R90, R102). -/
def State.loseSync (s : State) (e : Int) : State :=
  let s1 := ((s.setRegBit 0x0209 0 1 true).bump 0x020B).setLocked false
  let s2 : State := { s1 with tbus := { s1.tbus with missed := 0, expired := none, awake := true } }
  s2.emit 0x02 evTbusSyncLost (intBits e 32)

/-- The guard window has passed without an edge: the boundary falls at T + G, its tick is dropped (R81). -/
def State.expire (s : State) : State :=
  let t := s.predicted
  let s1 := (s.closeWindow (t + s.guard)).setLocked false
  { s1 with tbus := { s1.tbus with place := some (t + s.guard, true), aim := some t } }

/-! ### Realignment (R82 to R84) -/

/-- The follower's boundary at the start of this tick differs from its master's by `e` cycles: the next boundary goes to
it at once, or by at most SLEW_MAX cycles a tick. -/
def State.steer (s : State) (e : Int) : State :=
  let next : Int := (s.exactEnd : Nat)
  if s.reg 0x0203 = 0 then
    { s with tbus := { s.tbus with place := some ((next + e).toNat, false), slew := 0, realign := false } }
  else
    let m : Int := s.regN 0x0204
    let step := max (-m) (min m e)
    let rest := e - step
    if rest.natAbs ≤ s.guard then
      { s with tbus := { s.tbus with place := none, slew := step, realign := false } }
    else { s with tbus := { s.tbus with
      place := some ((next + step).toNat, true), slew := step, resid := rest, realign := true } }

/-- An edge inside the guard window places the boundary (R78, R80, R106): while ABSENT is set it leaves COUNT_DELTA as it
is. -/
def State.placeEdge (s : State) (e : Nat) (marked : Bool) : State :=
  let s1 := s.setLocked true
  let s2 : State := { s1 with tbus := { s1.tbus with
    place := some (e, false), aim := none, edged := true, missed := 0, realign := false, expired := none, early := none } }
  if marked && !s.absent then
    (s2.setReg 0x020A 0 (Word.of (s.countAt 1 % 256))).setRegBit 0x0209 0 5 true
  else s2

/-- An edge lies inside the guard window of a boundary that a jump, a slew or the free run of R86 has placed or passed
already: the follower is locked, that boundary stays where it is, and R106 leaves COUNT_DELTA as it is. -/
def State.confirmEdge (s : State) : State :=
  let s1 := s.setLocked true
  { s1 with tbus := { s1.tbus with missed := 0, realign := false, expired := none } }

/-- An edge outside the guard window lies `e` cycles from the prediction that it belongs to. It is a loss of
synchronisation (R82), but for an edge that a realignment by slew expects there (R84): one within G of the error `hope`
that the slew has left (DESIGN CHOICE, log 51). -/
def State.offEdge (s : State) (hope : Option Int) (e : Int) : State :=
  match hope with
  | some h =>
    if (e - h).natAbs ≤ s.guard then { s with tbus := { s.tbus with missed := 0, expired := none } } else s.loseSync e
  | none => s.loseSync e

/-! ### Edges -/

/-- The prediction that an edge of the coming boundary is measured from. -/
def State.aimed (s : State) : Nat :=
  match s.tbus.aim, s.tbus.place with
  | some t, _ => t
  | none, some p => p.1
  | none, none => s.predicted

/-- An edge that belongs to the boundary that began this tick and came without it (R82, R85, R86): `t` is its
prediction. -/
def State.lateEdge (s : State) (t e : Nat) : State :=
  let d : Int := (e : Int) - t
  if d.natAbs ≤ s.guard then
    let s1 := s.confirmEdge
    { s1 with tbus := { s1.tbus with place := none, slew := 0 } }
  else (s.offEdge s.tbus.hope d).steer ((e : Int) - s.tickStart)

/-- An edge that belongs to the coming boundary (R78, R82 to R84, R86). One outside the guard window realigns the tick
that starts there; the first edge decides. -/
def State.nextEdge (s : State) (e : Nat) (marked : Bool) : State :=
  let t := s.aimed
  let d : Int := (e : Int) - t
  let free : Bool := s.tbus.place.isNone || s.tbus.realign
  if s.tbus.edged || s.tbus.early.isSome then s
  else if d.natAbs ≤ s.guard then (if free then s.placeEdge e marked else
    let s1 := s.confirmEdge
    { s1 with tbus := { s1.tbus with edged := true } })
  else if d.natAbs ≤ s.search ∨ s.absent then
    let s1 := if s.tbus.place.isNone && !s.absent && decide ((t : Int) < e) then s.expire else s
    let s2 := s1.offEdge (if s.tbus.realign then some s.tbus.resid else none) d
    { s2 with tbus := { s2.tbus with early := some e } }
  else s

/-- What an edge with the compensated instant `e` does while the follower hunts, is without its master, or tracks it. An
edge met while ABSENT is set, outside the search window of the boundary that has passed, is measured from that boundary in
the first half of the period and from the coming one in the second (DESIGN CHOICE, log 51: R86 does not say to which T it
belongs). An edge within G of a boundary that has passed sets LOCKED and leaves that boundary where it is. -/
def State.meetEdge (s0 : State) (e : Nat) (marked : Bool) : State :=
  let s := s0.closeWindow e
  if s.hunting then
    let s1 := s.setRegBit 0x0209 0 3 false
    { s1 with tbus := { s1.tbus with place := some (e + s.period, false), missed := 0 } }
  else match s.tbus.expired with
  | some t => s.lateEdge t e
  | none =>
    if s.absent && s.tbus.place.isNone && decide (2 * (e - s.tickStart) ≤ s.period) then s.lateEdge s.tickStart e
    else s.nextEdge e marked

/-! ### Commands -/

/-- TICK_PULSE (R72 to R76, R98, R869, R881): a master drives its balls for the 32 cycles around its boundary; one that reads
TICK_IO low at the eighth cycle releases them, but for a level that a test instruction forces. The end of the pulse is
TICK_BOUNDARY's. -/
def execTickPulse (low : Bool) (s : State) : Host.Outcome State Fault Refusal :=
  .next (if s.reg 0x0200 != 1 || !s.isActive 0x02 || s.tbus.quiet || s.tbus.io then s
    else
      let s1 := s.reach (s.tickEnd - 16)
      let s2 : State := { s1 with tbus := { s1.tbus with io := true, aux := s1.countAt 1 % 256 == 0 } }
      if low && !s.tapOverrides then
        let s3 := (s2.reach (s2.tickEnd - 9)).setRegBit 0x0209 0 6 true
        ({ s3 with tbus := { s3.tbus with io := false, aux := false, quiet := true } } : State).emit 0x02 evTbusContend 0
      else s2)

/-- TICK_EDGE (R77 to R80, R82 to R88, R98, R102, R105, R106, R148): the follower samples a rising edge on TICK_IO. In doze it
checks the edges of wake ticks: of a coming one, and of one that has come without its edge. -/
def execTickEdge (dt : Nat) (marked : Bool) (s : State) : Host.Outcome State Fault Refusal :=
  let s1 := s.elapse dt
  let e := s1.now + 16 - s1.regN 0x0206
  .next (if !s1.tracking then s1
    else if s1.dozeNext && s1.tbus.expired.isNone then s1
    else if s1.dozeNext && (s1.closeWindow e).tbus.expired.isNone then s1.closeWindow e
    else s1.meetEdge e marked)

/-- GUARD_EXPIRY (R81, R90): no edge has fallen inside the guard window. -/
def execGuardExpiry (s : State) : Host.Outcome State Fault Refusal :=
  .next (if s.unplaced then (s.reach (s.predicted + s.guard)).expire else s)

/-- MISSED_EDGE (R85, R98): no edge has fallen inside the search window either. -/
def execMissedEdge (s : State) : Host.Outcome State Fault Refusal :=
  .next (match s.tbus.expired with
    | none => s
    | some t => (s.reach (t + s.search)).missEdge)

end Sys2Proof.Machine
end

