-- ==== Sys2Proof/Machine/Tick.lean ====
section
/-! DEFINITION. The boundary (chapter 1): the cut, the count, what takes effect at cycle 0, the commit at cycle 128, and the
command TICK_BOUNDARY, which carries the device from its boundary to cycle 128 (log 2). -/

namespace Sys2Proof.Machine

/-! ### The cut (R45 to R48, Table TICK-3) -/

/-- The class that an item's work has at the cut: 1 A, 2 B, 3 C (R40). -/
def State.itemClass (s : State) (r : RunItem) : Nat :=
  if r.item.action = 1 then
    match (s.seqOf (r.item.unit - 0x0A)).bc with
    | some b => if b.item = some r.idx then entryClass (s.entry (r.item.unit - 0x0A) b.first) else 1
    | none => 1
  else 2

/-- The sequencers whose class B or C run no item has started. -/
def State.looseRuns (s : State) : List Nat := [0, 1].filter fun n => match (s.seqOf n).bc with
  | some b => b.item.isNone
  | none => false

/-- The queues whose drain, and the channels whose burst, no item has started. -/
def State.looseDrains (s : State) : List Nat := (List.range 16).filter fun q => match (s.queue q).burst with
  | some (_, none) => true
  | _ => false
def State.looseBursts (s : State) : List Nat := (List.range 24).filter fun n => (s.dmaOf n).burst == some none

/-- A class A run or trigger goes on without the item that started it (R41, R60). -/
def State.freeTriggers (s : State) (n : Nat) : State :=
  let q := s.seqOf n
  s.setSeq n { q with trigs := q.trigs.map fun t => { t with item := none },
                      a := q.a.map fun r => { r with item := none } }

/-- The lowest-numbered of the dropped plan items, with its unit, or 0xFF for both (R47). -/
def State.lowest (s : State) (idx : List Nat) : Nat :=
  match idx.foldl (fun (m : Option Nat) i => some (match m with
    | none => i
    | some k => min k i)) none with
  | none => 0xFF * 2 ^ 16 + 0xFF * 2 ^ 24
  | some i => i * 2 ^ 16 + (match s.tick.plan.bind fun p => p.items[i]? with
    | none => 0xFF
    | some it => it.unit) * 2 ^ 24

/-- Items of the plan that the period did not reach are counted (R62). -/
def State.countUnreached (s : State) : State :=
  if !s.released || s.tick.noWork then s
  else match s.tick.plan with
  | none => s
  | some p => s.bumpBy 0x0108 0 (p.items.filter fun it => decide (s.period ≤ it.offset)).length

/-- A step of the running image job is cut: it is done again in full later, so that only the count shows it (R40, R43,
R46; log 23). -/
def State.imageCut (s : State) : Bool := s.imageJob.isSome && Config.imageStepCut s.free

/-- Unfinished class B and C work of the ending tick is dropped, counted and logged (R43, R45 to R49, R59, R60, R64). -/
def State.cut (s : State) : State :=
  let mine := s.tick.items.filter fun r => s.itemClass r != 1
  let runC := s.looseRuns.filter fun n => match (s.seqOf n).bc with
    | some b => entryClass (s.entry n b.first) == 3
    | none => false
  let nc := (mine.filter fun r => s.itemClass r == 3).length + runC.length + s.looseDrains.length +
    s.looseBursts.length + s.imageCut.toNat
  let nb := (mine.filter fun r => s.itemClass r == 2).length + (s.looseRuns.length - runC.length) +
    s.tick.skip.length
  let data := min nb 255 + min nc 255 * 256 + s.lowest (mine.map RunItem.idx ++ s.tick.skip)
  let s1 := (if s.imageJob.isSome then s.useFree 1 else s).countUnreached
  let s2 := s1.each mine State.dropItem
  let s3 := s2.each s.looseRuns State.dropRun
  let s4 := (s3.each s.looseDrains State.cutDrain).each s.looseBursts State.cutBurst
  let s5 := s4.each [0, 1] State.freeTriggers
  let s6 : State := { s5 with
    tick := { s5.tick with items := [], fired := [], skip := [] }
    mem := { s5.mem with rings := s5.mem.rings.map fun r => { r with item := none } } }
  let s7 := (s6.bumpBy 0x0106 0 nb).bumpBy 0x0107 0 nc
  if nb + nc = 0 then s7 else s7.emit 0x01 evTickLate data

/-! ### The new tick begins -/

/-- What a follower does after its boundary `b`, whether its tick is dropped with it (R82 to R86): an edge outside the guard
window that belongs to it realigns, else an error that is left does; the search window of a boundary that was checked and
came without an edge stays open. A master's pulse ends (R73). `checked` says that the follower looked for an edge. -/
def State.tbusTurn (s : State) (b : Nat × Bool) (checked : Bool) : State :=
  let t := s.tbus
  let s1 : State := { s with tbus := { t with
    io := false, aux := false, place := none, aim := none, edged := false, early := none, slew := 0
    expired := if checked && !t.edged && t.early.isNone then some (t.aim.getD b.1) else none
    hope := if t.realign && b.2 then some t.resid else none
    awake := t.awake && (b.2 || s.hunting) } }
  match t.early with
  | some e => s1.steer ((e : Int) - b.1)
  | none => if t.realign && b.2 then s1.steer t.resid else s1

/-- The epoch of a unit at cycle 0 of the tick that begins (R350). -/
def State.markEpoch (s : State) (u : Nat) : State := s.setUnit u { s.unit u with epoch0 := (s.unit u).epoch }

/-- The tick generator's count of reference cycles goes on at a boundary `b` that it made while the clocks stand (R94). -/
def State.countRefs (s : State) (b : Nat) : State :=
  if s.pwr.stopped then
    { s with pwr := { s.pwr with refs := s.pwr.refs + s.refCycles, acc := s.refRest, lag := s.exactEnd - b } }
  else { s with pwr := { s.pwr with lag := 0 } }

/-- A cell with DOZE_OFF is off from now on, its output not driven, where the time to the next wake boundary exceeds the lead
it needs (R410). -/
def State.dozeCell (ahead : Nat) (s : State) (c : Nat) : State :=
  let x := s.cell c
  if s.regBit 0x180A c 0 && s.reg 0x1800 c != 0 && !x.dozeOff && decide (s.dozeLead c < ahead) then
    (s.setCell c { x with dozeOff := true, powering := false, holding := false }).setReg 0x1809 c (s.reg 0x1809 c &&& 8)
  else s

/-- A character in progress is cut at the start of a doze tick (R816). -/
def State.dozeUart (s : State) (u : Nat) : State :=
  if (s.uartOf u).inChar then (s.setUart u { s.uartOf u with inChar := false }).bump ((0x30 + u) * 256 + 0x1A) else s

/-- The tick carries no plan work because of doze (R93, R94, R410, R816). -/
def State.beginDoze (s : State) : State :=
  let s1 := (s.setRegBit 0x0209 0 4 true).bump 0x020D
  let s2 := s1.each (List.range 16) (State.dozeCell (s.ticksToWake * s.period))
  let s3 := s2.each (List.range 4) State.dozeUart
  if s3.pwr.stopped then s3
  else { s3 with pwr := { s3.pwr with stopped := true, restarting := false, lostT := s3.now
                                      dozeT := s3.now, refs := 0, acc := 0 }
                 fclk := {} }

/-- The tick is none of doze (R90, R849): a PLL that has not relocked leaves it to the held clock, and a cell that is still
off powers up. -/
def State.endDoze (s : State) : State :=
  let s0 := s.setRegBit 0x0209 0 4 false
  let s1 := s0.each ((List.range 16).filter fun c => (s0.cell c).dozeOff) State.powerCell
  if s1.pwr.stopped then s1.clocksResume.loseLock else s1

/-- The device is released (R126, R128, R134, R148). -/
def State.release (s : State) : State :=
  let s1 : State := { s with boot := { s.boot with phase := .released } }
  let s2 := (s1.setReg 0x0008 0 (Word.of (usOf (s1.now - s1.boot.began)))).setUnit 0x04 { s1.unit 0x04 with st := .running }
  if s2.regBit 0x0005 0 3 then s2.emit 0x00 evUntestedStepping Config.stepping else s2

/-- A job ends at the boundary because its unit has entered DRAINING (R326). -/
def State.endDrained (s : State) (j : Job) : State :=
  match j.kind.unit with
  | none => s
  | some u =>
    if (s.unit u).st != .draining then s
    else
      let s1 := match j.kind with
        | .regionLoad r .. => s.setRegion r { s.regionOf r with loading := false }
        | .capture .. => { s with mem := { s.mem with caps := s.mem.caps.filter fun p => p.1 != j.num } }
        | _ => s
      s1.endJob j.num stUnitGone j.kind.words

/-- A swap whose named boundary has come is made or ends (R296, R297, R299, R302, R329, R570 to R574, R713, R715). -/
def State.swapJob (s : State) (j : Job) : State :=
  match j.kind with
  | .regionSwap r at_ =>
    let u := 0x20 + r
    let st := (s.unit u).st
    if s.dist at_ ≠ 0 then s
    else if !(st == .ready || st == .running) || (s.unit u).skewed then s.endJob j.num stUnitGone j.kind.words
    else if !(s.regionOf r).complete then s.endJob j.num stDenied j.kind.words
    else
      let s1 := s.setRegion r { s.regionOf r with wasRun := st == .running, afterFrz := none, upset := false }
      (s1.saveGate r).goState u .reloading 3
  | .coefSwap f at_ =>
    let b := (0x10 + f) * 256 + 0x11
    let run : Bool := (s.unit (0x10 + f)).st == .running
    let fades := s.regBit ((0x10 + f) * 256 + 0x0B) 0 0
    if s.dist at_ ≠ 0 then s
    else if run && !fades then s.endJob j.num stUnitState j.kind.words
    else if s.regBit b 0 1 || (s.filtOf f).armed then s.endJob j.num stLate j.kind.words
    else if run then s.setFilt f { s.filtOf f with armed := true }
    else (s.setRegBit b 0 2 (!s.regBit b 0 2)).endJob j.num stDone j.kind.words
  | _ => s

/-- A plan swap whose named boundary has come, once the region swaps of that boundary are made (R296, R297, R329,
R715). -/
def State.planJob (s : State) (j : Job) : State :=
  match j.kind, s.tick.shadow with
  | .planSwap _ at_, some p =>
    let v := s.viewAt s.sets 0
    if s.dist at_ ≠ 0 then s
    else if s.planFits { v := v, bod := s.bodyAt 0, dma := dmaItemOk v, period := (v 0x0100 0).toNat } p then
      ({ s with tick := { s.tick with plan := some p, shadow := none } } : State).endJob j.num stDone j.kind.words
    else s.endJob j.num stLate j.kind.words
  | .planSwap _ at_, none => if s.dist at_ ≠ 0 then s else s.endJob j.num stLate j.kind.words
  | _, _ => s

/-- What takes effect at cycle 0 besides the units' own changes. -/
def State.swaps (s : State) : State :=
  let s1 := s.each s.jobs.running State.swapJob
  s1.each s1.jobs.running State.planJob

/-- Changes of a region that a boundary makes whatever its state: its event for dropped words is armed again (R628). -/
def State.rearm (s : State) (r : Nat) : State := s.setRegion r { s.regionOf r with dropTick := false }

/-! ### The commit (R26 to R31) -/

/-- The settings of this boundary take effect together at cycle 128 (R28, R325). -/
def State.commit (s : State) : State :=
  let mine := s.sets.filter fun x => !x.boot && s.dist x.bound == 0
  let s1 : State := { s with sets := s.sets.filter fun x => x.boot || s.dist x.bound != 0 }
  s1.applyValues (mine.map fun x => (x.id, x.sub, x.val))

/-- The set's plan and period take effect at the release (R126). -/
def State.commitRelease (s : State) : State :=
  let s1 : State := { s with tick := { s.tick with plan := s.boot.plan } }
  let s2 := s1.setReg 0x0100 0 (Word.of s1.boot.period)
  if s2.follower then s2.hunt else s2

/-- An item does not fit any longer (R37, R62, R760). -/
def State.misfit (s : State) (it : PlanItem) : Bool :=
  let v : View := fun a b => s.reg a b
  decide (it.budget < s.nominal v (s.bodyAt 0) it) || decide (s.period < it.offset + it.budget) ||
    (it.action == 2 && !dmaItemOk v it.arg)

/-- The misfit bits are brought up to date; each that rises is logged (R37). -/
def State.checkFit (s : State) : State :=
  match s.tick.plan with
  | none => s
  | some p =>
    let bad := ((List.range p.items.length).zip p.items).filter fun q => s.misfit q.2
    let bits := fun (lo : Nat) => Word.of ((bad.filter fun q => lo ≤ q.1 && q.1 < lo + 32).foldl
      (fun a q => a + 2 ^ (q.1 - lo)) 0)
    let was := fun (i : Nat) => if i < 32 then s.regBit 0x010C 0 i else s.regBit 0x010D 0 (i - 32)
    let s1 := (s.setReg 0x010C 0 (bits 0)).setReg 0x010D 0 (bits 32)
    s1.each (bad.filter fun q => !was q.1) fun s q => s.emit 0x01 evTickMisfit (q.1 + q.2.unit * 256)

/-- Monitored pins whose turn it is are due (R426). -/
def State.fallDue (s : State) (p : Nat) : State :=
  let k := s.regN 0x1B02 p
  if monitored (s.reg 0x1B00 p) && (s.tick.count.toNat + 256 * k - s.regN 0x1B03 p) % k == 0 then
    s.setRegBit 0x1B05 p 4 true
  else s

/-- The region reset is released where the region works (R127, R625). -/
def State.leaveReset (s : State) (r : Nat) : State :=
  let g := s.regionOf r
  if s.released && g.resetOn && ((s.unit (0x20 + r)).st == .ready || (s.unit (0x20 + r)).st == .running) then
    s.setRegion r { g with resetOn := false, freeStep := 5 * s.now + 1 }
  else s

/-- A device that has begun to hunt at this commit drops the tick (R88, R49). -/
def State.dropHunted (s : State) (was : Bool) : State :=
  if s.hunting && !was && !s.tick.noWork then
    { s with tick := { s.tick with noWork := true } }.bump 0x010A
  else s

/-- What results may still ask for of the tick that ended is kept, older history is dropped. -/
def State.prune (s : State) (from_ : Nat) : State :=
  let s1 : State := { s with wire := { s.wire with hist := s.wire.hist.filter fun p => decide (from_ ≤ p.1)
                                                   routes := s.wire.routes.filter fun p => decide (from_ ≤ p.1) } }
  s1.each [0, 1] fun s n =>
    s.setConv n { s.convOf n with hist := (s.convOf n).hist.filter fun p => decide (from_ ≤ p.1) }

/-! ### TICK_BOUNDARY -/

/-- The boundary itself: the cut, the count, and everything that takes effect at cycle 0. -/
def State.cycleZero (s : State) (temp : BitVec 16) : State :=
  let s0 := if s.unplaced then s.expire else s
  let b := s0.boundary
  let doze := s0.dozeNext
  let checked := s0.tracking && !s0.hunting && !doze
  let start := s0.tickStart
  let s1 := (((((s0.countRefs b.1).reach b.1).cut.prune start).landReplies b.1).each (List.range 4) State.flushStream).closeWindow b.1
  let s2 : State := { s1 with
    cyc := 0
    tick := { s1.tick with count := s1.tick.count + 1, noWork := doze || b.2
                           resumed := if s1.tick.noWork then b.1 else s1.tick.resumed } }
  let s3 := ((s2.each allUnits State.markEpoch).tbusTurn b checked).takeTemp temp
  let s4 := if doze then s3.beginDoze else s3.endDoze
  let s5 := if b.2 && !doze then s4.bump 0x010A else s4
  let s6 := if s5.boot.phase == .phase3 && s5.phase3Over then s5.release else s5
  if !s6.released then s6
  else
    let s7 := (s6.each s6.jobs.running State.endDrained).each s6.jobs.running State.endCapture
    let v := s7.viewAt s7.sets 0
    let lines := List.range 6
    let s8 := ((s7.each lines (State.fromPin v)).each lines (State.holdLine v)).each allUnits (State.unitBoundary v)
    let s9 := s8.swaps
    ((s9.dropFlights fun f => s9.staleTags f.tags).each (List.range 8) State.rearm).refreshHold true

/-- The timers' pulses of cycles 0 to 127 (R513), in their order, before the commit of cycle 128. -/
def State.earlyPulses (s : State) : State :=
  if (List.range 8).any s.timerOn then
    s.each (List.range 128) fun s c => if (s.timersAt c).isEmpty then s else s.timerPulses (s.timersAt c) (s.tickStart + c)
  else s

/-- The commit at cycle 128 and what follows from it; `fresh` says that the device is released at this boundary. The cells
whose hold source is cycle 128 hold (R397). -/
def State.cycle128 (s : State) (fresh : Bool) : State :=
  let was := s.hunting
  let s1 := (s.elapse 128).earlyPulses.commit
  let s2 := if fresh then s1.commitRelease else s1
  let s3 := ((s2.each (List.range 6) State.startLine).checkFit.each (List.range 24) State.fallDue).each (List.range 8) State.leaveReset
  ((s3.dropHunted was).holdCells 24 s3.now).refreshHold true

/-- TICK_BOUNDARY (R23, R26 to R31, R37, R45 to R49, R59 to R62, R79, R81, R92 to R94, R99, R102, R126, R296, R297, R302,
R326, R341, R410, R426, R625, R713, R715, R816, R836, R837): the boundary comes, and the tick it starts reaches its cycle
128. `temp` is the sensor's reading. -/
def execTickBoundary (temp : BitVec 16) (s : State) : Host.Outcome State Fault Refusal :=
  .next (if !s.tick.running then s
    else
      let s1 := s.cycleZero temp
      s1.cycle128 (s1.released && !s.released))

end Sys2Proof.Machine
end

