-- ==== Sys2Proof/Machine/Serve.lean ====
section
/-! DEFINITION. How a request is served at its commit point (R226 to R231, R263, R271 to R273, Table CMD-4): shared by
every opcode and parameter access. -/

namespace Sys2Proof.Machine

/-- What a request comes to: the state, the status of its reply, and the words of its reply. -/
abbrev Answer := State × Nat × List Word

/-- A refusal without words (R272). -/
def State.refuse (s : State) (status : Nat) : Answer := (s, status, [])

/-- A refusal that names a request word, or 0xFF for LEN (R272). -/
def State.refuseAt (s : State) (status i : Nat) : Answer := (s, status, [Word.of i])

/-- PARAM_BAD naming a request word. -/
def State.bad (s : State) (i : Nat) : Answer := s.refuseAt stParamBad i

/-- A reply DONE. -/
def State.done (s : State) (ws : List Word) : Answer := (s, stDone, ws)

/-- A request starts a job and is QUEUED (R277). -/
def State.queued (s : State) (op : Nat) (kind : JobKind) : Answer :=
  let r := s.startJob op kind
  (r.1, stQueued, [Word.of (r.2 + op * 256)])

/-- A request for a job is QUEUED, or NOT_NOW where 8 jobs run already or one of its kind that excludes it (R278). -/
def State.enqueue (s : State) (op : Nat) (kind : JobKind) (clash : JobKind → Bool) : Answer :=
  if 8 ≤ s.jobs.running.length ∨ s.jobs.running.any (fun j => clash j.kind) then s.refuse stNotNow
  else s.queued op kind

/-- Least and greatest LEN of an opcode (Table OPS-1); none for a code that is not defined. -/
def opcodeLen (op : Nat) : Option (Nat × Nat) :=
  if op = 0x01 ∨ op = 0x02 ∨ op = 0x42 then some (0, 0)
  else if op = 0x03 then some (1, 1)
  else if op = 0x04 then some (0, 254)
  else if op = 0x10 ∨ op = 0x14 then some (1, 2)
  else if op = 0x11 ∨ op = 0x12 then some (2, 3)
  else if op = 0x13 then some (3, 190)
  else if op = 0x20 ∨ op = 0x21 ∨ op = 0x22 ∨ op = 0x30 ∨ op = 0x38 ∨ op = 0x40 ∨ op = 0x43 ∨ op = 0x48 then some (1, 1)
  else if op = 0x28 then some (5, 194)
  else if op = 0x29 ∨ op = 0x31 ∨ op = 0x35 ∨ op = 0x41 ∨ op = 0x50 ∨ op = 0x53 ∨ op = 0x60 then some (2, 2)
  else if op = 0x34 then some (2, 65)
  else if op = 0x39 then some (3, 4)
  else if op = 0x51 then some (2, 255)
  else if op = 0x52 ∨ op = 0x54 ∨ op = 0x61 ∨ op = 0x7E then some (1, 1)
  else if op = 0x70 then some (1, 17)
  else if op = 0x7F then some (0, 255)
  else none

/-- An opcode is answered in the present phase (Table BOOT-3, Table OPS-1). -/
def State.answers (s : State) (op : Nat) : Bool :=
  if op = 0x01 ∨ op = 0x02 ∨ op = 0x7F then s.alive
  else if op = 0x03 ∨ op = 0x40 ∨ op = 0x42 ∨ (0x50 ≤ op ∧ op ≤ 0x54) ∨ op = 0x60 ∨ op = 0x7E then
    s.released || s.boot.phase == .limited
  else s.released

/-- The outcome of a request that is executed: checks 5 to 7 of Table CMD-4. -/
def State.answer (s : State) (op : Nat) (ws : List Word) (run : State → Answer) : Answer :=
  if !s.answers op then s.refuse stNotNow
  else match opcodeLen op with
    | none => s.refuse stOpcodeUnknown
    | some l => if ws.length < l.1 ∨ l.2 < ws.length then s.bad 0xFF else run s

/-- The cycles from now to a commit point that a request row gives as `dt`. Commit points in the same cycle execute in the
order SPI, UART0 to UART3 (R260), so one that follows that of the same or a later transport lies in a later cycle (DESIGN
CHOICE, log 64). -/
def State.commitDelay (s : State) (n dt : Nat) : Nat := match s.jobs.commit with
  | some (t, m) => if t = s.now + dt ∧ n ≤ m then dt + 1 else dt
  | none => dt

/-- The state at a commit point. -/
def State.toCommit (s : State) (n dt : Nat) : State := s.elapse (s.commitDelay n dt)

/-- Transport `n` hears a request: it is served, and its SPI frame is one in which a request can still commit (R241 to R243),
or its receiver's clock runs (R265, R816). -/
def State.hears (s : State) (n : Nat) : Bool :=
  s.served n &&
    (if n = 0 then s.spi.open_ && !s.spi.committed && (s.spi.kind == none || s.spi.kind == some .request)
     else !s.pwr.stopped)

/-- The transport has a whole request: an SPI frame has committed, a serial receiver hunts again (R226, R253). -/
def State.taken (s : State) (n : Nat) : State :=
  let s1 : State := { s with jobs := { s.jobs with commit := some (s.now, n) } }
  if n = 0 then { s1 with spi := { s1.spi with kind := some .request, committed := true } }
  else s1.setTr n { s1.trOf n with rx := [] }

/-- The request reaches the SPI port corrupted, because HSCK is too fast in doze (R101, R264). Which bytes the device then
samples is free (log 64). -/
def State.garbled (s : State) (n : Nat) : Bool := n == 0 && s.overclocked && Config.freeByte (4 * s.free) != 0

/-- A corrupted request fails check 1 or check 2 (R264): the frame's first byte as sampled decides which, the next is its
SEQ. A frame whose kind is decided is a request frame. -/
def State.garbage (s : State) : State :=
  let b := Config.freeByte (4 * s.free + 1)
  let seq := Config.freeByte (4 * s.free + 2)
  let s1 := s.useFree 1
  if s.spi.kind == some .request || b == 0xC5 then
    ((s1.taken 0).transportError 0 2 seq).errReply 0 { seq := seq, status := stCrcBad, op := 0, words := [] }
  else if b = 0x00 ∨ b = 0xFF then { s1 with spi := { s1.spi with kind := some .read } }
  else ({ s1 with spi := { s1.spi with kind := some .bad } } : State).frameBad 0 seq

/-- The SEQ_DUP reply to a repetition (R236). -/
def dupReply (seq : Byte) (stored : Option Reply) : Reply :=
  { seq := seq, status := stSeqDup, op := 0, words := match stored with
    | none => []
    | some r => Word.of (r.status + r.op * 256) :: r.words }

/-- The words of a RANDOM that waits for bytes and of a LOG_READ stay known until their reply is ready (R312, R374). -/
def keepsWords (op status : Nat) : Bool := (op == 0x48 && status == stQueued) || (op == 0x60 && status == stDone)

/-- A request executes: its SEQ is the last executed one from now on, and its reply is in preparation (R229, R231). -/
def State.execute (s : State) (n : Nat) (seq : Byte) (op : Nat) (ws : List Word) (run : State → Answer) : State :=
  let a := (s.setTr n { s.trOf n with last := some seq }).answer op ws run
  a.1.setTr n { a.1.trOf n with
    exec := some { seq := seq, status := a.2.1, op := op, words := a.2.2 }
    ask := if keepsWords op a.2.1 then ws else [] }

/-- A request whose framing and CRC are good, at its commit point: checks 3 and 4 of Table CMD-4, then its execution. -/
def State.commitRequest (s : State) (n : Nat) (seq : Byte) (op : Nat) (ws : List Word) (run : State → Answer) : State :=
  let t := s.trOf n
  if t.exec.isSome then s.transportError n 5 seq
  else if t.last = some seq then (s.transportError n 4 seq).errReply n (dupReply seq t.stored)
  else s.execute n seq op ws run

/-- A request reaches its commit point `h.dt` cycles from now; a transport that does not hear it has no request (R116,
R119, R242, R243, R265). -/
def State.serve (s : State) (h : Hdr) (op : Nat) (ws : List Word) (run : State → Answer) : State :=
  let n := trNum h.tr
  let s1 := s.toCommit n h.dt
  if !s1.hears n then s1
  else if s1.garbled n then s1.garbage
  else (s1.taken n).commitRequest n h.seq op ws run

/-- Request bits of a mask that are set where they are reserved. -/
def stray (w : Word) (mask : Nat) : Bool := w &&& ~~~(Word.of mask) != 0

/-! ### Unit states (R274, Table OPS-2) -/

/-- The refusal that a unit's committed state calls for, where only READY and RUNNING accept: a detected skew does not show
before the boundary (R354). -/
def State.readyRun (s : State) (u i : Nat) (ok : Answer) : Answer :=
  let st := (s.unit u).st
  if st = .draining then s.refuseAt stUnitGone i
  else if st = .ready ∨ st = .running then ok
  else s.refuseAt stUnitState i

/-- The refusal that a unit's state calls for, where every state but DRAINING accepts. -/
def State.unlessDraining (s : State) (u i : Nat) (ok : Answer) : Answer :=
  if (s.unit u).st = .draining then s.refuseAt stUnitGone i else ok

/-- The pending state of a unit (R294, R354, UNIT.STATE): FAULT after a detected skew, else its pending change, a wake that
has completed or is too late, the end of a freeze, or what the run condition decides at the next boundary. -/
def State.stateAfter (s : State) (u : Nat) : Nat :=
  let x := s.unit u
  let byRun := if runCondition (s.viewAt s.sets 1) u then 3 else 2
  if fixedUnit u then s.stateCode u
  else if x.skewed then 6
  else match x.next with
  | some n => n.1.code
  | none => match x.st with
    | .waking => if x.wakeDone then byRun else if x.wakeLate then 6 else 1
    | .ready | .running => byRun
    | .reloading => match (s.regionOf (u - 0x20)).afterFrz with
      | some off => if off then 0 else 1
      | none => if (s.regionOf (u - 0x20)).wasRun then 3 else 2
    | .off => 0
    | .draining => 4
    | .fault => 6

/-- The state of a unit after every pending change (UNIT.STATE in word 2 of a GET): what is pending behind the next boundary
(R354), and the run condition under every value that is pending. -/
def State.stateFinal (s : State) (u : Nat) : Nat :=
  match (s.unit u).after with
  | some a => a.1.code
  | none =>
    let c := s.stateAfter u
    if !fixedUnit u && (c = 2 || c = 3) then (if runCondition (s.viewAt s.sets (2 ^ 48)) u then 3 else 2) else c

/-- A change of a unit's state is pending (R294). -/
def State.changePending (s : State) (u : Nat) : Bool :=
  (s.unit u).skewed || (s.unit u).next.isSome || s.stateAfter u != s.stateCode u

/-- The reply word of UNIT_POWER and UNIT_RESET (R293, R354): the epoch, and the state after the boundary at which the
request acts. -/
def State.unitWord (s : State) (u : Nat) : Word :=
  let st := match (s.unit u).after with
    | some a => a.1.code
    | none => s.stateAfter u
  Word.of ((s.unit u).epoch.toNat + st * 256)

/-! ### Named boundaries (R276) -/

/-- The tick count of the boundary that a boundary word names; none where it is out of reach. -/
def State.boundaryOf (s : State) (w : Word) : Option Nat :=
  let d := s.commitDist
  if w = 0 then some (s.countAt d)
  else
    let k := (w.toNat + 2 ^ 32 - s.tick.count.toNat % 2 ^ 32) % 2 ^ 32
    if d ≤ k ∧ k ≤ d + 65536 then some (s.countAt k) else none

end Sys2Proof.Machine
end

