-- ==== Sys2Proof/Machine/HouseOps.lean ====
section
/-! DEFINITION. Opcodes of identification, jobs, log, units and restart (chapter 6): IDENT, STATUS, POLL, ECHO, NOP, UNIT_POWER,
UNIT_RESET, UNIT_STATE, LOG_READ, LOG_CLEAR and SOFT_RESET. -/

namespace Sys2Proof.Machine

/-! ### Identification (R133, R134, R280) -/

/-- The ILEV of a member of the loaded set; 0 where none is loaded and in limited mode (R134). -/
def State.memberIlev (s : State) (i : Nat) : Nat := if s.img.manifest.isEmpty then 0 else (manMember s.img.manifest i).ilev

/-- The ILEV of a region's active configuration (R714). -/
def State.regionIlev (s : State) (r : Nat) : Nat := match (s.regionOf r).active with
  | some c => c.ilev
  | none => 0

/-- The IDENT payload (Table BOOT-4). -/
def State.identWords (s : State) : List Word :=
  [Word.of 0x300480] ++ ((List.range 4).map fun i => s.dlvRow (20 + i)) ++
    [Word.of ((s.read 0x0004 0).toNat + s.sysPhase * 65536 + s.regN 0x0005 * 2 ^ 24),
     Word.of (s.memberIlev 0 + s.memberIlev 1 * 65536), Word.of (s.memberIlev 2)] ++
    (List.range 4).map fun k => Word.of (s.regionIlev (2 * k) + s.regionIlev (2 * k + 1) * 65536)

/-- IDENT (R133 to R135). -/
def execIdent (h : Hdr) (ws : List Word) (s : State) : Host.Outcome State Fault Refusal :=
  .next (s.serve h 0x01 ws fun s => s.done s.identWords)

/-- The STATUS payload (Table OPS-3). -/
def State.statusWords (s : State) : List Word :=
  [Word.of (s.sysState + s.sysPhase * 16 + s.regN 0x0005 * 256 + s.jobs.running.length * 65536 + s.alert.toNat * 2 ^ 24),
   s.tick.count.setWidth 32, (s.tick.count >>> 32).setWidth 32,
   Word.of ((if s.released then (s.read 0x010E 0).toNat else 0) + s.regN 0x0301 * 16 + s.fuma.log.length * 65536)]

/-- STATUS (R132, R280). -/
def execStatus (h : Hdr) (ws : List Word) (s : State) : Host.Outcome State Fault Refusal :=
  .next (s.serve h 0x02 ws fun s => s.done s.statusWords)

/-- The work of a POLL request (R281, Table OPS-4). -/
def State.doPoll (ws : List Word) (s : State) : Answer :=
  let w := ws.getD 0 0
  let num := if w = 0 then s.jobs.latest else w.toNat
  match s.jobs.running.find? fun j => j.num == num with
  | some j => s.done [Word.of (num + j.op * 256 + stQueued * 65536 + j.kind.percent * 2 ^ 24)]
  | none => match s.jobs.ended.find? fun e => e.num == num with
    | some e => s.done (Word.of (num + e.op * 256 + e.status * 65536 + e.pct * 2 ^ 24) :: e.words)
    | none => s.bad 0

/-- POLL (R281). -/
def execPoll (h : Hdr) (ws : List Word) (s : State) : Host.Outcome State Fault Refusal :=
  .next (s.serve h 0x03 ws (State.doPoll ws))

/-- ECHO (R282): the parameter words come back. -/
def execEcho (h : Hdr) (ws : List Word) (s : State) : Host.Outcome State Fault Refusal :=
  .next (s.serve h 0x04 ws fun s => s.done ws)

/-- NOP (R282). -/
def execNop (h : Hdr) (ws : List Word) (s : State) : Host.Outcome State Fault Refusal :=
  .next (s.serve h 0x7F ws fun s => s.done [])

/-! ### Units (R292 to R294, Table OPS-2) -/

/-- The work of a UNIT_POWER request: the unit number, and on or off. -/
def State.doPower (ws : List Word) (s : State) : Answer :=
  let w := ws.getD 0 0
  let u := w.bits 0 8
  if stray w 0x1FF || !isUnit u || fixedUnit u then s.bad 0
  else s.unlessDraining u 0
    (let s1 := if w.bit 8 then s.powerUnit u
        else if (s.unit u).st = .off ∧ !(s.unit u).skewed then s
        else s.drainUnit u true
     s1.done [s1.unitWord u])

/-- The request word of a UNIT_POWER. -/
def powerWord (unit : Byte) (on : Bool) : List Word := [Word.of (unit.toNat + on.toNat * 256)]

/-- UNIT_POWER on (R292, R293). -/
def execUnitPowerOn (h : Hdr) (unit : Byte) (s : State) : Host.Outcome State Fault Refusal :=
  .next (s.serve h 0x20 (powerWord unit true) (State.doPower (powerWord unit true)))

/-- UNIT_POWER off (R292, R293, R369, R370). -/
def execUnitPowerOff (h : Hdr) (unit : Byte) (s : State) : Host.Outcome State Fault Refusal :=
  .next (s.serve h 0x20 (powerWord unit false) (State.doPower (powerWord unit false)))

/-- The work of a UNIT_RESET request. -/
def State.doReset (ws : List Word) (s : State) : Answer :=
  let w := ws.getD 0 0
  let u := w.bits 0 8
  if stray w 0xFF || !isUnit u || fixedUnit u then s.bad 0
  else if (s.unit u).st = .off ∧ !(s.unit u).skewed then s.refuseAt stUnitState 0
  else s.unlessDraining u 0
    (let s1 := s.drainUnit u false
     s1.done [s1.unitWord u])

/-- UNIT_RESET (R292, R293, R354, R369, R370). -/
def execUnitReset (h : Hdr) (ws : List Word) (s : State) : Host.Outcome State Fault Refusal :=
  .next (s.serve h 0x21 ws (State.doReset ws))

/-- The work of a UNIT_STATE request (R294). -/
def State.doState (ws : List Word) (s : State) : Answer :=
  let w := ws.getD 0 0
  let u := w.bits 0 8
  if stray w 0xFF || !isUnit u then s.bad 0
  else
    s.done [Word.of (s.stateCode u + (s.changePending u).toNat * 8 + s.stateAfter u * 16 +
      (s.unit u).epoch.toNat * 256)]

/-- UNIT_STATE (R294). -/
def execUnitState (h : Hdr) (ws : List Word) (s : State) : Host.Outcome State Fault Refusal :=
  .next (s.serve h 0x22 ws (State.doState ws))

/-! ### The log (R319, R320, R373, R374) -/

/-- An entry as four words (Table UNIT-4). -/
def Event.words (e : Event) : List Word :=
  [e.stamp.setWidth 32,
   Word.of (e.stamp.toNat / 2 ^ 32 + e.unit * 2 ^ 16 + e.epoch.toNat * 2 ^ 24),
   Word.of (e.code + e.sev * 2 ^ 12 + e.data / 2 ^ 32 % 65536 * 65536), Word.of e.data]

/-- The work of a LOG_READ request. -/
def State.doLogRead (ws : List Word) (s : State) : Answer :=
  let r := ws.getD 0 0
  let n := (ws.getD 1 0).toNat
  let f := s.reg 0x0601
  let held := s.fuma.log.length
  let d := (f - r).toNat
  if n = 0 ∨ 63 < n then s.bad 1
  else if held = 0 ∨ d = 0 ∨ 2 ^ 31 ≤ d then s.done [f, Word.of (held * 65536)]
  else
    let i := if d ≤ held then held - d else 0
    let es := (s.fuma.log.drop i).take n
    s.done ([f - Word.of (held - i), Word.of (es.length + held * 65536)] ++ es.flatMap Event.words)

/-- LOG_READ (R319, R374). -/
def execLogRead (h : Hdr) (ws : List Word) (s : State) : Host.Outcome State Fault Refusal :=
  .next (s.serve h 0x60 ws (State.doLogRead ws))

/-- The entries that a LOG_CLEAR up to a number leaves; `e` is the number of the oldest. -/
def clearLog (bound : Word) : Word → List Event → List Event
  | _, [] => []
  | e, x :: t => if (bound - e).toNat < 2 ^ 31 then clearLog bound (e + 1) t else x :: t

/-- The work of a LOG_CLEAR request. -/
def State.doLogClear (ws : List Word) (s : State) : Answer :=
  let w := ws.getD 0 0
  let log := if w = 0xFFFFFFFF then [] else clearLog w (s.reg 0x0601 - Word.of s.fuma.log.length) s.fuma.log
  ({ s with fuma := { s.fuma with log := log } } : State).done []

/-- LOG_CLEAR (R320, R373). -/
def execLogClear (h : Hdr) (ws : List Word) (s : State) : Host.Outcome State Fault Refusal :=
  .next (s.serve h 0x61 ws (State.doLogClear ws))

/-! ### Restart -/

/-- A restart is due once the reply on a transport is ready; an earlier one that is due stays. -/
def State.dueRestart (s : State) (cause n : Nat) : State :=
  if s.boot.restart.isSome then s else { s with boot := { s.boot with restart := some (cause, n) } }

/-- The work of a SOFT_RESET request on transport `n`. -/
def State.doSoftReset (n : Nat) (ws : List Word) (s : State) : Answer :=
  if ws.getD 0 0 = 0x0000A5A5 then (s.dueRestart 1 n).done [] else s.bad 0

/-- SOFT_RESET (R283): the restart itself is the command RESTART. -/
def execSoftReset (h : Hdr) (ws : List Word) (s : State) : Host.Outcome State Fault Refusal :=
  .next (s.serve h 0x7E ws (State.doSoftReset (trNum h.tr) ws))

end Sys2Proof.Machine
end

