-- ==== Sys2Proof/Machine/JobOps.lean ====
section
/-! DEFINITION. Opcodes of plans, regions, coefficients, conversion, capture, fuses, counters and random numbers (chapter
6): PLAN_LOAD to RANDOM. -/

namespace Sys2Proof.Machine

/-! ### Plans (R295 to R297, R332) -/

/-- The items that the words of a PLAN_LOAD spell, with whether a reserved bit is set in each word of each. -/
def planItems : List Word → List (PlanItem × List Bool)
  | a :: b :: c :: t => itemOfWords a b c :: planItems t
  | _ => []

/-- The least of the TICK.PERIOD in force and pending. -/
def State.leastPeriod (s : State) : Nat :=
  (s.viewDists s.sets 0).foldl (fun m d => min m (s.viewAt s.sets d 0x0100 0).toNat) s.period

/-- The word of an item that decides a refusal, as 0, 1 or 2 (R295). -/
def State.loadItemError (s : State) (before : List PlanItem) (x : PlanItem × List Bool) : Option Nat :=
  let own := s.itemError (s.requestCheck 0 s.leastPeriod) before x.1
  let res := (List.range 3).find? fun k => x.2.getD k false
  match own, res with
  | some a, some b => some (min a b)
  | some a, none => some a
  | none, r => r

/-- The first failing item and word of a PLAN_LOAD, as a request word (R295). -/
def State.loadError (s : State) : List PlanItem → List (PlanItem × List Bool) → Nat → Option Nat
  | _, [], _ => none
  | before, x :: t, i =>
    match s.loadItemError before x with
    | some k => some (i + k)
    | none => State.loadError s (before ++ [x.1]) t (i + 3)

/-- The work of a PLAN_LOAD request. -/
def State.doPlanLoad (ws : List Word) (s : State) : Answer :=
  let n := (ws.getD 1 0).toNat
  let items := planItems (ws.drop 2)
  if n = 0 ∨ 64 < n then s.bad 1
  else if ws.length ≠ 2 + 3 * n then s.bad 0xFF
  else if s.planSwapAt.isSome then s.refuse stNotNow
  else match s.loadError [] items 2 with
    | some i => s.bad i
    | none =>
      ({ s with tick := { s.tick with shadow := some { id := ws.getD 0 0, items := items.map Prod.fst } } } : State).done []

/-- PLAN_LOAD (R295, R332). -/
def execPlanLoad (h : Hdr) (ws : List Word) (s : State) : Host.Outcome State Fault Refusal :=
  .next (s.serve h 0x28 ws (State.doPlanLoad ws))

/-- A plan fits from a distance on: R35 at its boundary, and every period in force later (R62). -/
def State.swapFits (s : State) (d : Nat) (p : Plan) : Bool :=
  s.planFits (s.requestCheck d (s.viewAt s.sets d 0x0100 0).toNat) p &&
    (s.viewDists s.sets d).all fun k =>
      p.items.all fun it => decide (it.offset + it.budget ≤ (s.viewAt s.sets k 0x0100 0).toNat)

/-- The work of a PLAN_SWAP request. -/
def State.doPlanSwap (ws : List Word) (s : State) : Answer :=
  match s.tick.shadow, s.boundaryOf (ws.getD 1 0) with
  | none, _ => s.refuse stNotNow
  | some p, b =>
    if p.id ≠ ws.getD 0 0 then s.refuse stNotNow
    else match b with
      | none => s.bad 1
      | some at_ =>
        if !s.swapFits (s.dist at_) p then s.bad 0
        else s.enqueue 0x29 (.planSwap p.id at_) fun k => match k with
          | .planSwap .. => true
          | _ => false

/-- PLAN_SWAP (R296, R62). -/
def execPlanSwap (h : Hdr) (ws : List Word) (s : State) : Host.Outcome State Fault Refusal :=
  .next (s.serve h 0x29 ws (State.doPlanSwap ws))

/-! ### Regions (R298, R299, R710 to R713, R720) -/

/-- A load or a swap of a region. -/
def JobKind.onRegion (r : Nat) : JobKind → Bool
  | .regionLoad q .. | .regionSwap q _ => q == r
  | _ => false

/-- The work of a REGION_LOAD request. -/
def State.doRegionLoad (ws : List Word) (s : State) : Answer :=
  let w := ws.getD 0 0
  let r := w.bits 0 3
  let staging := w.bit 8
  let kind : JobKind := .regionLoad r staging 0 (max 1 (s.loadImage r staging).length)
  if stray w 0x107 then s.bad 0
  else if s.reg 0x3A01 = 0 ∨ s.imageJob.isSome ∨ (staging ∧ !(s.img.vS.good && s.img.vS.code == 1)) then s.refuse stNotNow
  else
    let a := s.readyRun (0x20 + r) 0 (s.enqueue 0x30 kind (JobKind.onRegion r))
    if a.2.1 = stQueued then
      (a.1.setRegion r { a.1.regionOf r with shadow := none, complete := false, loading := true }, a.2)
    else a

/-- REGION_LOAD (R298, R710, R711). -/
def execRegionLoad (h : Hdr) (ws : List Word) (s : State) : Host.Outcome State Fault Refusal :=
  .next (s.serve h 0x30 ws (State.doRegionLoad ws))

/-- The work of a REGION_SWAP request. -/
def State.doRegionSwap (ws : List Word) (s : State) : Answer :=
  let w := ws.getD 0 0
  let r := w.bits 0 3
  if stray w 7 then s.bad 0
  else if !(s.regionOf r).complete then s.refuse stNotNow
  else match s.boundaryOf (ws.getD 1 0) with
    | none => s.bad 1
    | some at_ => s.readyRun (0x20 + r) 0 (s.enqueue 0x31 (.regionSwap r at_) (JobKind.onRegion r))

/-- REGION_SWAP (R299, R713). -/
def execRegionSwap (h : Hdr) (ws : List Word) (s : State) : Host.Outcome State Fault Refusal :=
  .next (s.serve h 0x31 ws (State.doRegionSwap ws))

/-! ### Coefficients (R300 to R302, R570 to R573) -/

/-- The first coefficient word of a COEF_LOAD with a bit above [17:0] set. -/
def badCoef (ws : List Word) : Option Nat :=
  ((List.range ws.length).find? fun i => decide (1 ≤ i) && stray (ws.getD i 0) 0x3FFFF)

/-- Coefficients stored from a key on. -/
def putCoefs : List (Nat × Word) → Nat → List Word → List (Nat × Word)
  | m, _, [] => m
  | m, k, w :: t => putCoefs (insert 0 m k w) (k + 1) t

/-- The work of a COEF_LOAD request. -/
def State.doCoefLoad (ws : List Word) (s : State) : Answer :=
  let w := ws.getD 0 0
  let f := w.bits 0 3
  let u := 0x10 + f
  let bank := w.bits 3 1
  let first := w.bits 8 6
  let cross := s.regBit (u * 256 + 0x0B) 0 0
  let last := if cross then 31 else 63
  let feeds : Bool := cross && (s.regBit (u * 256 + 0x11) 0 1 || (s.regBit (u * 256 + 0x11) 0 2).toNat == bank)
  if stray w 0x3F0F ∨ last < first then s.bad 0
  else if last < first + ws.length - 2 then s.bad (last - first + 2)
  else match badCoef ws with
    | some i => s.bad i
    | none =>
      if feeds then s.bad 0
      else if !cross && s.isRunning u then s.refuseAt stUnitState 0
      else
        let x := s.filtOf f
        s.readyRun u 0 ((s.setFilt f { x with coef := putCoefs x.coef (64 * bank + first) (ws.drop 1) }).done [])

/-- COEF_LOAD (R300, R301, R573). -/
def execCoefLoad (h : Hdr) (ws : List Word) (s : State) : Host.Outcome State Fault Refusal :=
  .next (s.serve h 0x34 ws (State.doCoefLoad ws))

/-- The work of a COEF_SWAP request. -/
def State.doCoefSwap (ws : List Word) (s : State) : Answer :=
  let w := ws.getD 0 0
  let f := w.bits 0 3
  let u := 0x10 + f
  if stray w 7 then s.bad 0
  else match s.boundaryOf (ws.getD 1 0) with
    | none => s.bad 1
    | some at_ =>
      if s.regBit (u * 256 + 0x11) 0 1 then s.refuse stNotNow
      else if !s.regBit (u * 256 + 0x0B) 0 0 && s.isRunning u then s.refuseAt stUnitState 0
      else s.readyRun u 0 (s.enqueue 0x35 (.coefSwap f at_) fun k => match k with
        | .coefSwap g _ => g == f
        | _ => false)

/-- COEF_SWAP (R301, R302, R573). -/
def execCoefSwap (h : Hdr) (ws : List Word) (s : State) : Host.Outcome State Fault Refusal :=
  .next (s.serve h 0x35 ws (State.doCoefSwap ws))

/-! ### Conversion and capture (R303 to R307) -/

/-- The work of a CONVERT request: a software trigger with delay SW_DELAY, after those of slots and plan (R542);
in a doze tick it starts nothing (R541). -/
def State.doConvert (ws : List Word) (s : State) : Answer :=
  let w := ws.getD 0 0
  let n := w.bits 0 1
  if stray w 0x1F01 then s.bad 0
  else s.readyRun (seqUnit n) 0
    ((if s.dozeTick then s else (s.issueTrig n 101 (w.bits 8 5) (s.regN (seqUnit n * 256 + 2)) none).1).done
      [s.tick.count.setWidth 32])

/-- CONVERT (R303, R330, R510, R541). -/
def execConvert (h : Hdr) (ws : List Word) (s : State) : Host.Outcome State Fault Refusal :=
  .next (s.serve h 0x38 ws (State.doConvert ws))

/-- An area that a capture may not overlap: a result ring, a Geyser segment or a fabric SRAM port area, in force or
pending. -/
def State.captureBlocked (s : State) (a : Area) : Bool :=
  s.fabricAreas.any a.hits ||
    (s.viewDists s.sets 0).any fun d =>
      (ringAreas (s.viewAt s.sets d) ++ segmentAreas (s.viewAt s.sets d)).any a.hits

/-- The work of an arming CAPTURE request. -/
def State.doArm (ws : List Word) (s : State) : Answer :=
  let w := ws.getD 0 0
  let c : Side := if w.bit 4 then .b else .a
  let addr := (ws.getD 1 0).toNat
  let n := (ws.getD 2 0).toNat
  let t := (ws.getD 3 0).toNat
  if stray w 0x1F13 then s.bad 0
  else if addr % 8 ≠ 0 ∨ sramBytes ≤ addr then s.bad 1
  else if n = 0 ∨ 1048576 < n ∨ sramBytes < addr + 4 * n then s.bad 2
  else if t = 0 ∨ 65535 < t then s.bad 3
  else if s.captureBlocked ⟨.capture, 0, false, addr, 4 * n⟩ then s.bad 1
  else s.readyRun (convUnit (sideN c)) 0
    (s.enqueue 0x39 (.capture c (w.bits 8 5) addr n 0 (s.countAt t)) fun k => match k with
      | .capture q .. => q == c
      | _ => false)

/-- The words that a read of a space delivers, and what its errors change (R734, R735, R752; log 3). -/
def State.readSpace (s : State) (x1 : Bool) (addr n : Nat) (ecc : Ecc) : State × List Word :=
  if !x1 then s.readSram addr n ecc
  else
    let s1 := s.countBytes true (4 * n)
    if ecc = .strobe then (((s1.bump 0x3B08).emit 0x3B evXspiStrobe 0).useFree n, s1.freeWords n)
    else (s1, readWords s.psramByte addr n)

/-- The work of a reading CAPTURE request. It goes by the committed state (R274, R354); of a unit that has been forced into
FAULT and still reads RUNNING the spec states no words: they are free (DESIGN CHOICE, log 64). -/
def State.doRead (ws : List Word) (ecc : Ecc) (s : State) : Answer :=
  let w := ws.getD 0 0
  let x1 := w.bit 4
  let u := if x1 then 0x3B else 0x3C
  let size := if x1 then s.psramBytes else sramBytes
  let addr := (ws.getD 1 0).toNat
  let n := (ws.getD 2 0).toNat
  if stray w 0x13 then s.bad 0
  else if addr % 4 ≠ 0 ∨ size ≤ addr then s.bad 1
  else if n = 0 ∨ 254 < n ∨ size < addr + 4 * n then s.bad 2
  else if (s.unit u).st = .draining then s.refuseAt stUnitGone 0
  else if (s.unit u).st ≠ .running then s.refuseAt stUnitState 0
  else if (s.unit u).skewed then ((s.gone u).useFree n).done (s.freeWords n)
  else
    let r := s.readSpace x1 addr n ecc
    r.1.done r.2

/-- The work of a CAPTURE request (R304). -/
def State.doCapture (ws : List Word) (ecc : Ecc) (s : State) : Answer :=
  let action := (ws.getD 0 0).bits 0 2
  if 2 ≤ action then s.bad 0
  else if action = 0 then (if ws.length = 4 then State.doArm ws s else s.bad 0xFF)
  else if ws.length = 3 then State.doRead ws ecc s else s.bad 0xFF

/-- The words of an arming request. -/
def armWords (conv : Side) (entry : Fin 32) (addr count timeout : Word) : List Word :=
  [Word.of (sideN conv * 16 + entry.val * 256), addr, count, timeout]

/-- CAPTURE, arming (R305, R306). -/
def execCaptureArm (h : Hdr) (conv : Side) (entry : Fin 32) (addr count timeout : Word) (s : State) :
    Host.Outcome State Fault Refusal :=
  let ws := armWords conv entry addr count timeout
  .next (s.serve h 0x39 ws (State.doCapture ws .clean))

/-- CAPTURE, reading (R307): `ecc` says what the read finds. -/
def execCaptureRead (h : Hdr) (xspi : Bool) (addr count : Word) (ecc : Ecc) (s : State) :
    Host.Outcome State Fault Refusal :=
  let ws := [Word.of (1 + xspi.toNat * 16), addr, count]
  .next (s.serve h 0x39 ws (State.doCapture ws ecc))

/-! ### Fuses and counters (R308 to R311) -/

/-- The work of a FUSE_READ request; a count field of 0 stands for 64 (log 26). -/
def State.doFuseRead (ws : List Word) (s : State) : Answer :=
  let w := ws.getD 0 0
  let first := w.bits 0 6
  let n := if w.bits 8 6 = 0 then 64 else w.bits 8 6
  let view := w.bits 16 2
  if stray w 0x33F3F ∨ view = 3 ∨ 64 < first + n then s.bad 0
  else s.done ((List.range n).map fun i =>
    if view = 0 then s.fuseRow (first + i) else s.fuseCopy (view == 2) (first + i))

/-- FUSE_READ (R308, R213). -/
def execFuseRead (h : Hdr) (ws : List Word) (s : State) : Host.Outcome State Fault Refusal :=
  .next (s.serve h 0x40 ws (State.doFuseRead ws))

/-- A programming request that passed its other checks: R196, then R197 and R278; SINTER.PROG_RESULT reads QUEUED while the
job runs (R219). -/
def State.program (s : State) (op : Nat) (counter : Option Nat) (bits : List (Nat × Nat)) : Answer :=
  if !s.mayProgram then s.refuse stNotNow
  else match s.fuseJob counter bits with
    | none => s.done []
    | some f =>
      let a := s.enqueue op (.fuse f) fun k => match k with
        | .fuse _ => true
        | _ => false
      if a.2.1 = stQueued then (a.1.setReg 0x0307 0 (Word.of stQueued), a.2) else a

/-- The work of a FUSE_PROG request. -/
def State.doFuseProg (ws : List Word) (s : State) : Answer :=
  let row := (ws.getD 0 0).toNat
  let mask := ws.getD 1 0
  if 64 ≤ row then s.bad 0
  else
    let r := s.fuseRefusal row mask
    if r = stParamBad then s.bad 1
    else if r ≠ 0 then s.refuse r
    else s.program 0x41 none (((List.range 32).filter fun b => mask.bit b).map fun b => (row, b))

/-- FUSE_PROG (R309, R160, R161, R171 to R176, R189, R192, R196, R197, R216). -/
def execFuseProg (h : Hdr) (ws : List Word) (s : State) : Host.Outcome State Fault Refusal :=
  .next (s.serve h 0x41 ws (State.doFuseProg ws))

/-- COUNTER_READ (R310). -/
def execCounterRead (h : Hdr) (ws : List Word) (s : State) : Host.Outcome State Fault Refusal :=
  .next (s.serve h 0x42 ws fun s => s.done ((List.range 4).map s.counterWord))

/-- A LIFECYCLE advance that R657 refuses. -/
def State.lifeDenied (s : State) (value target : Nat) : Bool :=
  value + 1 < target || 3 < target || (target == 2 && !(s.securitySealed && (s.fuseRow 31).bit 20))

/-- The work of a COUNTER_ADVANCE request. A target at or below the value is answered DONE before the conditions of R196
are looked at, and a request that would burn meets them last, as a FUSE_PROG does (DESIGN CHOICE, log 63: R190 and R196 give
no order). -/
def State.doAdvance (ws : List Word) (s : State) : Answer :=
  let w := ws.getD 0 0
  let c := w.bits 0 2
  let target := w.bits 8 8
  let value := s.counterValue c
  let first := (counterShape c).1
  if stray w 0xFF03 then s.bad 0
  else if target ≤ value then s.done []
  else if (counterShape c).2 < target then (s.emit 0x03 evSinterExhausted c).refuse stExhausted
  else if (c == 0 && manSecver s.img.manifest < target) || (c == 1 && s.lifeDenied value target) then s.refuse stDenied
  else s.program 0x43 (some c) ((List.range (target - value)).map fun i =>
    (first + (value + i) / 32, (value + i) % 32))

/-- COUNTER_ADVANCE (R311, R190, R191, R196, R197, R207, R657). -/
def execCounterAdvance (h : Hdr) (ws : List Word) (s : State) : Host.Outcome State Fault Refusal :=
  .next (s.serve h 0x43 ws (State.doAdvance ws))

/-! ### Random numbers (R312, R313, R670 to R676) -/

/-- New random requests fail while the source retests or collects a seed, that of a reseed too, and once its sources have
stopped (R673). -/
def State.rngUnfit (s : State) : Bool := s.rng.retest != 0 || s.rng.seeding || s.reseeds || s.rng.stopped

/-- Bytes leave the output buffer for a request. -/
def State.drawRandom (s : State) (n : Nat) : State :=
  (({ s with rng := { s.rng with buf := s.rng.buf.drop n } } : State).countRandom n).refreshRng

/-- A RANDOM goes on as a job with the bytes it has (R312, R278). -/
def State.queueRandom (s : State) (n : Nat) (got : List Byte) : Answer :=
  s.readyRun 0x05 0 (s.enqueue 0x48 (.random n got) fun k => match k with
    | .random .. => true
    | _ => false)

/-- The work of a RANDOM request on transport `tr`: DONE where the buffer holds its bytes; else it draws what there is, and
its reply is decided when it is ready (R312). While a RANDOM job runs it is refused. -/
def State.doRandom (tr : Nat) (ws : List Word) (s : State) : Answer :=
  let n := (ws.getD 0 0).toNat
  if n = 0 ∨ 1012 < n then s.bad 0
  else s.readyRun 0x05 0
    (if s.rngUnfit then s.refuse stHealthFail
     else if n ≤ s.rng.buf.length ∧ !s.dozeTick then (s.drawRandom n).done (packRandom (s.rng.buf.take n))
     else if s.jobs.running.any (fun j => match j.kind with
        | .random .. => true
        | _ => false) then s.refuse stNotNow
     else if s.dozeTick then (s, stQueued, [])
     else
       let s1 : State := { s with rng := { s.rng with buf := [] } }
       ((s1.setTr tr { s1.trOf tr with got := s.rng.buf }).refreshRng, stQueued, []))

/-- RANDOM (R312, R313, R673, R676). -/
def execRandom (h : Hdr) (ws : List Word) (s : State) : Host.Outcome State Fault Refusal :=
  .next (s.serve h 0x48 ws (State.doRandom (trNum h.tr) ws))

end Sys2Proof.Machine
end

