-- ==== Sys2Proof/Machine/ImageOps.lean ====
section
/-! DEFINITION. Opcodes of image work and of debug unlock (chapters 6, 14, 15): IMAGE_OPEN, IMAGE_WRITE, IMAGE_VERIFY,
IMAGE_ACTIVATE, IMAGE_INFO and DEBUG_UNLOCK. -/

namespace Sys2Proof.Machine

/-- Any image job (R278). -/
def JobKind.onImage : JobKind → Bool
  | .imageOpen .. | .imageWrite .. | .imageVerify _ => true
  | _ => false

/-- The lengths that an IMAGE_OPEN of a target accepts (R703). -/
def openLengths (t : Nat) : Nat × Nat := if t ≤ 1 then (752, 8388608) else (256, 524288)

/-- A REGION_LOAD with source 1 runs (R718). -/
def State.stagingRead (s : State) : Bool := s.jobs.running.any fun j => match j.kind with
  | .regionLoad _ staging .. => staging
  | _ => false

/-- The slot from which the running set was loaded is target `t` (Table BOOT-6). -/
def State.loadedSlot (s : State) (t : Nat) : Bool := t ≤ 1 && (s.reg 0x0004).bits 8 2 == t + 1

/-- The work of an IMAGE_OPEN request. -/
def State.doImageOpen (ws : List Word) (s : State) : Answer :=
  let t := (ws.getD 0 0).toNat
  let n := (ws.getD 1 0).toNat
  if 2 < t then s.bad 0
  else if n < (openLengths t).1 ∨ (openLengths t).2 < n then s.bad 1
  else if s.loadedSlot t then s.refuse stDenied
  else if t = 2 ∧ s.stagingRead then s.refuse stNotNow
  else
    let a := s.enqueue 0x50 (.imageOpen t n) JobKind.onImage
    if a.2.1 = stQueued then
      ((((a.1.setReg 0x0010 0 (Word.of t)).setReg 0x0011 0 0).setReg 0x0012 0 (Word.of n)).setVerify t {}, a.2)
    else a

/-- IMAGE_OPEN (R314, R331, R703, R706, R718). -/
def execImageOpen (h : Hdr) (ws : List Word) (s : State) : Host.Outcome State Fault Refusal :=
  .next (s.serve h 0x50 ws (State.doImageOpen ws))

/-- The work of an IMAGE_WRITE request; `slow` says that the flash needs longer than 1 ms. -/
def State.doImageWrite (ws : List Word) (slow : Bool) (s : State) : Answer :=
  let t := s.regN 0x0010
  let p := s.regN 0x0011
  let data := ws.drop 1
  let addr := targetBase t + p
  if t = 3 ∨ s.imageJob.isSome then s.refuse stNotNow
  else if (ws.getD 0 0).toNat ≠ p then (s, stParamBad, [Word.of p])
  else if s.regN 0x0012 < p + 4 * data.length then s.bad 0xFF
  else
    let a := if slow then s.enqueue 0x51 (.imageWrite addr data) JobKind.onImage
      else (s.writeFlash addr data).done []
    if a.2.1 = stNotNow then a
    else ((a.1.setReg 0x0011 0 (Word.of (p + 4 * data.length))).setVerify t {}, a.2)

/-- IMAGE_WRITE (R315, R706). -/
def execImageWrite (h : Hdr) (ws : List Word) (slow : Bool) (s : State) : Host.Outcome State Fault Refusal :=
  .next (s.serve h 0x51 ws (State.doImageWrite ws slow))

/-- The work of an IMAGE_VERIFY request. -/
def State.doImageVerify (ws : List Word) (s : State) : Answer :=
  let t := (ws.getD 0 0).toNat
  if 2 < t then s.bad 0
  else if s.regN 0x0010 = t ∧ s.reg 0x0011 < s.reg 0x0012 then s.refuse stNotNow
  else s.enqueue 0x52 (.imageVerify t) JobKind.onImage

/-- IMAGE_VERIFY (R316, R704). -/
def execImageVerify (h : Hdr) (ws : List Word) (s : State) : Host.Outcome State Fault Refusal :=
  .next (s.serve h 0x52 ws (State.doImageVerify ws))

/-- A refused activation is logged on SYS (Table IMG-8). -/
def State.imgRefused (s : State) (status : Nat) : Answer := (s.emit 0x00 evImgRefused status).refuse status

/-- The work of an IMAGE_ACTIVATE request on transport `n`. -/
def State.doImageActivate (n : Nat) (ws : List Word) (s : State) : Answer :=
  let k := (ws.getD 0 0).toNat
  let mode := (ws.getD 1 0).toNat
  let secver := manSecver (s.slotManifest k)
  if 1 < k then s.bad 0
  else if 1 < mode then s.bad 1
  else if !((s.verify k).good && (s.verify k).code == 1) || (mode == 1 && s.programming) then s.refuse stNotNow
  else if 128 < secver then s.imgRefused stExhausted
  else if secver < s.counterValue 0 then s.imgRefused stIncompatible
  else match s.nextRecord with
    | none => s.refuse stNotNow
    | some loc =>
      let mseq := match s.marker with
        | none => (1 : Word)
        | some m => Word.of (m.2.1 + 1)
      let s1 := s.writeBytes State.setFlashByte (markerAddr loc) (recordBytes mseq (k + 1))
      let s2 := s1.emit 0x00 evImgActivated (k + 1 + mode * 4 + mseq.toNat % 2 ^ 24 * 256)
      (if mode = 1 ∨ s.boot.phase = .limited then s2.dueRestart 2 n else s2).done []

/-- IMAGE_ACTIVATE (R317, R327, R328, R688, R689, R707, R708). -/
def execImageActivate (h : Hdr) (ws : List Word) (s : State) : Host.Outcome State Fault Refusal :=
  .next (s.serve h 0x53 ws (State.doImageActivate (trNum h.tr) ws))

/-- The words of an IMAGE_INFO of a slot (R318). -/
def State.infoWords (s : State) (k : Nat) : List Word :=
  let man := s.slotManifest k
  let v := s.verify k
  let named := match s.marker with
    | none => false
    | some m => m.2.2 == k + 1
  let il := fun i => (manMember man i).ilev
  Word.of (v.code + v.good.toNat * 16 + named.toNat * 32 + (s.loadedSlot k).toNat * 64) ::
    if !manifestOk man then List.replicate 9 0
    else [Word.of (manSecver man), Word.of (manMinStep man), Word.of (il 0 + il 1 * 65536), Word.of (il 2)] ++
      ((List.range 4).map fun j => Word.of (il (3 + 2 * j) + il (4 + 2 * j) * 65536)) ++ [Word.of (manSetLen man)]

/-- IMAGE_INFO (R318). -/
def execImageInfo (h : Hdr) (ws : List Word) (s : State) : Host.Outcome State Fault Refusal :=
  .next (s.serve h 0x54 ws fun s =>
    if 1 < (ws.getD 0 0).toNat then s.bad 0 else s.done (s.infoWords (ws.getD 0 0).toNat))

/-! ### Debug unlock (R321 to R323, R662 to R665, R677) -/

/-- The unique ID as delivered. -/
def State.uid (s : State) : List Word := (List.range 4).map fun i => s.dlvRow (20 + i)

/-- The output buffer after a generate call, where the DRBG can make one now (R669). -/
def State.topUp (s : State) : State :=
  if s.rng.live ∧ s.rng.calls < 4096 ∧ !s.dozeTick ∧ s.rng.buf.length < 16 then
    let g := ctrGenerate s.rng.key s.rng.v
    { s with rng := { s.rng with buf := s.rng.buf ++ g.1, key := g.2.1, v := g.2.2, calls := s.rng.calls + 1 } }
  else s

/-- The work of a challenge: 16 fresh bytes are the new nonce (log 27 where the source has fewer at hand). -/
def State.doChallenge (s : State) : Answer :=
  if !s.isRunning 0x05 then s.refuseAt stUnitState 0
  else if s.rngUnfit then
    ({ s with sec := { s.sec with nonce := none } } : State).refuse stHealthFail
  else
    let s1 := s.topUp
    if s1.rng.buf.length < 16 then s.refuse stNotNow
    else
      let nonce := s1.rng.buf.take 16
      let s2 := s1.drawRandom 16
      ({ s2 with sec := { s2.sec with nonce := some nonce } } : State).done (s.uid ++ wordsOfBytes nonce)

/-- The signed message of a response (R663). -/
def State.unlockMessage (s : State) (nonce : List Byte) (scope : Nat) : List Byte :=
  [0x44, 0x42, 0x47, 0x31] ++ s.uid.flatMap Word.bytes ++ nonce ++ [BitVec.ofNat 8 scope, 0, 0, 0]

/-- Why a response is denied: 0 not at all, 1 signature, 2 no nonce, 3 slot unusable (R664, Table SEC-5). -/
def State.unlockReason (s : State) (slot scope : Nat) (sig : List Word) : Nat :=
  let key := manKey s.img.manifest slot
  let bs := sig.flatMap Word.bytes
  match s.sec.nonce with
  | none => 2
  | some nonce =>
    if !s.keyUsable slot || key.all (· == 0) then 3
    else if ecdsaVerify key (s.unlockMessage nonce scope) (bs.take 32) (bs.drop 32) then 0 else 1

/-- The work of a response. -/
def State.doResponse (ws : List Word) (s : State) : Answer :=
  let w := ws.getD 0 0
  let slot := w.bits 1 1
  let scope := w.bits 8 2
  if stray w 0x303 ∨ scope = 0 then s.bad 0
  else
    let why := s.unlockReason slot scope (ws.drop 1)
    let s1 : State := { s with sec := { s.sec with nonce := none } }
    if why = 0 then
      let z : State := { s1 with sec := { s1.sec with scope := s1.sec.scope ||| scope, slot := slot } }
      (z.emit 0x04 evSecUnlock (scope + slot * 4)).done []
    else ((s1.bump 0x0404).emit 0x04 evSecUnlockDenied (slot * 4 + why * 16)).refuse stDenied

/-- The work of a DEBUG_UNLOCK request. -/
def State.doUnlock (ws : List Word) (s : State) : Answer :=
  let w := ws.getD 0 0
  if ws.length ≠ (if w.bit 0 then 17 else 1) then s.bad 0xFF
  else if w.bit 0 then State.doResponse ws s
  else if w = 0 then s.doChallenge else s.bad 0

/-- DEBUG_UNLOCK, a challenge (R321, R323, R677). -/
def execDebugUnlockChallenge (h : Hdr) (s : State) : Host.Outcome State Fault Refusal :=
  .next (s.serve h 0x70 [0] (State.doUnlock [0]))

/-- The words of a response. -/
def responseWords (slot : Bool) (scope : Fin 256) (sig : List Word) : List Word :=
  Word.of (1 + slot.toNat * 2 + scope.val * 256) :: sig

/-- DEBUG_UNLOCK, a response (R322, R323, R662 to R665). -/
def execDebugUnlockResponse (h : Hdr) (slot : Bool) (scope : Fin 256) (sig : List Word) (s : State) :
    Host.Outcome State Fault Refusal :=
  .next (s.serve h 0x70 (responseWords slot scope sig) (State.doUnlock (responseWords slot scope sig)))

end Sys2Proof.Machine
end

