-- ==== Sys2Proof/Machine/ParamOps.lean ====
section
/-! DEFINITION. Parameter access (R5, R14 to R18, R284 to R291): GET, SET, SET_NOW, SET_GROUP and CANCEL_PENDING, and the
rows of single parameters, which are a GET or a SET of one. -/

namespace Sys2Proof.Machine

/-! ### What a request names -/

/-- The parameter instance that the first words of a request name, with `extra` words after ID and sub-index; else the
index of the word that decides the refusal (R5, R14, R15). -/
def targetOf (ws : List Word) (extra : Nat) : Sum Nat (Nat × Nat) :=
  let w := ws.getD 0 0
  let id := w.bits 0 16
  if w.bits 16 16 ≠ 0 ∨ (paramRow id).isNone then .inl 0
  else if indexedUnit (id / 256) then
    if ws.length = 1 + extra then .inl 0xFF
    else if subOk id (ws.getD 1 0).toNat then .inr (id, (ws.getD 1 0).toNat) else .inl 1
  else if ws.length = 1 + extra then .inr (id, 0) else .inl 1

/-- The bits of a parameter that a written 1 clears (R16). -/
def w1cMask (id : Nat) : Nat :=
  let u := id / 256
  let i := id % 256
  if id = 0x0018 then 6 else if id = 0x0209 then 0x42 else if id = 0x0501 then 4 else if id = 0x0605 then 0xF
  else if u = 0x08 ∨ u = 0x09 then 0x28
  else if u = 0x0A ∨ u = 0x0B then 6
  else if 0x10 ≤ u ∧ u ≤ 0x17 then 0x18
  else if id = 0x1809 then 8 else if id = 0x1A05 then 2 else if id = 0x1B18 then 0xFFFFFF
  else if id = 0x2812 then 0x3F
  else if 0x30 ≤ u ∧ u ≤ 0x33 ∧ i = 0x0D then 0x3C1
  else if id = 0x38E0 then 0xFFFFFF else if id = 0x3983 then 0xFFFF else 0

/-! ### GET -/

/-- What a GET changes: the capture of R24, and the entry that a GET of RX_POP removes (R792). -/
def State.afterGet (s : State) (id : Nat) : State :=
  let u := id / 256
  if id = 0x0102 then s.setReg 0x0103 0 ((s.tick.count >>> 32).setWidth 32)
  else if 0x30 ≤ u ∧ u ≤ 0x33 ∧ id % 256 = 0x0B then s.popRx (u - 0x30)
  else s

/-- The host is the consumer of a channel's queues (R252, R792). -/
def State.hostQueue (s : State) (u : Nat) : Bool := !s.isTransport u && !s.regBit (uartId u 5) 0 0

/-- RX_POP or TX_PUSH of a channel whose queues do not serve the host (R792). -/
def State.notHost (s : State) (id : Nat) : Bool :=
  let u := id / 256
  0x30 ≤ u && u ≤ 0x33 && (id % 256 == 0x0A || id % 256 == 0x0B) && !s.hostQueue (u - 0x30)

/-- The GET of an instance (R284, R377). -/
def State.getParam (s : State) (id sub : Nat) : Answer :=
  let mine := s.sets.filter fun x => x.id == id && x.sub == sub
  let now := s.read id sub
  let last := if id % 256 = 0xF0 then Word.of (s.stateFinal (id / 256))
    else if mine.isEmpty then now else s.viewAt s.sets (2 ^ 48) id sub
  let pend := !mine.isEmpty ||
    (id % 256 == 0xF0 && (s.changePending (id / 256) || s.stateFinal (id / 256) != s.stateCode (id / 256)))
  let w0 := Word.of (id + pend.toNat * 65536)
  if writeOnly id then s.unlessDraining (id / 256) 0 (s.done [w0, 0, 0])
  else if s.notHost id then s.refuse stNotNow
  else s.unlessDraining (id / 256) 0 ((s.afterGet id).done [w0, now, last])

/-- The work of a GET request. -/
def State.doGet (ws : List Word) (s : State) : Answer :=
  match targetOf ws 0 with
  | .inl i => s.bad i
  | .inr (id, sub) => s.getParam id sub

/-! ### Writes that are actions -/

/-- The counters that the set bits of a word clear, from an ID on, upward. -/
def State.clearCounters (s : State) (first n : Nat) (w : Word) : State :=
  s.each ((List.range n).filter fun i => w.bit i) fun s i => s.setReg (first + i) 0 0

/-- A byte enters the transmit queue. -/
def State.pushTx (s : State) (u : Nat) (b : Byte) : State :=
  (s.setUart u { s.uartOf u with txq := (s.uartOf u).txq ++ [b] })

/-- What a write to a write-only parameter does (R68, R203, R269, R665, R792). -/
def State.writeAction (s : State) (id : Nat) (w : Word) : State :=
  let u := id / 256
  if id = 0x010F then s.clearCounters 0x0106 6 w
  else if id = 0x3D0D then s.clearCounters 0x3D02 7 w
  else if id = 0x0305 then
    (if w.bit 0 && s.sint.scan.isNone then { s with sint := { s.sint with scan := some false } } else s)
  else if id = 0x0403 then (if w.bit 0 then s.relock 1 else s)
  else if 0x30 ≤ u ∧ u ≤ 0x33 then s.pushTx (u - 0x30) (w.setWidth 8)
  else s

/-- Arming auto-baud abandons the character in progress; the receiver decodes none (R799, R822). -/
def State.armAutobaud (s : State) (u : Nat) (w : Word) : State :=
  let s1 := (s.setReg (uartId u 8) 0 w).setRegBit (uartId u 0x0D) 0 5 (w.bit 0)
  if w.bit 0 then s1.setUart u { s1.uartOf u with inChar := false } else s1

/-- TX_CONTEND clears: UnTX is driven high again, and the next byte starts 16 sample intervals later (R805). -/
def State.resumeTx (s : State) (u : Nat) : State :=
  s.setUart u { s.uartOf u with txT := s.now + s.regN (uartId u 1) / 16 }

/-- A value of a parameter that is not pending-at-a-tick takes effect on completion (R16, R17, R285). -/
def State.writeNow (s : State) (id sub : Nat) (w : Word) : State :=
  let u := id / 256
  let i := id % 256
  match paramRow id with
  | none => s
  | some row => match row.acc with
    | .ro => s
    | .wo => s.writeAction id w
    | .w1c =>
      let s1 := if 0x30 ≤ u ∧ u ≤ 0x33 ∧ i = 0x0D ∧ w.bit 0 ∧ s.regBit id 0 0 then s.resumeTx (u - 0x30) else s
      s1.setReg id sub (s.reg id sub &&& ~~~(w &&& Word.of (w1cMask id)))
    | .rw =>
      if (u = 0x0A ∨ u = 0x0B) ∧ 0x68 ≤ i ∧ i ≤ 0x6F then
        (s.setReg id sub w).refreshThresh (8 * (u - 0x0A) + i - 0x68)
      else if 0x30 ≤ u ∧ u ≤ 0x33 ∧ i = 8 then s.armAutobaud (u - 0x30) w
      else s.setReg id sub w

/-- The rules of values that apply on completion (R535, R758, R792, R822). -/
def State.actionOk (s : State) (id : Nat) (w : Word) : Bool :=
  let u := id / 256
  let i := id % 256
  if (u = 0x0A ∨ u = 0x0B) ∧ 0x68 ≤ i ∧ i ≤ 0x6F then
    let ring := 8 * (u - 0x0A) + i - 0x68
    let n := ringSize (s.reg (ringId ring 0x58))
    decide (w.toNat < n) && decide ((w.toNat + n - s.regN id) % n ≤ s.ringLevel ring)
  else if u = 0x38 ∧ 0x40 ≤ i ∧ i < 0x58 then
    let ch := i - 0x40
    let m := 2 ^ (s.dmaCfg ch).bits 5 4
    let have_ := s.dmaPending (fun a b => s.reg a b) ch
    decide (w.toNat < m) && decide (have_ ≤ (w.toNat + m - s.regN (0x3860 + ch)) % m)
  else if 0x30 ≤ u ∧ u ≤ 0x33 then
    if i = 0x0A then decide ((s.uartOf (u - 0x30)).txq.length < (s.depths (u - 0x30)).2)
    else if i = 8 then !(w.bit 0 && s.linMode (u - 0x30))
    else true
  else true

/-! ### SET and SET_NOW -/

/-- TBUS.DOZE = 1 on a follower that has not seen its master's mark (R91). -/
def State.dozeEarly (s : State) (v : View) (id : Nat) (w : Word) : Bool :=
  id == 0x0207 && w == 1 && v 0x0101 0 == 1 && !s.regBit 0x0209 0 5

/-- The effect of a value: at a tick, or on completion. -/
def effectOf (id : Nat) : Effect := match paramRow id with
  | some r => r.eff
  | none => .now

/-- The parameter is read only. -/
def readOnly (id : Nat) : Bool := match paramRow id with
  | some r => r.acc == .ro
  | none => true

/-- A value takes effect now with everything that a commit of it would entail. -/
def State.putNow (s : State) (id sub : Nat) (w : Word) : State :=
  if effectOf id = .now then s.writeNow id sub w
  else
    let s1 := s.applyValues [(id, sub, w)]
    let u := id / 256
    let s2 := if (u = 0x08 ∨ u = 0x09) ∧ (id % 256 = 1 ∨ id % 256 = 2) then s1.regrid (u - 8) else s1
    s2.refreshHold false

/-- The settings that a request at this commit point may discard: those that `pick` names and that a later boundary
commits, with their groups (R63, R287, R291). -/
def State.reached (s : State) (pick : Setting → Bool) : List Setting :=
  let hit := s.sets.filter fun x => pick x && decide (s.commitDist ≤ s.dist x.bound)
  s.sets.filter fun x => hit.contains x || (x.group != 0 && hit.any fun y => y.group == x.group)

/-- The state without some settings. -/
def State.without (s : State) (xs : List Setting) : State :=
  { s with sets := s.sets.filter fun x => !xs.contains x }

/-- The checks of a value that R286 and the parameter's own rules make, with the value word's index; `z` is the state in
whose values the rules over several parameters must hold. -/
def State.checkValue (s z : State) (sets : List Setting) (d id sub : Nat) (w : Word) (vi : Nat) (ok : Answer) : Answer :=
  if !valueOk id sub w then s.bad vi
  else if s.notHost id then s.refuse stNotNow
  else if !s.actionOk id w || !z.crossOkFrom sets d id sub then s.bad vi
  else if s.dozeEarly (z.viewAt sets d) id w then s.refuse stNotNow
  else s.unlessDraining (id / 256) 0 ok

/-- The SET of a value that waits for its boundary (R28, R29, R285). -/
def State.setTick (s : State) (id sub : Nat) (w : Word) (vi : Nat) : Answer :=
  let d := s.commitDist
  let x : Setting := { id := id, sub := sub, val := w, bound := s.countAt d, group := 0, boot := false }
  let sets := s.sets ++ [x]
  s.checkValue s sets d id sub w vi (({ s with sets := sets } : State).done [Word.of (s.countAt d)])

/-- The SET of a value that applies on completion (R18, R285). -/
def State.setAtOnce (s : State) (sets : List Setting) (id sub : Nat) (w : Word) (vi : Nat) : Answer :=
  let plain : Bool := match paramRow id with
    | some r => r.acc == .rw
    | none => false
  let new : State := { s with sets := sets }
  s.checkValue (if plain then s.setReg id sub w else s) sets 0 id sub w vi
    (if effectOf id = .stopped ∧ s.isRunning (id / 256) then s.refuseAt stUnitState 0
     else (new.putNow id sub w).done [])

/-- The work of a SET of an instance. -/
def State.setParam (s : State) (id sub : Nat) (w : Word) (vi : Nat) : Answer :=
  if readOnly id then s.bad 0
  else if effectOf id = .tick then s.setTick id sub w vi
  else s.setAtOnce s.sets id sub w vi

/-- The work of a SET request. -/
def State.doSet (ws : List Word) (s : State) : Answer :=
  match targetOf ws 1 with
  | .inl i => s.bad i
  | .inr (id, sub) => s.setParam id sub (ws.getLastD 0) (ws.length - 1)

/-- The work of a SET_NOW request (R287). -/
def State.doSetNow (ws : List Word) (s : State) : Answer :=
  match targetOf ws 1 with
  | .inl i => s.bad i
  | .inr (id, sub) =>
    let u := id / 256
    if readOnly id || ((u == 1 || u == 2 || u == 0x3D) && effectOf id == .tick) then s.bad 0
    else
      let drop := s.reached fun x => x.id == id && x.sub == sub
      s.setAtOnce (s.without drop).sets id sub (ws.getLastD 0) (ws.length - 1)

/-! ### SET_GROUP -/

/-- An entry of a group: parameter, value, and the indices of its ID word and its value word. -/
structure GroupEntry where
  id  : Nat
  sub : Nat
  val : Word
  ii  : Nat
  vi  : Nat
  deriving DecidableEq, Repr

/-- The entries that the words after word 0 spell, with the index of the first word of each; none where they do not fill
the request (R288). -/
def groupEntries : Nat → List Word → Nat → Option (List GroupEntry)
  | 0, [], _ => some []
  | 0, _ :: _, _ => none
  | n + 1, ws, i =>
    let id := (ws.getD 0 0).toNat
    if indexedUnit (id / 256 % 256) then
      match ws with
      | _ :: sub :: v :: t =>
        (groupEntries n t (i + 3)).map ({ id := id, sub := sub.toNat, val := v, ii := i, vi := i + 2 } :: ·)
      | _ => none
    else
      match ws with
      | _ :: v :: t => (groupEntries n t (i + 2)).map ({ id := id, sub := 0, val := v, ii := i, vi := i + 1 } :: ·)
      | _ => none

/-- The refusal of an entry by itself: index and status, its words in order (R286, R289). -/
def State.entryError (s : State) (before : List GroupEntry) (e : GroupEntry) : Option (Nat × Nat) :=
  if 65536 ≤ e.id ∨ (paramRow e.id).isNone ∨ effectOf e.id ≠ .tick ∨ readOnly e.id then some (e.ii, stParamBad)
  else if before.any fun b => b.id == e.id && b.sub == e.sub then some (e.ii, stParamBad)
  else if indexedUnit (e.id / 256) && !subOk e.id e.sub then some (e.ii + 1, stParamBad)
  else if !valueOk e.id e.sub e.val then some (e.vi, stParamBad)
  else if (s.unit (e.id / 256)).st = .draining then some (e.ii, stUnitGone)
  else none

/-- The entries that pass by themselves, and the refusals of the others. -/
def State.sortEntries (s : State) : List GroupEntry → List GroupEntry → List GroupEntry × List (Nat × Nat)
  | _, [] => ([], [])
  | before, e :: t =>
    let r := State.sortEntries s (before ++ [e]) t
    match s.entryError before e with
    | none => (e :: r.1, r.2)
    | some x => (r.1, x :: r.2)

/-- The settings of a group. -/
def groupSettings (es : List GroupEntry) (bound group : Nat) : List Setting :=
  es.map fun e => { id := e.id, sub := e.sub, val := e.val, bound := bound, group := group, boot := false }

/-- Parameters that the placement rules of areas bind together (R532, R739, R757). -/
def placed (id : Nat) : Bool :=
  let u := id / 256
  let i := id % 256
  ((u == 0x0A || u == 0x0B) && 0x50 ≤ i && i ≤ 0x5F) || (u == 0x39 && i < 0x20) ||
    (u == 0x38 && (i < 0x40 || (0x80 ≤ i && i < 0xA0))) || id == 0x3B02

/-- Two entries of a group stand in one rule over several parameters. -/
def GroupEntry.mates (a b : GroupEntry) : Bool :=
  let both := fun (x y : Nat) => (a.id == x && b.id == y) || (a.id == y && b.id == x)
  let u := a.id / 256
  let i := a.id % 256
  let w := b.id / 256
  let j := b.id % 256
  let seq := fun (x y : Nat) => x == 0x0A || x == 0x0B || y == 0x0A || y == 0x0B
  both 0x0201 0x0202 || both 0x0202 0x0100 || both 0x0100 0x0207 || both 0x0101 0x0200 ||
    (placed a.id && placed b.id) ||
    ((u == 8 || u == 9) && u == w && i + j == 9) ||
    (seq u w && (u == w || u + 2 == w || w + 2 == u) && i < 0x50 && j < 0x50) ||
    (seq u w && (0x10 ≤ max u w && max u w ≤ 0x17) && (if u < w then j else i) == 3) ||
    (0x10 ≤ u && u ≤ 0x17 && u == w) ||
    (0x10 ≤ u && u ≤ 0x17 && 0x10 ≤ w && w ≤ 0x17 && (i == 0 || i == 2) && (j == 0 || j == 2)) ||
    ((u == 0x18 || u == 0x1B) && u == w && a.sub == b.sub) ||
    (0x30 ≤ u && u ≤ 0x33 && u == w) ||
    (a.id == 0x3D00 && 0x30 ≤ w && w ≤ 0x33) || (b.id == 0x3D00 && 0x30 ≤ u && u ≤ 0x33)

/-- The refusal of an entry for rules over several parameters: of the entries that fail in one rule with it, it names the
latest (R289). -/
def State.conflict (s : State) (es : List GroupEntry) (bound d : Nat) (e : GroupEntry) : Option (Nat × Nat) :=
  let sets := s.sets ++ groupSettings es bound 0
  let fails := fun (x : GroupEntry) => !s.crossOkFrom sets d x.id x.sub
  if fails e then
    some ((es.filter fun f => e.mates f && fails f).foldl (fun m f => max m f.vi) e.vi, stParamBad)
  else if s.dozeEarly (s.viewAt sets d) e.id e.val then some (e.vi, stNotNow)
  else none

/-- The work of a SET_GROUP request (R288 to R290). -/
def State.doSetGroup (ws : List Word) (s : State) : Answer :=
  let n := (ws.getD 0 0).toNat
  if n = 0 ∨ 63 < n then s.bad 0
  else match groupEntries n (ws.drop 1) 1 with
    | none => s.bad 0xFF
    | some all =>
      let r := s.sortEntries [] all
      let d := s.commitDist
      let bound := s.countAt d
      let fails := r.2 ++ r.1.filterMap fun e => s.conflict r.1 bound d e
      match fails with
      | [] =>
        let g := s.tick.groups + 1
        (({ s with sets := s.sets ++ groupSettings all bound g, tick := { s.tick with groups := g } } : State)).done
          [Word.of bound]
      | f :: t =>
        let m := t.foldl (fun a b => if b.1 < a.1 then b else a) f
        if m.2 = stNotNow then s.refuse stNotNow else s.refuseAt m.2 m.1

/-! ### CANCEL_PENDING -/

/-- The work of a CANCEL_PENDING request (R63, R291). -/
def State.doCancel (ws : List Word) (s : State) : Answer :=
  let cancel := fun (pick : Setting → Bool) =>
    let xs := s.reached pick
    (s.without xs).done [Word.of xs.length]
  if ws.getD 0 0 = 0xFFFF then (if ws.length = 1 then cancel fun _ => true else s.bad 1)
  else match targetOf ws 0 with
    | .inl i => s.bad i
    | .inr (id, sub) => s.unlessDraining (id / 256) 0 (cancel fun x => x.id == id && x.sub == sub)

/-! ### Commands -/

/-- GET (R284, R24, R792). -/
def execGet (h : Hdr) (ws : List Word) (s : State) : Host.Outcome State Fault Refusal :=
  .next (s.serve h 0x10 ws (State.doGet ws))

/-- SET (R285, R286, R18). -/
def execSet (h : Hdr) (ws : List Word) (s : State) : Host.Outcome State Fault Refusal :=
  .next (s.serve h 0x11 ws (State.doSet ws))

/-- SET_NOW (R287). -/
def execSetNow (h : Hdr) (ws : List Word) (s : State) : Host.Outcome State Fault Refusal :=
  .next (s.serve h 0x12 ws (State.doSetNow ws))

/-- SET_GROUP (R288 to R290). -/
def execSetGroup (h : Hdr) (ws : List Word) (s : State) : Host.Outcome State Fault Refusal :=
  .next (s.serve h 0x13 ws (State.doSetGroup ws))

/-- CANCEL_PENDING (R291, R63). -/
def execCancelPending (h : Hdr) (ws : List Word) (s : State) : Host.Outcome State Fault Refusal :=
  .next (s.serve h 0x14 ws (State.doCancel ws))

/-- A SET of one parameter that is not indexed. -/
def State.setOne (s : State) (h : Hdr) (id : Nat) (w : Word) : State :=
  s.serve h 0x11 [Word.of id, w] (State.doSet [Word.of id, w])

/-- A GET of one parameter that is not indexed. -/
def State.getOne (s : State) (h : Hdr) (id : Nat) : State := s.serve h 0x10 [Word.of id] (State.doGet [Word.of id])

/-- TICK_COUNT_LO_READ (R24): a GET of TICK.COUNT_LO captures the upper bits of the count. -/
def execTickCountLoRead (h : Hdr) (s : State) : Host.Outcome State Fault Refusal := .next (s.getOne h 0x0102)

/-- TICK_CNT_CLR (R68, R69): a SET of TICK.CNT_CLR clears the counters whose bits are 1. -/
def execTickCntClr (h : Hdr) (v : Word) (s : State) : Host.Outcome State Fault Refusal := .next (s.setOne h 0x010F v)

/-- HOST_CNT_CLR (R269, R270). -/
def execHostCntClr (h : Hdr) (v : Word) (s : State) : Host.Outcome State Fault Refusal := .next (s.setOne h 0x3D0D v)

/-- SINTER_SCAN (R203): a SET of SINTER.SCAN = 1 starts a scan. -/
def execSinterScan (h : Hdr) (v : Word) (s : State) : Host.Outcome State Fault Refusal := .next (s.setOne h 0x0305 v)

/-- RING_RD_WRITE (R535): a SET of SEQ.RING_RD moves the read position. -/
def execRingRdWrite (h : Hdr) (ring : Fin 16) (v : Word) (s : State) : Host.Outcome State Fault Refusal :=
  .next (s.setOne h (ringId ring.val 0x68) v)

/-- DMA_HEAD_WRITE (R758): a SET of DMA.HEADn adds descriptors. -/
def execDmaHeadWrite (h : Hdr) (ch : Fin 24) (v : Word) (s : State) : Host.Outcome State Fault Refusal :=
  .next (s.setOne h (0x3840 + ch.val) v)

/-- RX_POP (R792): a GET of UART.RX_POP returns and removes the oldest entry. -/
def execRxPop (h : Hdr) (u : Fin 4) (s : State) : Host.Outcome State Fault Refusal := .next (s.getOne h (uartId u.val 0x0B))

/-- TX_PUSH (R792): a SET of UART.TX_PUSH appends a byte. -/
def execTxPush (h : Hdr) (u : Fin 4) (v : Word) (s : State) : Host.Outcome State Fault Refusal :=
  .next (s.setOne h (uartId u.val 0x0A) v)

/-- AUTOBAUD_ARM (R799, R822): a SET of UART.AUTOBAUD. -/
def execAutobaudArm (h : Hdr) (u : Fin 4) (v : Word) (s : State) : Host.Outcome State Fault Refusal :=
  .next (s.setOne h (uartId u.val 8) v)

/-- SEC_RELOCK (R665): a SET of SEC.RELOCK = 1 ends the unlock. -/
def execSecRelock (h : Hdr) (v : Word) (s : State) : Host.Outcome State Fault Refusal := .next (s.setOne h 0x0403 v)

/-- ALERT_LATCH_CLEAR (R367): a SET of FUMA.ALERT_LATCH clears the bits written 1. -/
def execAlertLatchClear (h : Hdr) (v : Word) (s : State) : Host.Outcome State Fault Refusal := .next (s.setOne h 0x0605 v)

/-- TX_CONTEND_CLEAR (R805): a SET of UART.STATUS clears TX_CONTEND and the other W1C bits written 1. -/
def execTxContendClear (h : Hdr) (u : Fin 4) (v : Word) (s : State) : Host.Outcome State Fault Refusal :=
  .next (s.setOne h (uartId u.val 0x0D) v)

end Sys2Proof.Machine
end

