-- ==== Sys2Proof/Machine/Request.lean ====
section
/-! DEFINITION. REQUEST_COMMIT: the bytes of a whole packet at their commit point (R220, R226 to R231, Table CMD-4); and
REPLY_READY. -/

namespace Sys2Proof.Machine

/-- The work of an opcode on transport `n` (Table OPS-1). The flash takes no longer than 1 ms for a write, and reads meet no
error; the rows of IMAGE_WRITE and CAPTURE carry these as operands. -/
def runOpcode (n op : Nat) (ws : List Word) (s : State) : Answer :=
  if op = 0x01 then s.done s.identWords
  else if op = 0x02 then s.done s.statusWords
  else if op = 0x03 then State.doPoll ws s
  else if op = 0x04 then s.done ws
  else if op = 0x10 then State.doGet ws s
  else if op = 0x11 then State.doSet ws s
  else if op = 0x12 then State.doSetNow ws s
  else if op = 0x13 then State.doSetGroup ws s
  else if op = 0x14 then State.doCancel ws s
  else if op = 0x20 then State.doPower ws s
  else if op = 0x21 then State.doReset ws s
  else if op = 0x22 then State.doState ws s
  else if op = 0x28 then State.doPlanLoad ws s
  else if op = 0x29 then State.doPlanSwap ws s
  else if op = 0x30 then State.doRegionLoad ws s
  else if op = 0x31 then State.doRegionSwap ws s
  else if op = 0x34 then State.doCoefLoad ws s
  else if op = 0x35 then State.doCoefSwap ws s
  else if op = 0x38 then State.doConvert ws s
  else if op = 0x39 then State.doCapture ws .clean s
  else if op = 0x40 then State.doFuseRead ws s
  else if op = 0x41 then State.doFuseProg ws s
  else if op = 0x42 then s.done ((List.range 4).map s.counterWord)
  else if op = 0x43 then State.doAdvance ws s
  else if op = 0x48 then State.doRandom n ws s
  else if op = 0x50 then State.doImageOpen ws s
  else if op = 0x51 then State.doImageWrite ws false s
  else if op = 0x52 then State.doImageVerify ws s
  else if op = 0x53 then State.doImageActivate n ws s
  else if op = 0x54 then
    (if 1 < (ws.getD 0 0).toNat then s.bad 0 else s.done (s.infoWords (ws.getD 0 0).toNat))
  else if op = 0x60 then State.doLogRead ws s
  else if op = 0x61 then State.doLogClear ws s
  else if op = 0x70 then State.doUnlock ws s
  else if op = 0x7E then State.doSoftReset n ws s
  else s.done []

/-- SYNC and length of a packet (R220): check 1 of Table CMD-4. -/
def packetFramed (bs : List Byte) : Bool :=
  bs.getD 0 0 == 0xC5 && decide (bs.length = 8 + 4 * (bs.getD 3 0).toNat)

/-- The CRC field of a packet equals the CRC of its covered bytes (R224, R225): check 2. -/
def packetCrcOk (bs : List Byte) : Bool :=
  readWord (fun i => bs.getD i 0) (bs.length - 4) == crc32c ((bs.take (bs.length - 4)).drop 1)

/-- The parameter words of a packet. -/
def packetWords (bs : List Byte) : List Word := wordsOfBytes ((bs.take (bs.length - 4)).drop 4)

/-- REQUEST_COMMIT (R226 to R236, R242, R243, R255, R257, R260, R263 to R265): the last CRC byte of a packet arrives `dt`
cycles from now; the checks of Table CMD-4 decide in order. -/
def execRequestCommit (tr : Transport) (dt : Nat) (bytes : List Byte) (s : State) : Host.Outcome State Fault Refusal :=
  let n := trNum tr
  let seq := bytes.getD 1 0
  let op := (bytes.getD 2 0).toNat
  .next (let s1 := s.toCommit n dt
    if !s1.hears n then s1
    else if s1.garbled n then s1.garbage
    else
      let s2 := s1.taken n
      if !packetFramed bytes then s2.frameBad n seq
      else if !packetCrcOk bytes then
        (s2.transportError n 2 seq).errReply n { seq := seq, status := stCrcBad, op := 0, words := [] }
      else s2.commitRequest n seq op (packetWords bytes) (runOpcode n op (packetWords bytes)))

/-- The reply of an executing request as it stands when it is ready. A RANDOM whose bytes are not all there goes on as a job
(R312); a LOG_READ whose first entry has been overwritten or cleared since reads the log again (R333, R374). -/
def State.finalReply (s : State) (n : Nat) (r : Reply) : State × Reply :=
  let t := s.trOf n
  let as_ := fun (a : Answer) => (a.1, { r with status := a.2.1, words := a.2.2 })
  if r.op = 0x48 ∧ r.status = stQueued then as_ (s.queueRandom (t.ask.getD 0 0).toNat t.got)
  else if r.op = 0x60 ∧ r.status = stDone ∧
      2 ^ 31 ≤ (r.words.getD 0 0 - (s.reg 0x0601 - Word.of s.fuma.log.length)).toNat then as_ (State.doLogRead t.ask s)
  else (s, r)

/-- REPLY_READY (R229 to R231, R244, R245, R248): with `p.error` the oldest error reply in preparation is ready, else the reply
of the executing request: it becomes the stored reply, and the request is executing no longer. -/
def execReplyReady (p : Prepared) (s : State) : Host.Outcome State Fault Refusal :=
  let n := trNum p.tr
  .next (if p.error then s.errorReady n
    else match (s.trOf n).exec with
    | none => s
    | some r =>
      let f := s.finalReply n r
      (f.1.setTr n { f.1.trOf n with stored := some f.2, exec := none, ask := [], got := [] }).announce n f.2)

end Sys2Proof.Machine
end

