-- ==== Sys2Proof/Machine/Tap.lean ====
section
/-! DEFINITION. The test access port (chapter 19, R660): TAP_RESET, EXTEST, IDCODE, SAMPLE_PRELOAD, CLAMP, HIGHZ, BYPASS and
PRIVATE_DEBUG. While the controller is held in Test-Logic-Reset no instruction loads (R863). -/

namespace Sys2Proof.Machine

/-- The device identification register (R865). -/
def idcodeValue : BitVec 164 := 0x3048096B

/-- An instruction is loaded: its code, and what its data register captures. -/
def State.loadTap (s : State) (code : BitVec 8) (captured : BitVec 164) : State :=
  if s.tapHeld then s else { s with tap := { s.tap with ir := code, captured := captured } }

/-- TAP_RESET (R863, R865): TRST_N low, or five rising TCK edges with TMS high, selects IDCODE. -/
def execTapReset (_trst : Bool) (s : State) : Host.Outcome State Fault Refusal :=
  .next { s with tap := { s.tap with ir := 0x01, captured := idcodeValue } }

/-- EXTEST (Table PKG-4): outputs driven from the boundary cells, which are the data register. -/
def execExtest (s : State) : Host.Outcome State Fault Refusal := .next (s.loadTap 0x00 s.tap.boundary)

/-- IDCODE (Table PKG-4, R865). -/
def execIdcode (s : State) : Host.Outcome State Fault Refusal := .next (s.loadTap 0x01 idcodeValue)

/-- SAMPLE/PRELOAD (Table PKG-4): the cells capture the balls, then take what is shifted in. -/
def execSamplePreload (sample preload : BitVec 164) (s : State) : Host.Outcome State Fault Refusal :=
  .next (if s.tapHeld then s
    else { s with tap := { s.tap with ir := 0x02, captured := sample, boundary := preload } })

/-- CLAMP (Table PKG-4): outputs held from the boundary cells, bypass selected. -/
def execClamp (s : State) : Host.Outcome State Fault Refusal := .next (s.loadTap 0x04 0)

/-- HIGHZ (Table PKG-4): outputs of the chain in high impedance, bypass selected. -/
def execHighz (s : State) : Host.Outcome State Fault Refusal := .next (s.loadTap 0x05 0)

/-- BYPASS (Table PKG-4). -/
def execBypass (s : State) : Host.Outcome State Fault Refusal := .next (s.loadTap 0xFF 0)

/-- PRIVATE_DEBUG (R660, R864): while debug access is closed the code acts as BYPASS; while it is open the spec does not
give its effect. A code outside 0x80 to 0xFE is none of a private instruction and acts as BYPASS. -/
def execPrivateDebug (code : BitVec 8) (s : State) : Host.Outcome State Fault Refusal :=
  if s.tapHeld then .next s
  else if s.debugOpen ∧ 0x80 ≤ code.toNat ∧ code.toNat ≤ 0xFE then .refused .privateDebugEffectNotGiven
  else .next (s.loadTap (if 0x80 ≤ code.toNat then code else 0xFF) 0)

end Sys2Proof.Machine
end

