-- ==== Sys2Proof/Machine/Balls.lean ====
section
/-! DEFINITION. The digital balls as they follow from State (Tables BOOT-1 and PKG-3): what drives each of them in reset, in
limited mode and in work, the override by a test instruction, and the level that a ball then shows. No ball's level is a
field of State (log 4). -/

namespace Sys2Proof.Machine

/-- A signal ball of the domains VIO_H and VIO_M (Table PKG-3). HSDO is taken after so many falling edges of HSCK in its
frame (R240). -/
inductive Ball
  | fio (k : Fin 24)
  | hsck | hsdi | hcsN
  | hsdo (falls : Nat)
  | hirqN | alertN
  | utx (u : Fin 4)
  | urx (u : Fin 4)
  | xck (x : Fin 2)
  | xcsN (x : Fin 2)
  | xd (x : Fin 2) (i : Fin 8)
  | xds (x : Fin 2)
  | tickIo | tickAux
  | rstN
  | bootsel (i : Fin 2)
  | tck | tms | tdi | trstN | tdo
  deriving DecidableEq, Repr

/-- What the device does at a ball: it leaves it in high impedance, drives it low or high, or is in the middle of a transfer
whose level the model does not follow. -/
inductive Drive
  | hiZ | low | high | moves
  deriving DecidableEq, Repr

/-- A push-pull output of this level. -/
def Drive.of (b : Bool) : Drive := if b then .high else .low

/-- An open-drain output. -/
def Drive.pulls (b : Bool) : Drive := if b then .low else .hiZ

/-- The ball lies in the domain VIO_M, else in VIO_H (Table PKG-3). -/
def Ball.ofMemory : Ball → Bool
  | .xck _ | .xcsN _ | .xd _ _ | .xds _ => true
  | _ => false

/-- The ball is an output or a 3-state ball of the boundary scan chain (R866). -/
def Ball.scanned : Ball → Bool
  | .fio _ | .hsdo _ | .hirqN | .alertN | .utx _ | .xck _ | .xcsN _ | .xd _ _ | .xds _ | .tickIo | .tickAux => true
  | _ => false

/-- The internal pull of a ball: up, down or none (Table PKG-3, R775). -/
def Ball.pull : Ball → Option Bool
  | .hcsN | .utx _ | .urx _ | .tms | .tdi => some true
  | .tck | .trstN => some false
  | _ => none

/-- The domain that feeds a ball is powered (R830). -/
def State.fed (s : State) (b : Ball) : Bool := if b.ofMemory then s.pwr.vioM else s.pwr.vioH

/-! ### The functional logic -/

/-- The region whose image owns a FIO pin (Table FAB-7). -/
def State.fioOwner (s : State) (k : Nat) : Option Nat :=
  (List.range 8).find? fun r => ((s.body r).map fun b => b.ownFio.testBit k).getD false

/-- FIO pin `k` (R113, R127, R631): in high impedance up to the release boundary; then OUT while OE is high and the owning
region is RUNNING or DRAINING, else the park state of the image. -/
def State.fioDrive (s : State) (k : Nat) : Drive :=
  if !s.released then .hiZ
  else match s.fioOwner k with
  | none => .hiZ
  | some r => match s.body r with
    | none => .hiZ
    | some b =>
      let at_ := fun n => s.net (5 * s.now) fabricCells r n
      let parked : Drive := match b.fioPark.find? fun p => p.1 == k with
        | some p => Drive.of p.2
        | none => .hiZ
      match b.fioOut.find? fun p => p.1 == k with
      | some (_, out, oe) => if s.isActive (0x20 + r) && at_ oe then Drive.of (at_ out) else parked
      | none => parked

/-- UnTX idles high while the channel is RUNNING or DRAINING, but where contention has released it (R776, R804, R805). -/
def State.utxDrive (s : State) (u : Nat) : Drive :=
  if s.alive && s.isActive (0x30 + u) && !s.regBit (uartId u 0x0D) 0 0 then .high else .hiZ

/-- The levels of UnTX during a character, one for each bit time: the start bit, the data bits, least significant first, the
parity bit and the stop bits (R779). -/
def charLevels (fmt : Word) (data : Byte) : List Bool :=
  let bits := (List.range (dataBits fmt)).map data.getLsbD
  let odd := bits.foldl (fun a b => a != b) false
  [false] ++ bits ++ (if fmt.bits 1 2 = 0 then [] else [odd != (fmt.bits 1 2 == 2)]) ++
    List.replicate (if fmt.bit 3 then 2 else 1) true

/-- A transfer may be in progress on an XSPI port: slots are read in phase 2, image work runs, or a mover has its
transaction there (R120, R144, R750). -/
def State.xspiBusy (s : State) (x : Fin 2) : Bool :=
  if x = 0 then s.boot.phase == .phase2 || s.imageJob.isSome || s.busNow.busy.any fun p => p.1 == 2
  else s.busNow.busy.any fun p => p.1 == 1

/-- A ball of an XSPI port: where nothing is transferred, the clock is low, the chip select high and the data balls are
released (Table BOOT-1). After a transfer the balls are taken to be as before it (DESIGN CHOICE, log 4). -/
def State.xspiDrive (s : State) (x : Fin 2) (idle : Drive) : Drive := if s.xspiBusy x then .moves else idle

/-- A tick ball: driven by a master alone, while TBUS is RUNNING or DRAINING and no contention has released it (R72 to
R76). -/
def State.tickDrive (s : State) (level : Bool) : Drive :=
  if s.alive && s.reg 0x0200 == 1 && s.isActive 0x02 && !s.tbus.quiet then Drive.of level else .hiZ

/-- What the functional logic does at a ball (Table BOOT-1, R72, R113, R127, R144, R240, R246, R248, R365, R631, R776). -/
def State.funcDrive (s : State) : Ball → Drive
  | .fio k => s.fioDrive k
  | .hsdo falls => if !s.served 0 then .hiZ else match s.spi.level falls with
    | some b => Drive.of b
    | none => .hiZ
  | .hirqN => Drive.pulls s.spi.hirqLow
  | .alertN => Drive.pulls s.alert
  | .utx u => s.utxDrive u
  | .xck x => s.xspiDrive x .low
  | .xcsN x => s.xspiDrive x .high
  | .xd x _ => s.xspiDrive x .hiZ
  | .xds x => s.xspiDrive x .hiZ
  | .tickIo => s.tickDrive s.tbus.io
  | .tickAux => s.tickDrive s.tbus.aux
  | .tdo => if s.tapHeld then .hiZ else .moves
  | .hsck | .hsdi | .hcsN | .urx _ | .rstN | .bootsel _ | .tck | .tms | .tdi | .trstN => .hiZ

/-! ### Boundary scan (R866, R869, R878, R880) -/

/-- A number for each ball of the chain. -/
def Ball.code : Ball → Nat
  | .fio k => k
  | .hsdo _ => 24
  | .hirqN => 25
  | .alertN => 26
  | .utx u => 27 + u
  | .xck x => 31 + x
  | .xcsN x => 33 + x
  | .xd x i => 35 + 8 * x + i
  | .xds x => 51 + x
  | .tickIo => 53
  | .tickAux => 54
  | _ => 55

/-- What the boundary cells do at a ball. Their order is the BSDL file's (log 10); the cells of HIRQ_N and ALERT_N drive only
the low level (R880). -/
def State.cellDrive (s : State) (b : Ball) : Drive :=
  let c := Config.bsdl b.code
  let out := s.tap.boundary.getLsbD c.1
  if s.tap.boundary.getLsbD c.2.1 != c.2.2 then .hiZ
  else if b = .hirqN ∨ b = .alertN then Drive.pulls !out
  else Drive.of out

/-- What the device does at a ball (R830, R869): nothing while its domain has no power; under HIGHZ high impedance, under EXTEST
and CLAMP what the boundary cells say; else what the functional logic does. -/
def State.drive (s : State) (b : Ball) : Drive :=
  if !s.fed b then .hiZ
  else if b.scanned && s.tapOverrides then (if s.tap.ir = 0x05 then .hiZ else s.cellDrive b)
  else s.funcDrive b

/-- The level that a ball shows (R862, R878): what the device drives, else what the board drives, else the internal pull, where
the domain is powered; none where nothing holds it or the model does not follow it. -/
def State.ballLevel (s : State) (b : Ball) (board : Option Bool) : Option Bool :=
  match s.drive b with
  | .low => some false
  | .high => some true
  | .moves => none
  | .hiZ => match board with
    | some l => some l
    | none => if s.fed b then b.pull else none

end Sys2Proof.Machine
end

