-- ==== Sys2Proof/Machine/Dispatch.lean ====
section
/-! DEFINITION. One arm for every command: the direct call of its meaning. -/

namespace Sys2Proof.Machine

def exec (i : Instr) (s : State) : Host.Outcome State Fault Refusal :=
  match i with
  | .ident h ws => Sys2Proof.Machine.execIdent h ws s
  | .status h ws => Sys2Proof.Machine.execStatus h ws s
  | .poll h ws => Sys2Proof.Machine.execPoll h ws s
  | .echo h ws => Sys2Proof.Machine.execEcho h ws s
  | .nop h ws => Sys2Proof.Machine.execNop h ws s
  | .get h ws => Sys2Proof.Machine.execGet h ws s
  | .set h ws => Sys2Proof.Machine.execSet h ws s
  | .setNow h ws => Sys2Proof.Machine.execSetNow h ws s
  | .setGroup h ws => Sys2Proof.Machine.execSetGroup h ws s
  | .cancelPending h ws => Sys2Proof.Machine.execCancelPending h ws s
  | .unitPowerOn h unit => Sys2Proof.Machine.execUnitPowerOn h unit s
  | .unitPowerOff h unit => Sys2Proof.Machine.execUnitPowerOff h unit s
  | .unitReset h ws => Sys2Proof.Machine.execUnitReset h ws s
  | .unitState h ws => Sys2Proof.Machine.execUnitState h ws s
  | .planLoad h ws => Sys2Proof.Machine.execPlanLoad h ws s
  | .planSwap h ws => Sys2Proof.Machine.execPlanSwap h ws s
  | .regionLoad h ws => Sys2Proof.Machine.execRegionLoad h ws s
  | .regionSwap h ws => Sys2Proof.Machine.execRegionSwap h ws s
  | .coefLoad h ws => Sys2Proof.Machine.execCoefLoad h ws s
  | .coefSwap h ws => Sys2Proof.Machine.execCoefSwap h ws s
  | .convert h ws => Sys2Proof.Machine.execConvert h ws s
  | .captureArm h conv entry addr count timeout => Sys2Proof.Machine.execCaptureArm h conv entry addr count timeout s
  | .captureRead h xspi addr count ecc => Sys2Proof.Machine.execCaptureRead h xspi addr count ecc s
  | .fuseRead h ws => Sys2Proof.Machine.execFuseRead h ws s
  | .fuseProg h ws => Sys2Proof.Machine.execFuseProg h ws s
  | .counterRead h ws => Sys2Proof.Machine.execCounterRead h ws s
  | .counterAdvance h ws => Sys2Proof.Machine.execCounterAdvance h ws s
  | .random h ws => Sys2Proof.Machine.execRandom h ws s
  | .imageOpen h ws => Sys2Proof.Machine.execImageOpen h ws s
  | .imageWrite h ws slow => Sys2Proof.Machine.execImageWrite h ws slow s
  | .imageVerify h ws => Sys2Proof.Machine.execImageVerify h ws s
  | .imageActivate h ws => Sys2Proof.Machine.execImageActivate h ws s
  | .imageInfo h ws => Sys2Proof.Machine.execImageInfo h ws s
  | .logRead h ws => Sys2Proof.Machine.execLogRead h ws s
  | .logClear h ws => Sys2Proof.Machine.execLogClear h ws s
  | .debugUnlockChallenge h => Sys2Proof.Machine.execDebugUnlockChallenge h s
  | .debugUnlockResponse h slot scope sig => Sys2Proof.Machine.execDebugUnlockResponse h slot scope sig s
  | .softReset h ws => Sys2Proof.Machine.execSoftReset h ws s
  | .tickCountLoRead h => Sys2Proof.Machine.execTickCountLoRead h s
  | .tickCntClr h v => Sys2Proof.Machine.execTickCntClr h v s
  | .hostCntClr h v => Sys2Proof.Machine.execHostCntClr h v s
  | .sinterScan h v => Sys2Proof.Machine.execSinterScan h v s
  | .ringRdWrite h ring v => Sys2Proof.Machine.execRingRdWrite h ring v s
  | .dmaHeadWrite h ch v => Sys2Proof.Machine.execDmaHeadWrite h ch v s
  | .rxPop h u => Sys2Proof.Machine.execRxPop h u s
  | .txPush h u v => Sys2Proof.Machine.execTxPush h u v s
  | .autobaudArm h u v => Sys2Proof.Machine.execAutobaudArm h u v s
  | .secRelock h v => Sys2Proof.Machine.execSecRelock h v s
  | .alertLatchClear h v => Sys2Proof.Machine.execAlertLatchClear h v s
  | .txContendClear h u v => Sys2Proof.Machine.execTxContendClear h u v s
  | .spiFrameStart => Sys2Proof.Machine.execSpiFrameStart s
  | .spiFirstByte bits hsck => Sys2Proof.Machine.execSpiFirstByte bits hsck s
  | .spiFrameEnd seq => Sys2Proof.Machine.execSpiFrameEnd seq s
  | .requestCommit tr dt bytes => Sys2Proof.Machine.execRequestCommit tr dt bytes s
  | .replyReady p => Sys2Proof.Machine.execReplyReady p s
  | .gapTimeout u => Sys2Proof.Machine.execGapTimeout u s
  | .transportReplySend u => Sys2Proof.Machine.execTransportReplySend u s
  | .rstNAssert ns => Sys2Proof.Machine.execRstNAssert ns s
  | .rstNRelease bootsel => Sys2Proof.Machine.execRstNRelease bootsel s
  | .sinterDelivery trim option security => Sys2Proof.Machine.execSinterDelivery trim option security s
  | .pllLock lock => Sys2Proof.Machine.execPllLock lock s
  | .trimReread r rows => Sys2Proof.Machine.execTrimReread r rows s
  | .slotAttempt slot dt readErr => Sys2Proof.Machine.execSlotAttempt slot dt readErr s
  | .slotAttemptTimeout slot dt => Sys2Proof.Machine.execSlotAttemptTimeout slot dt s
  | .referencesSettled dt => Sys2Proof.Machine.execReferencesSettled dt s
  | .phase3Timeout dt => Sys2Proof.Machine.execPhase3Timeout dt s
  | .tickBoundary temp => Sys2Proof.Machine.execTickBoundary temp s
  | .regionFreezeEnd r => Sys2Proof.Machine.execRegionFreezeEnd r s
  | .captureTimeout c => Sys2Proof.Machine.execCaptureTimeout c s
  | .seqStart q => Sys2Proof.Machine.execSeqStart q s
  | .dmaBurst i0 => Sys2Proof.Machine.execDmaBurst i0 s
  | .dmaBurstComplete ch ecc => Sys2Proof.Machine.execDmaBurstComplete ch ecc s
  | .dacUpdate i0 => Sys2Proof.Machine.execDacUpdate i0 s
  | .wireCheck i0 meas => Sys2Proof.Machine.execWireCheck i0 meas s
  | .wireCheckFinish => Sys2Proof.Machine.execWireCheckFinish s
  | .filtEmit i0 => Sys2Proof.Machine.execFiltEmit i0 s
  | .fabricStrobe i0 => Sys2Proof.Machine.execFabricStrobe i0 s
  | .fabricStrobeDone r strobe => Sys2Proof.Machine.execFabricStrobeDone r strobe s
  | .geyserDrain i0 => Sys2Proof.Machine.execGeyserDrain i0 s
  | .drainComplete q => Sys2Proof.Machine.execDrainComplete q s
  | .calRotate i0 m => Sys2Proof.Machine.execCalRotate i0 m s
  | .calRotateSwap c => Sys2Proof.Machine.execCalRotateSwap c s
  | .overbudget i0 => Sys2Proof.Machine.execOverbudget i0 s
  | .tickPulse low => Sys2Proof.Machine.execTickPulse low s
  | .tickEdge dt marked => Sys2Proof.Machine.execTickEdge dt marked s
  | .guardExpiry => Sys2Proof.Machine.execGuardExpiry s
  | .missedEdge => Sys2Proof.Machine.execMissedEdge s
  | .pllRestart => Sys2Proof.Machine.execPllRestart s
  | .pllRelock => Sys2Proof.Machine.execPllRelock s
  | .fuseStep verified => Sys2Proof.Machine.execFuseStep verified s
  | .sinterScanDone => Sys2Proof.Machine.execSinterScanDone s
  | .regionLoadStep r => Sys2Proof.Machine.execRegionLoadStep r s
  | .imageEraseDone => Sys2Proof.Machine.execImageEraseDone s
  | .imageVerifyDone readErr => Sys2Proof.Machine.execImageVerifyDone readErr s
  | .markerBlockErase block => Sys2Proof.Machine.execMarkerBlockErase block s
  | .restart bootsel => Sys2Proof.Machine.execRestart bootsel s
  | .wakeComplete unit => Sys2Proof.Machine.execWakeComplete unit s
  | .wakeFail unit => Sys2Proof.Machine.execWakeFail unit s
  | .stateSkew unit => Sys2Proof.Machine.execStateSkew unit s
  | .fumaLogTake => Sys2Proof.Machine.execFumaLogTake s
  | .amtxSwitchClose => Sys2Proof.Machine.execAmtxSwitchClose s
  | .cellPowerUp cell => Sys2Proof.Machine.execCellPowerUp cell s
  | .cellSettled cell => Sys2Proof.Machine.execCellSettled cell s
  | .comparatorEdge cell x => Sys2Proof.Machine.execComparatorEdge cell x s
  | .acellSat cell x => Sys2Proof.Machine.execAcellSat cell x s
  | .shHold cell source => Sys2Proof.Machine.execShHold cell source s
  | .shTrackReturn cell => Sys2Proof.Machine.execShTrackReturn cell s
  | .cellDozePowerUp cell => Sys2Proof.Machine.execCellDozePowerUp cell s
  | .dacCompliance ch out => Sys2Proof.Machine.execDacCompliance ch out s
  | .dacPortWrite ch dt code => Sys2Proof.Machine.execDacPortWrite ch dt code s
  | .dacHeldLatch ch => Sys2Proof.Machine.execDacHeldLatch ch s
  | .dacOutputResume ch => Sys2Proof.Machine.execDacOutputResume ch s
  | .wireClamp pin high => Sys2Proof.Machine.execWireClamp pin high s
  | .clampRelease pin => Sys2Proof.Machine.execClampRelease pin s
  | .clampSwitchReturn pin => Sys2Proof.Machine.execClampSwitchReturn pin s
  | .coldStep c terms resid => Sys2Proof.Machine.execColdStep c terms resid s
  | .coldSpareSwap c => Sys2Proof.Machine.execColdSpareSwap c s
  | .convCalTimeout c => Sys2Proof.Machine.execConvCalTimeout c s
  | .ttPulse k => Sys2Proof.Machine.execTtPulse k s
  | .fevEdge n rising => Sys2Proof.Machine.execFevEdge n rising s
  | .triggerReady c => Sys2Proof.Machine.execTriggerReady c s
  | .resultWordDelivery c dt clsA smp => Sys2Proof.Machine.execResultWordDelivery c dt clsA smp s
  | .ringWrite uncorr => Sys2Proof.Machine.execRingWrite uncorr s
  | .filtOutput f => Sys2Proof.Machine.execFiltOutput f s
  | .captureWord c => Sys2Proof.Machine.execCaptureWord c s
  | .fabScrubFix r cluster => Sys2Proof.Machine.execFabScrubFix r cluster s
  | .fabConfigUpset r cluster => Sys2Proof.Machine.execFabConfigUpset r cluster s
  | .fabExtClockLost line => Sys2Proof.Machine.execFabExtClockLost line s
  | .fabPortInputWord r kind n dt => Sys2Proof.Machine.execFabPortInputWord r kind n dt s
  | .fabricSramRequest port addr wr answer => Sys2Proof.Machine.execFabricSramRequest port addr wr answer s
  | .dmaStreamWord ch w busy => Sys2Proof.Machine.execDmaStreamWord ch w busy s
  | .uartFabricWrite u b => Sys2Proof.Machine.execUartFabricWrite u b s
  | .uartFabricHandoff u dt => Sys2Proof.Machine.execUartFabricHandoff u dt s
  | .rngTake => Sys2Proof.Machine.execRngTake s
  | .rngHealthFail before window => Sys2Proof.Machine.execRngHealthFail before window s
  | .rngRetestEnd sources => Sys2Proof.Machine.execRngRetestEnd sources s
  | .rngRecovered seed => Sys2Proof.Machine.execRngRecovered seed s
  | .drbgReseed seed => Sys2Proof.Machine.execDrbgReseed seed s
  | .sramScrubStep single => Sys2Proof.Machine.execSramScrubStep single s
  | .sramEccUncorr addr => Sys2Proof.Machine.execSramEccUncorr addr s
  | .geyserBackgroundDrain q => Sys2Proof.Machine.execGeyserBackgroundDrain q s
  | .dmaAutoBurst ch => Sys2Proof.Machine.execDmaAutoBurst ch s
  | .xspiPattern ok => Sys2Proof.Machine.execXspiPattern ok s
  | .uartStartBit u edges => Sys2Proof.Machine.execUartStartBit u edges s
  | .uartCharComplete u edges => Sys2Proof.Machine.execUartCharComplete u edges s
  | .xoffSend u => Sys2Proof.Machine.execXoffSend u s
  | .uartRxIdle u => Sys2Proof.Machine.execUartRxIdle u s
  | .uartTxChar u => Sys2Proof.Machine.execUartTxChar u s
  | .uartTxContend u => Sys2Proof.Machine.execUartTxContend u s
  | .uartAutobaud u stamps stopHigh => Sys2Proof.Machine.execUartAutobaud u stamps stopHigh s
  | .autobaudAbandon u brk => Sys2Proof.Machine.execAutobaudAbandon u brk s
  | .linBreak u => Sys2Proof.Machine.execLinBreak u s
  | .linResponseTimeout u => Sys2Proof.Machine.execLinResponseTimeout u s
  | .linPublishResponse u readBack => Sys2Proof.Machine.execLinPublishResponse u readBack s
  | .linHeader u readBackOk => Sys2Proof.Machine.execLinHeader u readBackOk s
  | .pwrPllUnlock => Sys2Proof.Machine.execPwrPllUnlock s
  | .pwrPllRelock dt => Sys2Proof.Machine.execPwrPllRelock dt s
  | .tapReset trst => Sys2Proof.Machine.execTapReset trst s
  | .extest => Sys2Proof.Machine.execExtest s
  | .idcode => Sys2Proof.Machine.execIdcode s
  | .samplePreload sample preload => Sys2Proof.Machine.execSamplePreload sample preload s
  | .clamp => Sys2Proof.Machine.execClamp s
  | .highz => Sys2Proof.Machine.execHighz s
  | .bypass => Sys2Proof.Machine.execBypass s
  | .privateDebug code => Sys2Proof.Machine.execPrivateDebug code s
  | .imageWriteDone => Sys2Proof.Machine.execImageWriteDone s
  | .drbgGenerate => Sys2Proof.Machine.execDrbgGenerate s
  | .powerUp d => Sys2Proof.Machine.execPowerUp d s

end Sys2Proof.Machine
end

