-- ==== Sys2Proof/Safety.lean ====
section
/-! DEFINITION. What a sound state is: the canonical forms of the register file and of the memories, and the bounds that
the spec sets on the log, on its buffer and on the jobs; and when a request executes, with the state at its commit point
and the state that holds its reply. Claims are stated in these terms. -/

namespace Sys2Proof.Machine

/-- A memory is in its canonical form: addresses strictly rising, no entry equal to what an unlisted address reads as. -/
def Memory.wf (d : Byte) (m : List Host.Cell) : Bool := wfMap d m

/-- The register file is in its canonical form. -/
def State.regsWf (s : State) : Bool := wfRegsFrom 0 s.regs

/-- The units are in their canonical form. -/
def State.unitsWf (s : State) : Bool := wfMap {} s.units

/-- The three memories are in their canonical form. -/
def State.memoryWf (s : State) : Bool :=
  Memory.wf sramDefault s.mem.sram && Memory.wf psramDefault s.mem.psram && Memory.wf flashDefault s.img.flash

/-- Both fuse copies are in their canonical form. -/
def State.fusesWf (s : State) : Bool := wfMap 0 s.sint.copy0 && wfMap 0 s.sint.copy1

/-- The transports, the converters and the regions are in their canonical form. -/
def State.mapsWf (s : State) : Bool := wfMap {} s.tr && wfMap {} s.conv && wfMap {} s.region

/-- Every canonical form but the fuses'. -/
def State.formsWf (s : State) : Bool := s.regsWf && s.unitsWf && s.mapsWf && s.memoryWf

/-- The log holds at most 512 entries and its input buffer at most 32 (R356, R362). -/
def State.logOk (s : State) : Bool := decide (s.fuma.log.length ≤ 512) && decide (s.fuma.buf.length ≤ 32)

/-- At most 8 jobs run and at most 16 outcomes are kept (R278, R279). -/
def State.jobsOk (s : State) : Bool := decide (s.jobs.running.length ≤ 8) && decide (s.jobs.ended.length ≤ 16)

/-- The invariant of every step: every canonical form and every bound holds. -/
def State.sound (s : State) : Bool :=
  s.formsWf && s.fusesWf && s.logOk && s.jobsOk

/-- A request executes at its commit point: its transport hears it, it arrives as it was sent (R101), no earlier request of
the transport is executing, and its SEQ is not the last executed one (checks 1 to 4 of Table CMD-4). -/
def State.ready (s : State) (h : Hdr) : Bool :=
  let n := trNum h.tr
  let c := s.toCommit n h.dt
  let z := c.taken n
  c.hears n && !c.garbled n && (z.trOf n).exec.isNone && (z.trOf n).last != some h.seq

/-- The state at the commit point of a request that executes, its SEQ the last executed one. -/
def State.atCommit (s : State) (h : Hdr) : State :=
  let n := trNum h.tr
  let z := (s.toCommit n h.dt).taken n
  z.setTr n { z.trOf n with last := some h.seq }

/-- The state with the reply of an executing request in preparation; a RANDOM or a LOG_READ keeps its words (R312, R374). -/
def State.replying (z : State) (h : Hdr) (op status : Nat) (ws : List Word) (ask : List Word := []) : State :=
  let n := trNum h.tr
  z.setTr n { z.trOf n with exec := some { seq := h.seq, status := status, op := op, words := ws }, ask := ask }

/-- Plan item `i` comes up now or later in the present tick: the plan has it with an action, the tick carries plan work, and
it has not come up yet (R36, R38). -/
abbrev State.comesUp (s : State) (i action : Nat) (it : PlanItem) : Prop :=
  (s.tick.plan.bind fun p => p.items[i]?) = some it ∧ it.action = action ∧ s.released = true ∧ s.tick.noWork = false ∧
    i ∉ s.tick.fired ∧ s.now ≤ s.tickStart + it.offset ∧ s.tickStart + it.offset < s.tickEnd

/-- It starts at its offset: its unit is RUNNING, and the channel of a DMA burst meets R760 then (R38). -/
abbrev State.canStart (s : State) (i action : Nat) (it : PlanItem) : Prop :=
  s.comesUp i action it ∧ s.isRunning it.unit = true ∧
    (action = 2 → dmaItemOk (fun a b => (s.reach (s.tickStart + it.offset)).reg a b) it.arg = true)

/-- The state in which a plan item starts: at its offset, the item in progress and done for this tick. -/
def State.started (s : State) (i : Nat) (it : PlanItem) : State :=
  let z := s.reach (s.tickStart + it.offset)
  { z with tick := { z.tick with fired := i :: z.tick.fired, items := z.tick.items ++ [{ idx := i, item := it }] } }

/-- The commands that store to no memory: no byte of SRAM, XSPI1 or the boot flash is theirs to write. -/
def storesNothing : Instr → Bool
  | .spiFrameStart | .spiFirstByte .. | .spiFrameEnd _ | .replyReady _ | .transportReplySend _ | .gapTimeout _
  | .amtxSwitchClose | .cellPowerUp _ | .cellSettled _ | .comparatorEdge .. | .acellSat .. | .shHold .. | .shTrackReturn _
  | .cellDozePowerUp _ | .dacCompliance .. | .dacPortWrite .. | .dacHeldLatch _ | .dacOutputResume _ | .wireClamp ..
  | .clampRelease _ | .clampSwitchReturn _ | .ttPulse _ | .fevEdge .. | .triggerReady _ | .resultWordDelivery ..
  | .filtOutput _ | .captureTimeout _ | .coldStep .. | .coldSpareSwap _ | .convCalTimeout _ | .calRotateSwap _
  | .fabScrubFix .. | .fabExtClockLost _ | .fabPortInputWord .. | .regionLoadStep _ | .uartFabricWrite ..
  | .uartFabricHandoff .. | .uartStartBit .. | .uartCharComplete .. | .xoffSend _ | .uartRxIdle _ | .uartTxChar _
  | .uartTxContend _ | .uartAutobaud .. | .autobaudAbandon .. | .linBreak _ | .linResponseTimeout _
  | .linPublishResponse .. | .linHeader .. | .rngTake | .rngHealthFail .. | .rngRetestEnd _ | .rngRecovered _
  | .drbgReseed _ | .drbgGenerate | .sramScrubStep _ | .sramEccUncorr _ | .tickPulse _ | .tickEdge .. | .guardExpiry
  | .missedEdge | .pwrPllUnlock | .pwrPllRelock _ | .pllRestart | .pllRelock | .powerUp _ | .fumaLogTake | .sinterScanDone
  | .fuseStep _ | .referencesSettled _ | .phase3Timeout _ | .tapReset _ | .extest | .idcode | .samplePreload .. | .clamp
  | .highz | .bypass | .privateDebug _ => true
  | _ => false

/-- A run of a number of steps meets no fault and no refusal. -/
def safeRun : Nat → State → Prop
  | 0, _ => True
  | n + 1, s => ∃ t, step s = .next t ∧ safeRun n t

end Sys2Proof.Machine
end

