-- ==== Sys2Proof/Certificates/Slice0/Obligations.lean ====
section
/-! DEFINITION. The statements for the provers. Each names in its docstring the rules it rests on; one that rests on a
choice of the model's names the log entry. -/

open Sys2Proof Sys2Proof.Machine

/-! ### The queue -/

/-- A step with a command in front of the queue is exec of that command on the state with the queue's rest. -/
def Obligations.StepRunsFrontCommand : Prop :=
  ∀ (s : State) (c : Instr) (rest : List Instr),
    step { s with pending := c :: rest } = exec c { s with pending := rest }

/-- With no command waiting a step is one system cycle (log 2): the clock advances by one, the log takes the oldest
event of its buffer (R362), and nothing but the clock, the log, the register file and the fabric's regions changes. -/
def Obligations.IdleStepIsOneCycle : Prop :=
  ∀ s : State, s.pending = [] → ∃ t : State, step s = .next t ∧ t.now = s.now + 1 ∧ t.cyc = s.cyc + 1 ∧
    t = { s with now := s.now + 1, cyc := s.cyc + 1, fuma := t.fuma, regs := t.regs, region := t.region } ∧
    (s.fclk.first = [] → t.fuma = s.takeEvent.fuma ∧ t.regs = s.takeEvent.regs ∧ t.region = s.region)

/-! ### Reset -/

/-- At reset every register holds its At-reset value (Table SCOPE-5 and the parameter tables; where the spec gives
none, log 6), no unit has left OFF, RST_N holds the device, nothing waits, is logged, or runs, and the fuses are as
shipped (R160, R161; log 5). The machine at reset is sound: every canonical form and every bound holds. -/
def Obligations.ResetIsSound : Prop :=
  ((∀ id sub, State.reset.reg id sub = resetOf (regKey id sub)) ∧
   (∀ u, (State.reset.unit u).st = .off ∧ (State.reset.unit u).epoch = 0) ∧
   State.reset.boot.phase = .held ∧ State.reset.pending = [] ∧ State.reset.sets = [] ∧
   State.reset.fuma.log = [] ∧ State.reset.fuma.buf = [] ∧ State.reset.jobs.running = [] ∧
   State.reset.alive = false ∧ (∀ n, State.reset.served n = false) ∧
   (∀ a, State.reset.sramByte a = 0 ∧ State.reset.flashByte a = 0xFF) ∧
   (∀ r, State.reset.fuseCopy false r = State.reset.fuseCopy true r)) ∧
  (State.reset.sound = true)

/-! ### Requests that only read -/

/-- ECHO, of a released device, returns its words; NOP, in every phase with a served transport, ignores its words and
replies DONE with LEN 0 (R282). Neither changes anything but its transport. -/
def Obligations.EchoAndNopReply : Prop :=
  ∀ (s : State) (h : Hdr) (ws : List Word), s.ready h = true →
    (s.released = true → ws.length ≤ 254 →
      exec (.echo h ws) s = .next ((s.atCommit h).replying h 0x04 stDone ws)) ∧
    (ws.length ≤ 255 → exec (.nop h ws) s = .next ((s.atCommit h).replying h 0x7F stDone []))

/-- IDENT and STATUS reply with the layouts of Table BOOT-4 and Table OPS-3 and change nothing else (R133, R280): of
the words that the tables fix, the part number, the unique ID and the tick count. POLL of a running job, of an ended
one, and of a number that is not held (R281). UNIT_STATE of a unit that Table UNIT-1 lists, FUSE_READ of a range of
rows in a view, COUNTER_READ, and IMAGE_INFO of a slot (R294, R308, R310, R318). -/
def Obligations.ReadRequestsReply : Prop :=
  (∀ (s : State) (h : Hdr), s.ready h = true → s.released = true →
     (∃ ws, exec (.ident h []) s = .next ((s.atCommit h).replying h 0x01 stDone ws) ∧ ws.length = 12 ∧
       ws[0]? = some 0x00300480 ∧ ∀ i < 4, ws[1 + i]? = some ((s.atCommit h).dlvRow (20 + i))) ∧
     (∃ ws, exec (.status h []) s = .next ((s.atCommit h).replying h 0x02 stDone ws) ∧ ws.length = 4 ∧
       ws[1]? = some ((s.atCommit h).tick.count.setWidth 32) ∧
       ws[2]? = some (((s.atCommit h).tick.count >>> 32).setWidth 32))) ∧
  (∀ (s : State) (h : Hdr) (n : Nat), s.ready h = true → s.released = true → 0 < n → n < 256 →
     let k := s.atCommit h
     (∀ j, k.jobs.running.find? (fun j => j.num == n) = some j →
       exec (.poll h [Word.of n]) s = .next (k.replying h 0x03 stDone
         [Word.of (n + j.op * 2 ^ 8 + 0x01 * 2 ^ 16 + j.kind.percent * 2 ^ 24)])) ∧
     (∀ e, k.jobs.running.find? (fun j => j.num == n) = none → k.jobs.ended.find? (fun e => e.num == n) = some e →
       exec (.poll h [Word.of n]) s = .next (k.replying h 0x03 stDone
         (Word.of (n + e.op * 2 ^ 8 + e.status * 2 ^ 16 + e.pct * 2 ^ 24) :: e.words))) ∧
     (k.jobs.running.find? (fun j => j.num == n) = none → k.jobs.ended.find? (fun e => e.num == n) = none →
       exec (.poll h [Word.of n]) s = .next (k.replying h 0x03 stParamBad [0]))) ∧
  (∀ (s : State) (h : Hdr), s.ready h = true → s.released = true →
     let k := s.atCommit h
     (∀ u < 256, isUnit u = true → exec (.unitState h [Word.of u]) s = .next (k.replying h 0x22 stDone
       [Word.of (k.stateCode u + (k.changePending u).toNat * 8 + k.stateAfter u * 16 + (k.unit u).epoch.toNat * 256)])) ∧
     (∀ row n view, 0 < n → n < 64 → row + n ≤ 64 → view < 3 →
       exec (.fuseRead h [Word.of (row + n * 2 ^ 8 + view * 2 ^ 16)]) s = .next (k.replying h 0x40 stDone
         ((List.range n).map fun i => if view = 0 then k.fuseCopy false (row + i) ||| k.fuseCopy true (row + i)
           else k.fuseCopy (view == 2) (row + i)))) ∧
     exec (.counterRead h []) s = .next (k.replying h 0x42 stDone ((List.range 4).map fun c =>
       Word.of (k.counterValue c + ((counterShape c).2 - k.counterValue c) * 2 ^ 8 + (k.counterGap c).toNat * 2 ^ 16))) ∧
     (∀ t < 2, exec (.imageInfo h [Word.of t]) s = .next (k.replying h 0x54 stDone (k.infoWords t))))

/-- GET of a parameter with nothing pending (R284), and of TICK.COUNT_LO, which captures the upper bits of the count;
TICK.COUNT_HI reads as captured (R24). -/
def Obligations.GetReturnsParameter : Prop :=
  ∀ (s : State) (h : Hdr), s.ready h = true → s.released = true →
    let k := s.atCommit h
    (∀ ws id sub, targetOf ws 0 = .inr (id, sub) → ws.length ≤ 2 → 1 ≤ ws.length → writeOnly id = false → k.notHost id = false →
      id % 256 ≠ 0xF0 → (k.unit (id / 256)).st ≠ .draining →
      (k.sets.filter fun x => x.id == id && x.sub == sub) = [] →
      exec (.get h ws) s = .next ((k.afterGet id).replying h 0x10 stDone
        [Word.of id, k.read id sub, k.read id sub])) ∧
    ((k.unit 0x01).st ≠ .draining → (k.sets.filter fun x => x.id == 0x0102 && x.sub == 0) = [] →
      exec (.tickCountLoRead h) s = .next ((k.setReg 0x0103 0 ((k.tick.count >>> 32).setWidth 32)).replying h 0x10 stDone
        [0x0102, k.tick.count.setWidth 32, k.tick.count.setWidth 32])) ∧
    k.read 0x0103 0 = k.reg 0x0103

/-! ### Requests that set parameters -/

/-- SET of a parameter that takes effect at a tick: the value becomes pending for the boundary that the reply names,
and nothing else changes (R285, R28, R29). SET_NOW of a parameter that waits for ticks, of another unit than TICK,
TBUS and HOST: its pending values, and the groups they belong to, are discarded, and the new value is in force at once
with all that a commit of it would entail (R287). SET_GROUP of entries that all pass: all of them become pending for
one boundary, under one group number (R288, R289). CANCEL_PENDING of every parameter discards every pending value that
this commit point reaches, with its group, and counts them (R291, R63). -/
def Obligations.SettingsRequestsAct : Prop :=
  (∀ (s : State) (h : Hdr) (ws : List Word) (id sub : Nat), s.ready h = true → s.released = true →
     let k := s.atCommit h
     let x : Setting := { id := id, sub := sub, val := ws.getLastD 0, bound := k.countAt k.commitDist, group := 0,
                          boot := false }
     targetOf ws 1 = .inr (id, sub) → 2 ≤ ws.length → ws.length ≤ 3 → readOnly id = false → effectOf id = .tick →
     valueOk id sub (ws.getLastD 0) = true → k.notHost id = false → k.actionOk id (ws.getLastD 0) = true →
     k.crossOkFrom (k.sets ++ [x]) k.commitDist id sub = true →
     k.dozeEarly (k.viewAt (k.sets ++ [x]) k.commitDist) id (ws.getLastD 0) = false →
     (k.unit (id / 256)).st ≠ .draining →
     exec (.set h ws) s = .next (({ k with sets := k.sets ++ [x] } : State).replying h 0x11 stDone
       [Word.of (k.countAt k.commitDist)])) ∧
  (∀ (s : State) (h : Hdr) (ws : List Word) (id sub : Nat), s.ready h = true → s.released = true →
     let k := s.atCommit h
     let w := ws.getLastD 0
     let z := k.without (k.reached fun x => x.id == id && x.sub == sub)
     targetOf ws 1 = .inr (id, sub) → 2 ≤ ws.length → ws.length ≤ 3 → readOnly id = false → effectOf id = .tick →
     id / 256 ≠ 1 → id / 256 ≠ 2 → id / 256 ≠ 0x3D → id / 256 ≠ 8 → id / 256 ≠ 9 →
     valueOk id sub w = true → k.notHost id = false → k.actionOk id w = true →
     (if (paramRow id).any (fun r => r.acc == .rw) then k.setReg id sub w else k).crossOkFrom z.sets 0 id sub = true →
     k.dozeEarly ((if (paramRow id).any (fun r => r.acc == .rw) then k.setReg id sub w else k).viewAt z.sets 0) id w = false →
     (k.unit (id / 256)).st ≠ .draining →
     exec (.setNow h ws) s = .next (((z.applyValues [(id, sub, w)]).refreshHold false).replying h 0x12 stDone [])) ∧
  (∀ (s : State) (h : Hdr) (ws : List Word) (es : List GroupEntry), s.ready h = true → s.released = true →
     let k := s.atCommit h
     let n := (ws.getD 0 0).toNat
     let bound := k.countAt k.commitDist
     0 < n → n ≤ 63 → 3 ≤ ws.length → ws.length ≤ 190 → groupEntries n (ws.drop 1) 1 = some es →
     k.sortEntries [] es = (es, []) →
     (∀ e ∈ es, k.conflict es bound k.commitDist e = none) →
     exec (.setGroup h ws) s = .next (({ k with
       sets := k.sets ++ es.map fun e => { id := e.id, sub := e.sub, val := e.val, bound := bound,
                                           group := k.tick.groups + 1, boot := false }
       tick := { k.tick with groups := k.tick.groups + 1 } } : State).replying h 0x13 stDone [Word.of bound])) ∧
  (∀ (s : State) (h : Hdr), s.ready h = true → s.released = true →
     let k := s.atCommit h
     let xs := k.reached fun _ => true
     exec (.cancelPending h [0xFFFF]) s = .next
       (({ k with sets := k.sets.filter fun x => !xs.contains x } : State).replying h 0x14 stDone [Word.of xs.length]) ∧
     ∀ x ∈ k.sets, k.commitDist ≤ k.dist x.bound → x ∈ xs)

/-- SET and SET_NOW of a parameter that is out of its range, or read only, change nothing (R286). -/
def Obligations.BadValueChangesNothing : Prop :=
  ∀ (s : State) (h : Hdr) (ws : List Word) (id sub : Nat), s.ready h = true → s.released = true →
    let k := s.atCommit h
    targetOf ws 1 = .inr (id, sub) → 2 ≤ ws.length → ws.length ≤ 3 →
    readOnly id = true ∨ valueOk id sub (ws.getLastD 0) = false →
    (∃ i, exec (.set h ws) s = .next (k.replying h 0x11 stParamBad [Word.of i])) ∧
    (∃ i, exec (.setNow h ws) s = .next (k.replying h 0x12 stParamBad [Word.of i]))

/-- The writes that clear: TICK.CNT_CLR and HOST.CNT_CLR clear the counters whose bits are 1, FUMA.ALERT_LATCH and
UART.STATUS the bits written 1, TX_CONTEND with the restart of the transmitter (R68, R269, R367, R805, R16). RX_POP and TX_PUSH of a channel whose queues serve the
host: the oldest entry leaves and is returned with bit 12 set, an empty queue returns 0, and a byte is appended
(R792). A SET of SEQ.RING_RD that moves the read position forward by no more than the level takes effect at once; so
does one of DMA.HEAD that keeps every pending descriptor (R535, R758). SINTER.SCAN starts a scan, SEC.RELOCK ends the
unlock, and arming auto-baud ends the character in progress (R203, R665, R799). -/
def Obligations.ImmediateWritesAct : Prop :=
  (∀ (s : State) (h : Hdr) (v : Word), s.ready h = true → s.released = true →
     let k := s.atCommit h
     (v.toNat < 64 → (k.unit 0x01).st ≠ .draining → 
       exec (.tickCntClr h v) s = .next ((k.each ((List.range 6).filter fun i => v.bit i)
         fun z i => z.setReg (0x0106 + i) 0 0).replying h 0x11 stDone [])) ∧
     (v.toNat < 128 → (k.unit 0x3D).st ≠ .draining → 
       exec (.hostCntClr h v) s = .next ((k.each ((List.range 7).filter fun i => v.bit i)
         fun z i => z.setReg (0x3D02 + i) 0 0).replying h 0x11 stDone [])) ∧
     (v.toNat < 16 → (k.unit 0x06).st ≠ .draining → 
       exec (.alertLatchClear h v) s = .next
         ((k.setReg 0x0605 0 (k.reg 0x0605 0 &&& ~~~(v &&& 0xF))).replying h 0x11 stDone [])) ∧
     (∀ u : Fin 4, valueOk (uartId u.val 0x0D) 0 v = true → (k.unit (0x30 + u.val)).st ≠ .draining →
       k.crossOkFrom k.sets 0 (uartId u.val 0x0D) 0 = true →
       let z := if v.bit 0 && k.regBit (uartId u.val 0x0D) 0 0 then k.resumeTx u.val else k
       exec (.txContendClear h u v) s = .next
         ((z.setReg (uartId u.val 0x0D) 0 (k.reg (uartId u.val 0x0D) 0 &&& ~~~(v &&& 0x3C1))).replying h 0x11 stDone []))) ∧
  (∀ (s : State) (h : Hdr) (u : Fin 4), s.ready h = true → s.released = true →
     let k := s.atCommit h
     let id := uartId u.val 0x0B
     k.hostQueue u.val = true → (k.unit (0x30 + u.val)).st ≠ .draining →
     (k.sets.filter fun x => x.id == id && x.sub == 0) = [] →
     (∀ e rest, (k.uartOf u.val).rxq = e :: rest →
       exec (.rxPop h u) s = .next ((k.popRx u.val).replying h 0x10 stDone
         [Word.of id, Word.of (e.toNat + 2 ^ 12), Word.of (e.toNat + 2 ^ 12)])) ∧
     ((k.uartOf u.val).rxq = [] → ∃ t : State, exec (.rxPop h u) s = .next (t.replying h 0x10 stDone [Word.of id, 0, 0])) ∧
     (∀ b < 256, (k.uartOf u.val).txq.length < (k.depths u.val).2 →
       exec (.txPush h u (Word.of b)) s = .next ((k.setUart u.val { k.uartOf u.val with
         txq := (k.uartOf u.val).txq ++ [BitVec.ofNat 8 b] }).replying h 0x11 stDone []))) ∧
  (∀ (s : State) (h : Hdr) (v : Word), s.ready h = true → s.released = true →
     let k := s.atCommit h
     (∀ ring : Fin 16,
       let id := ringId ring.val 0x68
       let n := ringSize (k.reg (ringId ring.val 0x58))
       v.toNat < n → (v.toNat + n - k.regN id) % n ≤ k.ringLevel ring.val → valueOk id 0 v = true →
       (k.setReg id 0 v).crossOkFrom k.sets 0 id 0 = true → (k.unit (ringUnit ring.val)).st ≠ .draining →
       exec (.ringRdWrite h ring v) s = .next (((k.setReg id 0 v).refreshThresh ring.val).replying h 0x11 stDone [])) ∧
     (∀ ch : Fin 24,
       let id := 0x3840 + ch.val
       let m := 2 ^ (k.dmaCfg ch.val).bits 5 4
       v.toNat < m → k.dmaPending (fun a b => k.reg a b) ch.val ≤ (v.toNat + m - k.regN (0x3860 + ch.val)) % m →
       valueOk id 0 v = true → (k.unit 0x38).st ≠ .draining →
       exec (.dmaHeadWrite h ch v) s = .next ((k.setReg id 0 v).replying h 0x11 stDone []))) ∧
  (∀ (s : State) (h : Hdr), s.ready h = true → s.released = true →
     let k := s.atCommit h
     (k.sint.scan = none → (k.unit 0x03).st ≠ .draining →
       exec (.sinterScan h 1) s = .next (({ k with sint := { k.sint with scan := some false } } : State).replying
         h 0x11 stDone [])) ∧
     ((k.unit 0x04).st ≠ .draining → exec (.secRelock h 1) s = .next ((k.relock 1).replying h 0x11 stDone [])) ∧
     (∀ u : Fin 4, k.linMode u.val = false → (k.unit (0x30 + u.val)).st ≠ .draining →
       exec (.autobaudArm h u 1) s = .next
         ((((k.setReg (uartId u.val 8) 0 1).setRegBit (uartId u.val 0x0D) 0 5 true).setUart u.val
           { (k.setRegBit (uartId u.val 0x0D) 0 5 true).uartOf u.val with inChar := false }).replying h 0x11 stDone [])))

/-! ### Units -/

/-- UNIT_POWER on of an OFF unit; UNIT_POWER off and UNIT_RESET of a READY or RUNNING unit, which drains until the
boundary and whose epoch the reply names (R292, R293, R345). LOG_CLEAR of 0xFFFFFFFF empties the log and nothing else,
LOG_READ of the number that comes next returns that number and no entry, and SOFT_RESET with its key makes a restart
due (R320, R319, R283). -/
def Obligations.HouseRequestsAct : Prop :=
  (∀ (s : State) (h : Hdr) (u : Nat), s.sound = true → s.ready h = true → s.released = true → u < 256 →
     isUnit u = true → fixedUnit u = false →
     let k := s.atCommit h
     let x := k.unit u
     x.skewed = false → x.after = none →
     (x.st = .off → ∃ t : State, exec (.unitPowerOn h (BitVec.ofNat 8 u)) s = .next (t.replying h 0x20 stDone
         [Word.of (x.epoch.toNat + 1 * 2 ^ 8)]) ∧
       t = k.setUnit u { x with next := some (.waking, 2), restart := false } ) ∧
     (x.st = .ready ∨ x.st = .running →
       (∃ t : State, exec (.unitPowerOff h (BitVec.ofNat 8 u)) s = .next (t.replying h 0x20 stDone
           [Word.of ((t.unit u).epoch.toNat + 0 * 2 ^ 8)]) ∧
         (t.unit u).st = .draining ∧ (t.unit u).next = some (.off, 2) ∧ (t.unit u).restart = false ∧
         (t.unit u).epoch = if x.st = .running then x.epoch + 1 else x.epoch) ∧
       (∃ t : State, exec (.unitReset h [Word.of u]) s = .next (t.replying h 0x21 stDone
           [Word.of ((t.unit u).epoch.toNat + 1 * 2 ^ 8)]) ∧
         (t.unit u).st = .draining ∧ (t.unit u).next = some (.waking, 1) ∧ (t.unit u).restart = true ∧
         (t.unit u).epoch = if x.st = .running then x.epoch + 1 else x.epoch))) ∧
  (∀ (s : State) (h : Hdr), s.ready h = true → s.released = true →
     let k := s.atCommit h
     exec (.logClear h [0xFFFFFFFF]) s = .next
       (({ k with fuma := { k.fuma with log := [] } } : State).replying h 0x61 stDone []) ∧
     (∀ n, 0 < n → n < 64 → let ws := [k.reg 0x0601, Word.of n]
       exec (.logRead h ws) s = .next
         (k.replying h 0x60 stDone [k.reg 0x0601, Word.of (k.fuma.log.length * 2 ^ 16)] ws)) ∧
     (∀ n e rest, 0 < n → n < 64 → k.fuma.log = e :: rest → rest.length < 512 →
       let ws := [k.reg 0x0601 - Word.of (rest.length + 1), Word.of n]
       exec (.logRead h ws) s = .next
         (k.replying h 0x60 stDone ([k.reg 0x0601 - Word.of (rest.length + 1),
           Word.of (min n (rest.length + 1) + (rest.length + 1) * 2 ^ 16)] ++ ((e :: rest).take n).flatMap Event.words)
           ws)) ∧
     (k.boot.restart = none → exec (.softReset h [0x0000A5A5]) s = .next
       (({ k with boot := { k.boot with restart := some (1, trNum h.tr) } } : State).replying h 0x7E stDone [])) ∧
     (∀ w, w ≠ 0x0000A5A5 → exec (.softReset h [w]) s = .next (k.replying h 0x7E stParamBad [0])))

/-! ### Requests for work -/

/-- PLAN_LOAD of a plan that passes R35 and PLAN_SWAP of the shadow plan to a boundary in reach (R295, R296, R276).
REGION_LOAD from the active set, with flash read access, starts a job and discards the shadow; REGION_SWAP of a
complete shadow starts a job; both of a READY or RUNNING region (R298, R299, R710, Table OPS-2). COEF_LOAD of a chain
in STOPPED mode that is READY stores the taps it names and no other; COEF_SWAP starts a job (R300 to R302). -/
def Obligations.SwapRequestsQueue : Prop :=
  (∀ (s : State) (h : Hdr), s.ready h = true → s.released = true →
     let k := s.atCommit h
     (∀ ws, 5 ≤ ws.length → ws.length ≤ 194 → 0 < (ws.getD 1 0).toNat → (ws.getD 1 0).toNat ≤ 64 →
       ws.length = 2 + 3 * (ws.getD 1 0).toNat → k.planSwapAt = none → k.loadError [] (planItems (ws.drop 2)) 2 = none →
       exec (.planLoad h ws) s = .next (({ k with tick := { k.tick with
         shadow := some { id := ws.getD 0 0, items := (planItems (ws.drop 2)).map Prod.fst } } } : State).replying
           h 0x28 stDone [])) ∧
     (∀ p w at_, k.tick.shadow = some p → k.boundaryOf w = some at_ → k.swapFits (k.dist at_) p = true →
       k.jobs.running.length < 8 →
       (k.jobs.running.any fun j => match j.kind with
         | .planSwap .. => true
         | _ => false) = false →
       let r := k.startJob 0x29 (.planSwap p.id at_)
       exec (.planSwap h [p.id, w]) s = .next (r.1.replying h 0x29 stQueued [Word.of (r.2 + 0x29 * 2 ^ 8)]))) ∧
  (∀ (s : State) (h : Hdr) (r : Nat), s.ready h = true → s.released = true → r < 8 →
     let k := s.atCommit h
     ((k.unit (0x20 + r)).st = .ready ∨ (k.unit (0x20 + r)).st = .running) → k.jobs.running.length < 8 →
     (k.jobs.running.any fun j => JobKind.onRegion r j.kind) = false →
     (k.reg 0x3A01 ≠ 0 → k.imageJob = none →
       let j := k.startJob 0x30 (.regionLoad r false 0 (max 1 (k.loadImage r false).length))
       exec (.regionLoad h [Word.of r]) s = .next
         ((j.1.setRegion r { j.1.regionOf r with shadow := none, complete := false, loading := true }).replying
           h 0x30 stQueued [Word.of (j.2 + 0x30 * 2 ^ 8)])) ∧
     (∀ w at_, (k.regionOf r).complete = true → k.boundaryOf w = some at_ →
       let j := k.startJob 0x31 (.regionSwap r at_)
       exec (.regionSwap h [Word.of r, w]) s = .next (j.1.replying h 0x31 stQueued [Word.of (j.2 + 0x31 * 2 ^ 8)]))) ∧
  (∀ (s : State) (h : Hdr) (f : Nat), s.ready h = true → s.released = true → f < 8 →
     let k := s.atCommit h
     let u := 0x10 + f
     (k.unit u).st = .ready → k.regBit (u * 256 + 0x0B) 0 0 = false →
     (∀ bank first cs, bank < 2 → first + cs.length ≤ 64 → cs ≠ [] → (∀ c ∈ cs, c.toNat < 2 ^ 18) →
       ∃ t : State, exec (.coefLoad h (Word.of (f + bank * 8 + first * 2 ^ 8) :: cs)) s = .next (t.replying h 0x34 stDone []) ∧
         t = k.setFilt f { k.filtOf f with coef := putCoefs (k.filtOf f).coef (64 * bank + first) cs }) ∧
     (∀ w at_, k.boundaryOf w = some at_ → k.regBit (u * 256 + 0x11) 0 1 = false → k.jobs.running.length < 8 →
       (k.jobs.running.any fun j => match j.kind with
         | .coefSwap g _ => g == f
         | _ => false) = false →
       let j := k.startJob 0x35 (.coefSwap f at_)
       exec (.coefSwap h [Word.of f, w]) s = .next (j.1.replying h 0x35 stQueued [Word.of (j.2 + 0x35 * 2 ^ 8)])))

/-- CONVERT issues one software trigger, but in a doze tick, and names the tick (R303, R541); CAPTURE arms a snapshot, and
reads the words of SRAM, of which none is poisoned, or of XSPI1 that it names (R305, R307). -/
def Obligations.ConvertAndCaptureAct : Prop :=
  ∀ (s : State) (h : Hdr), s.ready h = true → s.released = true →
    let k := s.atCommit h
    (∀ n e, n < 2 → e < 32 → ((k.unit (seqUnit n)).st = .ready ∨ (k.unit (seqUnit n)).st = .running) →
      exec (.convert h [Word.of (n + e * 2 ^ 8)]) s = .next
        ((if k.dozeTick then k else (k.issueTrig n 101 e (k.regN (seqUnit n * 256 + 2)) none).1).replying h 0x38 stDone
          [k.tick.count.setWidth 32])) ∧
    (∀ (c : Side) (e : Fin 32) (addr count t : Word), addr.toNat % 8 = 0 → addr.toNat < 0x800000 → 0 < count.toNat →
      count.toNat ≤ 1048576 → addr.toNat + 4 * count.toNat ≤ 0x800000 → 0 < t.toNat → t.toNat ≤ 65535 →
      k.captureBlocked ⟨.capture, 0, false, addr.toNat, 4 * count.toNat⟩ = false →
      ((k.unit (convUnit (sideN c))).st = .ready ∨ (k.unit (convUnit (sideN c))).st = .running) →
      k.jobs.running.length < 8 →
      (k.jobs.running.any fun j => match j.kind with
        | .capture q .. => q == c
        | _ => false) = false →
      let j := k.startJob 0x39 (.capture c e.val addr.toNat count.toNat 0 (k.countAt t.toNat))
      exec (.captureArm h c e addr count t) s = .next (j.1.replying h 0x39 stQueued [Word.of (j.2 + 0x39 * 2 ^ 8)])) ∧
    (∀ addr count : Word, addr.toNat % 4 = 0 → 0 < count.toNat → count.toNat ≤ 254 →
      (k.isRunning 0x3C = true → addr.toNat + 4 * count.toNat ≤ 0x800000 →
        (∀ w, addr.toNat / 8 ≤ w → w ≤ (addr.toNat + 4 * count.toNat - 1) / 8 → lookup false k.mem.poison w = false) →
        exec (.captureRead h false addr count .clean) s = .next
          (k.replying h 0x39 stDone (readWords k.sramByte addr.toNat count.toNat))) ∧
      (k.isRunning 0x3B = true → addr.toNat + 4 * count.toNat ≤ k.psramBytes →
        exec (.captureRead h true addr count .clean) s = .next
          ((k.countBytes true (4 * count.toNat)).replying h 0x39 stDone (readWords k.psramByte addr.toNat count.toNat))))

/-- FUSE_PROG of unlocked bits and COUNTER_ADVANCE of USER0 start a programming job while R196 holds; where nothing is
left to program they are DONE at once (R309, R311, R187, R190, R192, R196, R197). -/
def Obligations.ProgrammingRequestsQueue : Prop :=
  ∀ (s : State) (h : Hdr), s.ready h = true → s.released = true →
    let k := s.atCommit h
    k.mayProgram = true → k.jobs.running.length < 8 →
    (∀ row mask, 48 ≤ row → row < 64 →
      let bits := ((List.range 32).filter fun b => mask.bit b).map fun b => (row, b)
      (k.fuseJob none bits = none → exec (.fuseProg h [Word.of row, mask]) s = .next (k.replying h 0x41 stDone [])) ∧
      (∀ f, k.fuseJob none bits = some f →
        let j := k.startJob 0x41 (.fuse f)
        exec (.fuseProg h [Word.of row, mask]) s = .next
          ((j.1.setReg 0x0307 0 1).replying h 0x41 stQueued [Word.of (j.2 + 0x41 * 2 ^ 8)]))) ∧
    (∀ target, target ≤ 64 →
      (target ≤ k.counterValue 2 →
        exec (.counterAdvance h [Word.of (2 + target * 2 ^ 8)]) s = .next (k.replying h 0x43 stDone [])) ∧
      (k.counterValue 2 < target → ∀ f, k.fuseJob (some 2) ((List.range (target - k.counterValue 2)).map fun i =>
          (37 + (k.counterValue 2 + i) / 32, (k.counterValue 2 + i) % 32)) = some f →
        let j := k.startJob 0x43 (.fuse f)
        exec (.counterAdvance h [Word.of (2 + target * 2 ^ 8)]) s = .next
          ((j.1.setReg 0x0307 0 1).replying h 0x43 stQueued [Word.of (j.2 + 0x43 * 2 ^ 8)])))

/-- RANDOM of READY or RUNNING RNG: of bytes that the output buffer holds it returns and removes them; of more than there
are it is in execution with the bytes that there are (R274, R312). A challenge returns the unique ID and 16 fresh bytes, the
new nonce (R321); a response that verifies ORs its scope into the unlock, one that does not is denied and counted, and either
spends the nonce (R322, R664, R665). -/
def Obligations.RandomAndUnlockAct : Prop :=
  ∀ (s : State) (h : Hdr), s.ready h = true → s.released = true →
    let k := s.atCommit h
    (∀ n, 0 < n → n ≤ 1012 → ((k.unit 0x05).st = .ready ∨ (k.unit 0x05).st = .running) → k.rngUnfit = false →
      k.dozeTick = false →
      (n ≤ k.rng.buf.length → exec (.random h [Word.of n]) s = .next
        ((k.drawRandom n).replying h 0x48 stDone (packRandom (k.rng.buf.take n)))) ∧
      (k.rng.buf.length < n → (k.jobs.running.any fun j => match j.kind with
          | .random .. => true
          | _ => false) = false →
        let z : State := { k with rng := { k.rng with buf := [] } }
        exec (.random h [Word.of n]) s = .next
          (((z.setTr (trNum h.tr) { z.trOf (trNum h.tr) with got := k.rng.buf }).refreshRng).replying h 0x48 stQueued []
            [Word.of n]))) ∧
    (k.isRunning 0x05 = true → k.rngUnfit = false → 16 ≤ k.rng.buf.length →
      let z := k.drawRandom 16
      exec (.debugUnlockChallenge h) s = .next
        (({ z with sec := { z.sec with nonce := some (k.rng.buf.take 16) } } : State).replying h 0x70 stDone
          (((List.range 4).map fun i => k.dlvRow (20 + i)) ++ wordsOfBytes (k.rng.buf.take 16)))) ∧
    (∀ (slot : Bool) (scope : Fin 256) sig, sig.length = 16 → 0 < scope.val → scope.val < 4 →
      (k.unlockReason slot.toNat scope.val sig = 0 →
        let z : State := { k with sec := { k.sec with nonce := none, scope := k.sec.scope ||| scope.val, slot := slot.toNat } }
        exec (.debugUnlockResponse h slot scope sig) s = .next
          ((z.emit 0x04 evSecUnlock (scope.val + slot.toNat * 4)).replying h 0x70 stDone [])) ∧
      (k.unlockReason slot.toNat scope.val sig ≠ 0 →
        let z : State := { k with sec := { k.sec with nonce := none } }
        exec (.debugUnlockResponse h slot scope sig) s = .next
          (((z.bump 0x0404).emit 0x04 evSecUnlockDenied
            (slot.toNat * 4 + k.unlockReason slot.toNat scope.val sig * 16)).replying h 0x70 stDenied [])))

/-- IMAGE_OPEN of a slot that was not loaded, IMAGE_WRITE at the write pointer, IMAGE_VERIFY, and IMAGE_ACTIVATE of a
verified slot, which marks it (R314 to R317, R688, R703, R706, R708). -/
def Obligations.ImageRequestsAct : Prop :=
  ∀ (s : State) (h : Hdr), s.ready h = true → s.released = true →
    let k := s.atCommit h
    (∀ t n, t ≤ 2 → (openLengths t).1 ≤ n → n ≤ (openLengths t).2 → k.loadedSlot t = false → k.stagingRead = false →
      k.jobs.running.length < 8 → (k.jobs.running.any fun j => JobKind.onImage j.kind) = false →
      let j := k.startJob 0x50 (.imageOpen t n)
      exec (.imageOpen h [Word.of t, Word.of n]) s = .next
        (((((j.1.setReg 0x0010 0 (Word.of t)).setReg 0x0011 0 0).setReg 0x0012 0 (Word.of n)).setVerify t {}).replying
          h 0x50 stQueued [Word.of (j.2 + 0x50 * 2 ^ 8)])) ∧
    (∀ data : List Word, data ≠ [] → data.length ≤ 254 → k.regN 0x0010 ≠ 3 → k.imageJob = none →
      k.regN 0x0011 + 4 * data.length ≤ k.regN 0x0012 →
      exec (.imageWrite h (k.reg 0x0011 :: data) false) s = .next
        ((((k.writeBytes State.setFlashByte (targetBase (k.regN 0x0010) + k.regN 0x0011) (data.flatMap Word.bytes)).setReg
          0x0011 0 (Word.of (k.regN 0x0011 + 4 * data.length))).setVerify (k.regN 0x0010) {}).replying h 0x51 stDone [])) ∧
    (∀ t, t ≤ 2 → ¬(k.regN 0x0010 = t ∧ k.reg 0x0011 < k.reg 0x0012) → k.jobs.running.length < 8 →
      (k.jobs.running.any fun j => JobKind.onImage j.kind) = false →
      let j := k.startJob 0x52 (.imageVerify t)
      exec (.imageVerify h [Word.of t]) s = .next (j.1.replying h 0x52 stQueued [Word.of (j.2 + 0x52 * 2 ^ 8)])) ∧
    (∀ slot loc mseq, slot < 2 → k.verify slot = { code := 1, good := true } → manSecver (k.slotManifest slot) ≤ 128 →
      k.counterValue 0 ≤ manSecver (k.slotManifest slot) → k.nextRecord = some loc →
      mseq = (k.marker.map fun m => Word.of (m.2.1 + 1)).getD 1 →
      exec (.imageActivate h [Word.of slot, 0]) s = .next
        (((k.writeBytes State.setFlashByte (markerAddr loc) (recordBytes mseq (slot + 1))).emit 0x00 evImgActivated
          (slot + 1 + mseq.toNat % 2 ^ 24 * 2 ^ 8)).replying h 0x53 stDone []))

/-- A request of a defined opcode whose LEN lies outside the range of Table OPS-1 completes with PARAM_BAD and 0xFF,
and changes nothing but its transport's SEQ and reply (R271, R272, Table CMD-4). -/
def Obligations.LenOutsideRangeIsRefused : Prop :=
  ∀ (s : State) (tr : Transport) (dt : Nat) (bs : List Byte) (l : Nat × Nat),
    let h : Hdr := { tr := tr, seq := bs.getD 1 0, dt := dt }
    let op := (bs.getD 2 0).toNat
    packetFramed bs = true → packetCrcOk bs = true → s.ready h = true → (s.atCommit h).answers op = true →
    opcodeLen op = some l → (packetWords bs).length < l.1 ∨ l.2 < (packetWords bs).length →
    exec (.requestCommit tr dt bs) s = .next ((s.atCommit h).replying h op stParamBad [0xFF])

/-- Checks 5 and 6 of Table CMD-4 and the unit states of Table OPS-2: an opcode that the phase does not allow
completes with NOT_NOW, one that is not defined with OPCODE_UNKNOWN; a request to a DRAINING unit completes with
UNIT_GONE, and a reset of an OFF one with UNIT_STATE, naming the unit's word (R228, R272, R274). Each changes nothing
but its transport's SEQ and reply. -/
def Obligations.PhaseAndUnitStateRefuse : Prop :=
  ∀ (s : State) (h : Hdr) (ws : List Word), s.ready h = true →
    let k := s.atCommit h
    (s.boot.phase = .phase2 ∨ s.boot.phase = .phase3 →
      exec (.poll h ws) s = .next (k.replying h 0x03 stNotNow []) ∧
      exec (.set h ws) s = .next (k.replying h 0x11 stNotNow []) ∧
      exec (.fuseProg h ws) s = .next (k.replying h 0x41 stNotNow []) ∧
      exec (.softReset h ws) s = .next (k.replying h 0x7E stNotNow [])) ∧
    (∀ tr dt bs, h = { tr := tr, seq := bs.getD 1 0, dt := dt } → packetFramed bs = true → packetCrcOk bs = true →
      s.released = true → opcodeLen (bs.getD 2 0).toNat = none →
      exec (.requestCommit tr dt bs) s = .next (k.replying h (bs.getD 2 0).toNat stOpcodeUnknown [])) ∧
    (s.released = true → ∀ u < 256, isUnit u = true → fixedUnit u = false →
      ((k.unit u).st = .draining →
        exec (.unitReset h [Word.of u]) s = .next (k.replying h 0x21 stUnitGone [0]) ∧
        exec (.unitPowerOff h (BitVec.ofNat 8 u)) s = .next (k.replying h 0x20 stUnitGone [0])) ∧
      ((k.unit u).st = .off → (k.unit u).skewed = false →
        exec (.unitReset h [Word.of u]) s = .next (k.replying h 0x21 stUnitState [0])))

/-! ### Transports -/

/-- The SPI frame (R240, R241, R243, R245 to R248, R227): HCS_N low takes the reply buffer; the first byte decides the
kind, and fewer than eight bits decide nothing; a bad first byte earns FRAME_BAD; HCS_N high before the commit point counts
an abort, and takes an error reply that stood in the buffer at the frame's start out of it. HSDO sends the reply most
significant bit first, and 0xFF beyond it. A reply becomes ready: it is the stored reply, the request executes no longer,
and the SPI port pulls HIRQ_N low or the serial port has it to send (R231, R245, R248, R258); a RANDOM that is short of bytes
goes on as a job (R312); an error reply that is ready takes the SPI port's buffer. A serial transport begins to send its
oldest ready reply, and a gap inside a request discards it and is counted (R254). -/
def Obligations.TransportCommands : Prop :=
  (∀ s : State, exec .spiFrameStart s = .next { s with spi := {
     open_ := true, hsck := 0, kind := none, committed := false, errAt := (s.trOf 0).up.isSome
     hsdo := if s.served 0 then s.replyBuffer else none, hirqLow := false } }) ∧
  (∀ (s : State) (bits : List Bool) (hsck : Nat), s.spi.open_ = true → s.spi.kind = none →
     (bits.length < 8 → exec (.spiFirstByte bits hsck) s = .next s) ∧
     (8 ≤ bits.length →
       (byteOfBits bits = 0xC5 →
         exec (.spiFirstByte bits hsck) s = .next { s with spi := { s.spi with kind := some .request, hsck := hsck } }) ∧
       (byteOfBits bits = 0x00 ∨ byteOfBits bits = 0xFF →
         exec (.spiFirstByte bits hsck) s = .next { s with spi := { s.spi with kind := some .read, hsck := hsck } }) ∧
       (byteOfBits bits ≠ 0xC5 → byteOfBits bits ≠ 0x00 → byteOfBits bits ≠ 0xFF → s.served 0 = true →
         let seq := if bits.length < 16 then 0 else byteOfBits (bits.drop 8)
         exec (.spiFirstByte bits hsck) s = .next
           ((({ s with spi := { s.spi with kind := some .bad, hsck := hsck } } : State).transportError 0 3 seq).errReply 0
             { seq := seq, status := stFrameBad, op := 0, words := [] })))) ∧
  (∀ (s : State) (seq : Byte), s.spi.open_ = true →
     let shut : SpiSt := { s.spi with open_ := false, kind := none, committed := false, errAt := false }
     (s.spi.kind = some .request → s.spi.committed = false → s.served 0 = true → s.spi.errAt = false →
       exec (.spiFrameEnd seq) s = .next { s.transportError 0 1 seq with spi := shut }) ∧
     ((s.spi.kind = some .request ∧ s.spi.committed = true) ∨ s.spi.kind = some .bad → s.spi.errAt = true →
       exec (.spiFrameEnd seq) s = .next { s.setTr 0 { s.trOf 0 with up := none } with spi := shut }) ∧
     (s.spi.kind = none ∨ s.spi.kind = some .read → exec (.spiFrameEnd seq) s = .next { s with spi := shut })) ∧
  (∀ (p : SpiSt) (i j : Nat), p.open_ = true → j < 8 →
     (∀ r b, p.hsdo = some r → r.bytes[i]? = some b → p.level (8 * i + j) = some (b.getLsbD (7 - j))) ∧
     (p.hsdo = none → p.level (8 * i + j) = some true)) ∧
  (∀ s : State,
     (∀ (tr : Transport) r, (s.trOf (trNum tr)).exec = some r → keepsWords r.op r.status = false →
       let z := s.setTr (trNum tr) { s.trOf (trNum tr) with stored := some r, exec := none, ask := [], got := [] }
       exec (.replyReady ⟨tr, false⟩) s = .next (if tr = .spi then { z with spi := { z.spi with hirqLow := true } }
         else z.setTr (trNum tr) { z.trOf (trNum tr) with toSend := (z.trOf (trNum tr)).toSend ++ [r] })) ∧
     (∀ (tr : Transport) r, (s.trOf (trNum tr)).exec = some r → r.op = 0x48 → r.status = stQueued →
       ((s.unit 0x05).st = .ready ∨ (s.unit 0x05).st = .running) → s.jobs.running.length < 8 →
       (s.jobs.running.any fun j => match j.kind with
         | .random .. => true
         | _ => false) = false →
       let j := s.startJob 0x48 (.random ((s.trOf (trNum tr)).ask.getD 0 0).toNat (s.trOf (trNum tr)).got)
       let q : Reply := { r with words := [Word.of (j.2 + 0x48 * 2 ^ 8)] }
       exec (.replyReady ⟨tr, false⟩) s = .next ((j.1.setTr (trNum tr) { j.1.trOf (trNum tr) with
         stored := some q, exec := none, ask := [], got := [] }).announce (trNum tr) q)) ∧
     (∀ e rest, (s.trOf 0).errs = e :: rest → exec (.replyReady ⟨.spi, true⟩) s = .next
       { s.setTr 0 { s.trOf 0 with errs := rest, up := some e } with
         spi := { s.spi with errAt := false, hirqLow := true } }) ∧
     (∀ (u : Fin 4) r rest, (s.trOf (u.val + 1)).toSend = r :: rest → (s.trOf (u.val + 1)).out = [] →
       s.isActive (0x30 + u.val) = true → exec (.transportReplySend u) s = .next
         (s.setTr (u.val + 1) { s.trOf (u.val + 1) with toSend := rest, out := r.bytes })) ∧
     (∀ (u : Fin 4), rxPartial (s.trOf (u.val + 1)).rx = true → (s.uartOf u.val).inChar = false →
       let z := s.reach (s.gapEnd u.val)
       exec (.gapTimeout u) s = .next ((z.setTr (u.val + 1) { z.trOf (u.val + 1) with rx := [] }).transportError
         (u.val + 1) 6 ((s.trOf (u.val + 1)).rx.getD 1 0))))

/-- A packet at its commit point (R226 to R231, Table CMD-4): a good NOP executes; bad framing earns FRAME_BAD and a bad CRC
CRC_BAD, both counted; while a request executes another is discarded and counted; a repetition of the last executed SEQ
earns SEQ_DUP with the stored reply and executes nothing. A transport that does not hear it has no request (R242, R265). -/
def Obligations.PacketsAreCheckedInOrder : Prop :=
  ∀ (s : State) (tr : Transport) (dt : Nat) (bs : List Byte),
    let n := trNum tr
    let h : Hdr := { tr := tr, seq := bs.getD 1 0, dt := dt }
    let c := s.toCommit n dt
    let z := c.taken n
    (c.hears n = false → exec (.requestCommit tr dt bs) s = .next c) ∧
    (c.hears n = true → c.garbled n = false →
      (packetFramed bs = false → exec (.requestCommit tr dt bs) s = .next ((z.transportError n 3 h.seq).errReply n
        { seq := h.seq, status := stFrameBad, op := 0, words := [] })) ∧
      (packetFramed bs = true →
        (packetCrcOk bs = true → bs.getD 2 0 = 0x7F → s.ready h = true → s.released = true →
          exec (.requestCommit tr dt bs) s = .next ((s.atCommit h).replying h 0x7F stDone [])) ∧
        (packetCrcOk bs = false → exec (.requestCommit tr dt bs) s = .next ((z.transportError n 2 h.seq).errReply n
          { seq := h.seq, status := stCrcBad, op := 0, words := [] })) ∧
        (packetCrcOk bs = true → (z.trOf n).exec.isSome = true →
          exec (.requestCommit tr dt bs) s = .next (z.transportError n 5 h.seq)) ∧
        (packetCrcOk bs = true → (z.trOf n).exec = none → (z.trOf n).last = some h.seq →
          exec (.requestCommit tr dt bs) s = .next ((z.transportError n 4 h.seq).errReply n
            { seq := h.seq, status := stSeqDup, op := 0, words := match (z.trOf n).stored with
              | none => []
              | some r => Word.of (r.status + r.op * 2 ^ 8) :: r.words }))))

/-! ### Reset and start-up -/

/-- RST_N low below 50 ns changes nothing; for 1 µs or longer it resets: only the fuses, the flash, the external
memory, the clamp flags and the supplies stay as they are where no job writes them (R112, R113, R151, R238); in
between the spec states nothing, and the model stops. -/
def Obligations.ResetPinRanges : Prop :=
  ∀ s : State,
    (∀ ns, ns < 50 → exec (.rstNAssert ns) s = .next s) ∧
    (∀ ns, 50 ≤ ns → ns < 1000 → exec (.rstNAssert ns) s = .fault .rstPulseUnstated) ∧
    (∀ ns, 1000 ≤ ns → ∃ t : State, exec (.rstNAssert ns) s = .next t ∧ t.boot.phase = .held ∧ t.units = [] ∧ t.sets = [] ∧
      t.fuma.log = [] ∧ t.tr = [] ∧ t.jobs.running = [] ∧ t.sec.scope = 0 ∧ t.mem.sram = [] ∧
      t.mem.psram = s.mem.psram ∧ t.pending = s.pending ∧ t.now = s.now ∧
      t.regs = s.regs.filter (fun p => p.1 / 256 == 0x1B17) ∧
      (s.jobs.running = [] → t.sint.copy0 = s.sint.copy0 ∧ t.sint.copy1 = s.sint.copy1 ∧ t.img.flash = s.img.flash))

/-- The release of RST_N samples the straps and starts phase 1 (R114); a restart that is due keeps the log and each
transport's last SEQ and stored reply and starts phase 1 (R150, R151); a domain's supply comes up (R830). -/
def Obligations.StartsBegin : Prop :=
  ∀ s : State,
    (∀ b, s.boot.phase = .held → ∃ t : State, exec (.rstNRelease b) s = .next t ∧ t.boot.phase = .phase1 ∧
      t.boot.began = s.now ∧ (s.regsWf = true → t.reg 0x0003 = b.setWidth 32) ∧ t.units = s.units ∧ t.fuma = s.fuma) ∧
    (∀ b cause n, s.boot.restart = some (cause, n) → (s.trOf n).exec = none → ∃ t : State,
      exec (.restart b) s = .next t ∧ t.boot.phase = .phase1 ∧ t.fuma.log = s.fuma.log ∧ t.units = [] ∧ t.sets = [] ∧
      t.jobs.running = [] ∧ t.mem.psram = s.mem.psram ∧ t.boot.restart = none ∧
      (∀ m, wfMap {} s.tr = true → (t.trOf m).last = (s.trOf m).last ∧ (t.trOf m).stored = (s.trOf m).stored ∧
        (t.trOf m).exec = none)) ∧
    exec (.powerUp .vioH) s = .next { s with pwr := { s.pwr with vioH := true } } ∧
    exec (.powerUp .vioM) s = .next { s with pwr := { s.pwr with vioM := true } } ∧
    exec (.powerUp .ana) s = .next { s with pwr := { s.pwr with ana := true } }

/-- The critical regions are delivered once in phase 1, SECURITY as the OR of its copies, and the lifecycle is taken (R177,
R178, R658); the PLL locks within 40 µs, which starts the tick with count 0 and phase 2, fixes the reference frequency, and
takes the sensor's reading (R22, R118, R163, R836, R839); a re-read of a failed region that
passes delivers it with outcome 2 (R121, R180). -/
def Obligations.DeliveryAndLock : Prop :=
  ∀ s : State,
    (∀ (t o : List Word) (xs : List (Word × Word)), s.boot.phase = .phase1 → s.boot.delivered = false → t.length = 16 →
      o.length = 4 → xs.length = 12 → ∃ z : State, exec (.sinterDelivery (some t) (some o) (some xs)) s = .next z ∧
        let x := xs.map fun p => p.1 ||| p.2
        z.boot.delivered = true ∧ z.sec.life = s.counterValue 1 ∧
        z.sint.dlv = (((s.deliver 0 t).deliver 16 o).deliver 20 x).sint.dlv ∧
        (s.regsWf = true → z.reg 0x0300 = Word.of (regionOutcome true false t + regionOutcome false false o * 4 +
          regionOutcome false true x * 16))) ∧
    (∀ dt, s.boot.phase = .phase1 → s.boot.delivered = true → s.boot.began ≤ s.now → s.now + dt - s.boot.began ≤ 16000 →
      s.sec.life < 3 → ∀ temp, ∃ z : State, exec (.pllLock ⟨dt, temp⟩) s = .next z ∧ z.boot.phase = .phase2 ∧
        z.tick.running = true ∧ z.tick.count = s.tick.count ∧ z.cyc = 0 ∧ z.pwr.locked = true ∧ z.now = s.now + dt ∧
        (s.regsWf = true → z.reg 0x000E = temp.setWidth 32 ∧ z.reg 0x001A = Word.of s.fuseMhz)) ∧
    (∀ rows, s.boot.phase = .phase2 → (s.reg 0x0300).bits 0 2 = 3 → s.boot.rereads.1 < 3 →
      regionOutcome true false rows ≠ 3 → ∃ z : State, exec (.trimReread .trim (some rows)) s = .next z ∧
        z.sint.dlv = (s.deliver 0 rows).sint.dlv ∧ z.boot.rereads = (s.boot.rereads.1 + 1, s.boot.rereads.2) ∧
        (s.regsWf = true → z.reg 0x0300 = (s.reg 0x0300).setBits 0 2 2))

/-- A slot that cannot be read fails with its code and the other is next; one that passes its checks is loaded and
phase 3 begins; an attempt is over after 70 ms (R136 to R140, R124, Table BOOT-5). Phase 3 ends when the references
have settled, at once with early release, or 40 ms after it began (R125). -/
def Obligations.AttemptsAndPhaseThree : Prop :=
  (∀ (s : State) (slot : Side) (dt : Nat), s.boot.phase = .phase2 → s.rereadDue = false →
     s.nextSlot = some (sideN slot) →
     (∀ code, code = (s.elapse dt).slotChecks (sideN slot) (decide (s.boot.tryT + 28000000 ≤ s.now + dt))
         ((s.elapse dt).ratchet 0) → code ≠ 1 →
       exec (.slotAttempt slot dt false) s = .next ((s.elapse dt).failSlot (sideN slot) code)) ∧
     (s.now + dt < s.boot.tryT + 28000000 → (s.elapse dt).slotChecks (sideN slot) false ((s.elapse dt).ratchet 0) = 1 →
       (s.elapse dt).setLoads (sideN slot) = true →
       exec (.slotAttempt slot dt false) s = .next ((s.elapse dt).loadSet (sideN slot)) ∧
       ((s.elapse dt).loadSet (sideN slot)).boot.phase = .phase3) ∧
     (∃ z : State, exec (.slotAttemptTimeout slot dt) s = .next
       (z.failSlot (sideN slot) (if z.regBit 0x0005 0 2 then 8 else 2)) ∧ s.boot.tryT + 28000000 ≤ z.now ∧
       z.now = max (s.now + dt) (s.boot.tryT + 28000000))) ∧
  (∀ s : State, s.boot.phase = .phase3 →
     (∀ dt, s.boot.refs = false → ∃ z : State, exec (.referencesSettled dt) s = .next z ∧ z.boot.refs = true ∧
       z.boot.ended = (s.boot.ended || s.boot.early) ∧ z.now = s.now + dt) ∧
     (∀ dt, ∃ z : State, exec (.phase3Timeout dt) s = .next z ∧ z.boot.ended = true ∧
       z.now = max (s.now + dt) (s.boot.began + 16000000) ∧ z.boot.phase = .phase3))

/-! ### The tick -/

/-- A boundary while the tick generator runs: the count grows by one, and the step ends at cycle 128 of the new tick; on a
device that follows no master the boundary is where its own tick generator puts it, outside doze one period after the one
before (R19, R23, R26, R94; log 2). The
settings that are bound to this boundary, and they alone, leave the list of pending settings at its commit (R28). -/
def Obligations.BoundaryAdvancesAndCommits : Prop :=
  (∀ (s : State) (temp : BitVec 16), s.tick.running = true → s.tracking = false →
     ∃ t : State, exec (.tickBoundary temp) s = .next t ∧ t.tick.count = s.tick.count + 1 ∧
       t.now = max s.now s.generated + 128 ∧ t.cyc = 128 ∧ t.pending = s.pending ∧
       (s.pwr.stopped = false → s.pwr.lag = 0 → s.cyc ≤ s.period → s.cyc ≤ s.now →
         t.now = s.now - s.cyc + s.period + 128)) ∧
  (∀ s : State, s.commit.sets = (s.sets.filter fun x => x.boot || s.dist x.bound != 0) ∧
     ∀ x ∈ s.sets, x ∈ s.commit.sets ∨ (x.boot = false ∧ s.dist x.bound = 0))

/-- A plan item starts at its offset and not before, in a tick with plan work, while its unit is RUNNING, and runs once; one
whose unit is not RUNNING is skipped and counted, and one of a frozen region waits (R38, R39, R61). -/
def Obligations.PlanItemsStart : Prop :=
  ∀ (s : State) (i action : Nat) (it : PlanItem),
    (s.canStart i action it → s.startItem i action = (s.started i it, some it) ∧
      (s.started i it).now = s.tickStart + it.offset) ∧
    (s.comesUp i action it →
      let z := s.reach (s.tickStart + it.offset)
      let k : State := { z with tick := { z.tick with fired := i :: z.tick.fired } }
      ((s.unit it.unit).st ≠ .reloading → s.isRunning it.unit = false →
        s.startItem i action = (k.bump 0x0108, none)) ∧
      ((s.unit it.unit).st = .reloading →
        s.startItem i action = ({ k with tick := { k.tick with skip := k.tick.skip ++ [i] } }, none))) ∧
    (i ∈ s.tick.fired ∨ s.tick.noWork = true → s.startItem i action = (s, none))

/-- The commands of plan items that start (R36, R510, R414, R583, R584, R632, R743, R472 to R476, R759): a sequence's
trigger with PLAN_DELAY, the latch of the masked DAC channels in the last of 400 cycles (log 16), a FILT_EMIT that takes
held words or, with DELIVER = 0, is done at once, a strobe, a drain of one burst, a calibration step whose spare is measured
after 7,040 cycles, and a burst of a channel, done at once where it has no descriptor. WIRE_CHECK without a due pin is done at its start; with due pins its run
is entered (R426, R430). OVERBUDGET counts an item that runs past its budget, once (R39). -/
def Obligations.PlanItemCommandsAct : Prop :=
  (∀ (s : State) (i : Fin 64) (it : PlanItem),
     let t := s.started i.val it
     (s.canStart i.val 1 it → exec (.seqStart i) s = .next
       (let r := t.issueTrig (it.unit - 0x0A) 100 (it.arg % 32) (t.regN (it.unit * 256 + 1)) (some i.val)
        if r.2 then r.1 else r.1.finishItem i.val)) ∧
     (s.canStart i.val 3 it → t.tickStart + it.offset + 400 ≤ t.tickEnd →
       ∃ z : State, exec (.dacUpdate i) s = .next z ∧ z.now = t.tickStart + it.offset + 399 ∧
         z.tick.items = t.tick.items.filter fun r => r.idx != i.val) ∧
     (s.canStart i.val 5 it → t.reg (it.unit * 256 + 0x0D) = 0 →
       exec (.filtEmit i) s = .next (t.finishItem i.val)) ∧
     (s.canStart i.val 5 it → t.reg (it.unit * 256 + 0x0D) ≠ 0 →
       let x := t.filtOf (it.unit - 0x10)
       let n := t.regN (it.unit * 256 + 0x0E)
       exec (.filtEmit i) s = .next ((t.setFilt (it.unit - 0x10) { x with
         held := x.held.drop n, taken := some (i.val, x.held.take n), emitT := t.now }).emitDone (it.unit - 0x10))) ∧
     (s.canStart i.val 6 it → exec (.fabricStrobe i) s = .next
       (t.setRegion (it.unit - 0x20) { t.regionOf (it.unit - 0x20) with
         strobes := (t.regionOf (it.unit - 0x20)).strobes.setBit (it.arg % 8) true
         pdone := (t.regionOf (it.unit - 0x20)).pdone.setBit (it.arg % 8) false
         pulse := (t.regionOf (it.unit - 0x20)).pulse.setBit (it.arg % 8) true })) ∧
     (s.canStart i.val 7 it → t.isRunning 0x3B = true → t.drainSize (it.arg % 16) ≠ 0 →
       (t.queue (it.arg % 16)).burst = none → exec (.geyserDrain i) s = .next
         (t.moveDrain (it.arg % 16) 2 (t.drainSize (it.arg % 16)) (some i.val))) ∧
     (s.canStart i.val 2 it → t.dmaPending (fun a b => t.reg a b) (it.arg % 32) = 0 →
       exec (.dmaBurst i) s = .next (t.finishItem i.val)) ∧
     (s.canStart i.val 2 it → t.dmaPending (fun a b => t.reg a b) (it.arg % 32) ≠ 0 →
       (t.dmaOf (it.arg % 32)).burst = none → t.isRunning 0x3C = true → t.descStatus (it.arg % 32) = 0 →
       exec (.dmaBurst i) s = .next (t.moveBurst (it.arg % 32) (some i.val))) ∧
     (∀ m, s.canStart i.val 8 it → t.regN (it.unit * 256 + 1) ≤ 1 → t.regBit (it.unit * 256 + 6) 0 1 = false →
       t.spare (it.unit - 8) ≠ 7 → t.regN (it.unit * 256 + 3) ≠ 0 →
       t.tick.count.toNat % t.regN (it.unit * 256 + 3) = 0 → m.r ≤ t.regN (it.unit * 256 + 5) →
       t.tickStart + it.offset + 7040 ≤ t.tickEnd →
       ∃ z : State, exec (.calRotate i m) s = .next (z.setConv (it.unit - 8) { z.convOf (it.unit - 8) with
           waiting := some { slice := z.spare (it.unit - 8), m := m, cold := false, warn := t.regN (it.unit * 256 + 4) } }) ∧
         z = t.reach (t.tickStart + it.offset + 7040)) ∧
     (∀ meas, s.canStart i.val 4 it →
       let due := (List.range 24).filter fun p => t.regBit 0x1B05 p 4 && t.regN 0x1B01 p == it.arg % 16
       (due = [] → exec (.wireCheck i meas) s = .next (t.finishItem i.val)) ∧
       (due ≠ [] → exec (.wireCheck i meas) s = .next { t with wire := { t.wire with runs := t.wire.runs ++
         [{ idx := i.val, meas := meas, todo := due.filter fun p => monitored (t.reg 0x1B00 p)
            idle := due.filter fun p => !monitored (t.reg 0x1B00 p), at_ := t.now, least := t.now }] } })) ∧
     (∀ r, s.tick.items.find? (fun r => r.idx == i.val && !r.overdue) = some r → ∃ z : State,
       exec (.overbudget i) s = .next z ∧ (z.tick.items.find? fun r => r.idx == i.val && !r.overdue) = none ∧
       z.now = max s.now (s.tickStart + r.item.offset + r.item.budget)))

/-- What ends a plan item's work: a done line (R632), a finished wire check (R430), a burst and a drain (R759, R743),
and a spare's swap at a sample instant (R473, R475). Each finishes its item. -/
def Obligations.PlanItemsFinish : Prop :=
  ∀ s : State,
    (∀ (r k : Fin 8) q, s.isActive (0x20 + r.val) = true → (s.regionOf r.val).strobes.bit k.val = true →
      (s.regionOf r.val).pulse.bit k.val = false →
      s.tick.items.find? (fun q => q.item.unit == 0x20 + r.val && q.item.action == 6 && q.item.arg % 8 == k.val) = some q →
      exec (.fabricStrobeDone r k) s = .next ((s.setRegion r.val { s.regionOf r.val with
        strobes := (s.regionOf r.val).strobes.setBit k.val false
        pdone := (s.regionOf r.val).pdone.setBit k.val true }).finishItem q.idx)) ∧
    (∀ r rest, s.wire.runs = r :: rest → (s.made r).finish < s.tickEnd → ∃ t : State,
      exec .wireCheckFinish s = .next t ∧ t.now = max s.now (s.made r).finish ∧
      t.wire.runs = (rest.map fun (w : WireRun) => { w with at_ := max w.at_ (t.now + 1) }) ∧
      t.tick.items = s.tick.items.filter fun q => q.idx != r.idx) ∧
    (∀ (ch : Fin 24) i, (s.dmaOf ch.val).burst = some (some i) → (s.moverEnd ch.val).1 ≤ s.tickEnd → ∃ t : State,
      exec (.dmaBurstComplete ch .clean) s = .next t ∧ t.tick.items = s.tick.items.filter fun q => q.idx != i) ∧
    (∀ (q : Fin 16) k i, (s.queue q.val).burst = some (k, some i) → (s.moverEnd (24 + q.val)).1 ≤ s.tickEnd → ∃ t : State,
      exec (.drainComplete q) s = .next t ∧ t.tick.items = s.tick.items.filter fun r => r.idx != i) ∧
    (∀ (c : Side) w q, (s.convOf (sideN c)).waiting = some w → w.cold = false →
      let p := s.regN (convUnit (sideN c) * 256 + 10) % s.positions (sideN c)
      s.posInstant (sideN c) p s.now < s.tickEnd →
      s.tick.items.find? (fun r => r.item.unit == convUnit (sideN c) && r.item.action == 8) = some q →
      exec (.calRotateSwap c) s = .next
        (((s.reach (s.posInstant (sideN c) p s.now)).swapSpare (sideN c) p w).finishItem q.idx))

/-- A DMA burst within SRAM without an error ends when the lanes have moved it (R44, R754; log 45): the words of the
descriptor at TAIL stand at their destination, STATUS is 1 and TAIL has advanced; a drain of a class C queue writes its words
to XSPI1 and removes them; each ends so where no item has started it (R743, R759). -/
def Obligations.BurstsMoveWords : Prop :=
  ∀ s : State, s.regsWf = true →
    (∀ (ch : Fin 24), (s.dmaOf ch.val).burst = some none → s.isActive 0x38 = true → s.isRunning 0x3C = true →
      (s.moverEnd ch.val).1 ≤ s.tickEnd →
      let e := s.endMover ch.val
      let z := e.setDma ch.val { e.dmaOf ch.val with burst := none, tags := [] }
      z.staleTags (s.dmaOf ch.val).tags = false → z.dmaToX ch.val = false → z.descSpace ch.val = 0 →
      (z.dmaCfg ch.val).bit 9 = false → (z.dmaCfg ch.val).bit 16 = false →
      z.uncorrWords (z.descWord ch.val 0).toNat (z.descLength ch.val / 4) .clean = [] →
      exec (.dmaBurstComplete ch .clean) s = .next
        ((z.writeBurst ch.val (z.burstWords ch.val (z.descLength ch.val / 4))).endDesc ch.val 1)) ∧
    (∀ (q : Fin 16) k, (s.queue q.val).burst = some (k, none) → s.isActive 0x39 = true → s.isRunning 0x3B = true →
      (s.moverEnd (24 + q.val)).1 ≤ s.tickEnd →
      let x := s.queue q.val
      let z := (s.endMover (24 + q.val)).setQueue q.val { x with burst := none, tags := [] }
      z.staleTags x.tags = false →
      exec (.drainComplete q) s = .next ((((z.writeDrain (x.words.take k)).setQueue q.val
        { x with words := x.words.drop k, burst := none, tags := [] }).countBytes true (4 * (x.words.take k).length)).each
          (x.words.take k) fun z p => (z.advanceWr p.1).refreshThresh p.1))

/-! ### The tick bus and the PLL -/

/-- A master's pulse begins 16 cycles before its boundary (R73), an edge inside the guard window places a follower's
boundary (R78), a window without an edge places it at T + G with its tick dropped (R81), and a search window without
an edge is a missed edge (R85). -/
def Obligations.TickBusCommands : Prop :=
  ∀ s : State,
    (s.reg 0x0200 = 1 → s.isActive 0x02 = true → s.tbus.quiet = false → s.tbus.io = false → ∃ t : State,
      exec (.tickPulse false) s = .next t ∧ t.tbus.io = true ∧ t.tbus.aux = (s.countAt 1 % 256 == 0) ∧
      t.now = max s.now (s.tickEnd - 16)) ∧
    (∀ dt marked, let z := s.elapse dt
      let e := z.now + 16 - z.regN 0x0206
      z.tracking = true → z.dozeNext = false → z.hunting = false → z.tbus.place = none → z.tbus.aim = none →
      z.tbus.edged = false → z.tbus.early = none → z.tbus.expired = none → z.absent = false →
      z.predicted ≤ e + z.guard → e ≤ z.predicted + z.guard →
      ∃ t : State, exec (.tickEdge dt marked) s = .next t ∧ t.tbus.place = some (e, false) ∧ t.tbus.missed = 0 ∧
        t.now = s.now + dt) ∧
    (s.unplaced = true → ∃ t : State, exec .guardExpiry s = .next t ∧ t.now = max s.now (s.predicted + s.guard) ∧
      (s.regsWf = true → t.tbus.place = some (s.predicted + s.guard, true) ∧ t.tbus.aim = some s.predicted)) ∧
    (∀ t0, s.tbus.expired = some t0 → ∃ t : State, exec .missedEdge s = .next t ∧ t.now = max s.now (t0 + s.search) ∧
      t.tbus.missed = s.tbus.missed + 1 ∧ t.tbus.expired = none)

/-- The PLL: a loss of lock is recorded with its instant, a relock clears it, no sooner than 10 µs after; in doze it restarts
40 µs before a wake boundary and its relock starts the clocks again (R841, R842, R96). -/
def Obligations.PllCommands : Prop :=
  ∀ s : State,
    (s.alive = true → s.pwr.locked = true → s.pwr.stopped = false → ∃ t : State, exec .pwrPllUnlock s = .next t ∧
      t.pwr.locked = false ∧ t.pwr.lostT = s.now ∧ t.now = s.now) ∧
    (∀ dt, s.regBit 0x0018 0 0 = true → ∃ t : State, exec (.pwrPllRelock dt) s = .next t ∧ t.pwr.locked = true ∧
      t.now = max (s.now + dt) (s.pwr.lostT + 4000)) ∧
    (s.pwr.stopped = true → s.pwr.restarting = false → s.trigPending = false → s.dozeNext = false → ∃ t : State,
      exec .pllRestart s = .next t ∧ t.pwr.restarting = true ∧ t.now = max s.now (s.exactEnd - 16000)) ∧
    (s.pwr.restarting = true → ∃ t : State, exec .pllRelock s = .next t ∧ t.pwr.stopped = false ∧
      t.pwr.restarting = false ∧ t.pwr.locked = true ∧ t.now = s.now)

/-! ### Programming, images and units -/

/-- One programming pulse takes 20,000 cycles or 4,000 and its verify read 400 (R193), burns one copy of one bit where
it verifies and its source may reach the fuse (R162), and a scan ends with the count of split bits and the lowest row (R203 to R205). -/
def Obligations.FusePulseBurnsOneCopy : Prop :=
  ∀ s : State,
    (∀ num f p rest, s.fuseRun = some (num, f) → f.todo = p :: rest → s.stepFits = true → s.tempOk = true →
      s.canPulse = true → f.pulses + 1 ≠ 8 →
      (∃ t : State, exec (.fuseStep false) s = .next t ∧ t.sint.copy0 = s.sint.copy0 ∧ t.sint.copy1 = s.sint.copy1 ∧
        t.now = s.now + s.stepCycles) ∧
      (∃ t : State, exec (.fuseStep true) s = .next t ∧
        t.sint.copy0 = (s.burnCopy f.copy p).sint.copy0 ∧ t.sint.copy1 = (s.burnCopy f.copy p).sint.copy1 ∧
        t.now = s.now + s.stepCycles)) ∧
    (∀ boot, s.sint.scan = some boot → ∃ t : State, exec .sinterScanDone s = .next t ∧ t.sint.scan = none ∧
      t.sint.prev = ((List.range 64).map s.splitBits).foldl (· + ·) 0 ∧ t.sint.copy0 = s.sint.copy0 ∧
      t.sint.copy1 = s.sint.copy1)

/-- Image jobs: the erase of a target leaves 0xFF in it and nothing else changed, a slow write stands in flash, a
verify keeps its result, and a full marker block without the current marker is erased (R314 to R316, R688, R689,
R705). -/
def Obligations.ImageJobsEnd : Prop :=
  ∀ s : State,
    (∀ j t n, s.imageJob = some j → j.kind = .imageOpen t n → s.memoryWf = true → ∃ z : State,
      exec .imageEraseDone s = .next z ∧ ∀ a, z.flashByte a =
        if targetBase t ≤ a ∧ a < targetBase t + targetSize t then 0xFF else s.flashByte a) ∧
    (∀ j a ws, s.imageJob = some j → j.kind = .imageWrite a ws → exec .imageWriteDone s = .next
      ((s.writeBytes State.setFlashByte a (ws.flatMap Word.bytes)).endJob j.num stDone [])) ∧
    (∀ j t code, s.imageJob = some j → j.kind = .imageVerify t → t < 2 → code = s.verifyChecks t false →
      exec (.imageVerifyDone false) s = .next
        ((s.setVerify t { code := code, good := true }).endJob j.num (verifyStatus code) [Word.of code])) ∧
    (∀ block : Bool, s.alive = true → (s.marker.any fun m => m.1 / 2048 == block.toNat) = false →
      s.erasedAt block.toNat = none → s.memoryWf = true → ∃ z : State, exec (.markerBlockErase block) s = .next z ∧
        (∀ a, z.flashByte a = if 0x10000 * block.toNat ≤ a ∧ a < 0x10000 * block.toNat + 0x10000 then 0xFF
          else s.flashByte a) ∧ z.regs = s.regs)

/-- Regions load and swap: a step of a load copies 4 KiB, and the end of a freeze makes the shadow the active
configuration (R711, R713, R624). -/
def Obligations.RegionLoadsAndSwaps : Prop :=
  ∀ (s : State) (r : Fin 8),
    (∀ j done total, s.findJob (fun j => match j with
        | .regionLoad q .. => q == r.val
        | _ => false) = some j → j.kind = .regionLoad r.val false done total →
      ((s.unit (0x20 + r.val)).st = .ready ∨ (s.unit (0x20 + r.val)).st = .running) →
      done + 4096 < (s.loadImage r.val false).length →
      exec (.regionLoadStep r) s = .next (s.setJob j.num (.regionLoad r.val false (done + 4096) total))) ∧
    ((s.unit (0x20 + r.val)).st = .reloading → wfMap {} s.region = true → ∀ c,
      (s.regionOf r.val).shadow = some c → ∃ t : State, exec (.regionFreezeEnd r) s = .next t ∧
        (t.regionOf r.val).active = some c ∧ (t.regionOf r.val).shadow = none ∧ (t.regionOf r.val).complete = false ∧
        (t.regionOf r.val).mac = [] ∧ t.now = s.now)

/-- The wake of a unit completes within its time limit, or runs into it, and a skew that the hardware detects after 256
cycles forces the unit into FAULT at once (R340, R342, R352 to R354); the log takes the oldest event of its buffer, one in a
cycle (R359, R362). -/
def Obligations.UnitCommandsAct : Prop :=
  ∀ s : State,
    (∀ u : Fin 64, (s.unit u.val).st = .waking → (s.unit u.val).wakeDone = false →
      ((s.unit u.val).wakeLate = false → s.wakeOver u.val = false → (u.val = 5 → s.rng.live = true) →
        (0x20 ≤ u.val → u.val ≤ 0x27 → (s.regionOf (u.val - 0x20)).invalid = false) →
        let z := s.setUnit u.val { s.unit u.val with wakeDone := true }
        exec (.wakeComplete u) s = .next (
          if u.val = 8 ∨ u.val = 9 then z.setConv (u.val - 8) { z.convOf (u.val - 8) with grid := some z.now }
          else if u.val = 0x3C then { z with mem := { z.mem with sram := [], poison := [], scrubAt := 0 } } else z)) ∧
      (∀ l, wakeLimit u.val = some l →
        let z := s.reach ((s.unit u.val).wakeT + l)
        exec (.wakeFail u) s = .next (z.setUnit u.val { z.unit u.val with wakeLate := true }))) ∧
    (∀ u : Fin 64, isUnit u.val = true → fixedUnit u.val = false → (s.unit u.val).skewed = false → s.dozeTick = false →
      s.tick.noWork = false → s.skewT u.val < s.tickEnd → (s.unit u.val).st = .running ∨ (s.unit u.val).st = .off →
      s.unitsWf = true → ∃ t : State, exec (.stateSkew u) s = .next t ∧ (t.unit u.val).skewed = true ∧
        (t.unit u.val).next = none ∧ t.isRunning u.val = false ∧ (∀ q ∈ t.tick.items, q.item.unit ≠ u.val) ∧
        t.now = s.skewT u.val) ∧
    (s.fuma.buf ≠ [] → exec .fumaLogTake s = .next (s.elapse 1)) ∧
    (∀ e rest, s.fuma.buf = e :: rest → ∃ t : State, exec .fumaLogTake s = .next t ∧
      t.fuma.buf = rest ∧ t.now = s.now + 1 ∧
      (s.fuma.log.length < 512 → t.fuma.log = s.fuma.log ++ [e]) ∧
      (s.fuma.log.length = 512 → t.fuma.log = s.fuma.log.drop 1 ++ [e]) ∧
      (s.regsWf = true → t.reg 0x0601 = s.reg 0x0601 + 1))

/-! ### The analog front -/

/-- The matrix takes its settings at cycle 132 (R386); cells power up and settle for the time of Table AFE-4, compare,
saturate within the stated ranges, hold and track again (R387 to R389, R392, R396, R397, R409, R410). -/
def Obligations.AnalogCellCommands : Prop :=
  ∀ s : State,
    (s.isActive 0x19 = true → s.closed ≠ s.closeSwitches.closed → s.cyc ≤ 132 → s.cyc ≤ s.now → ∃ t : State,
      exec .amtxSwitchClose s = .next t ∧ t.cyc = 132 ∧ t.closed = t.closeSwitches.closed) ∧
    (∀ c : Fin 16,
      let x := s.cell c.val
      (x.powering = true → let z := s.reach x.readyT
        exec (.cellPowerUp c) s = .next (z.setCell c.val { z.cell c.val with
          powering := false, readyT := z.now + z.settleCycles c.val })) ∧
      (x.powering = false → s.regBit 0x1809 c.val 0 = true →
        exec (.cellSettled c) s = .next ((s.reach x.readyT).setRegBit 0x1809 c.val 0 false)) ∧
      (s.cellOn c.val = true → s.reg 0x1800 c.val = 5 → ∀ p n : Int,
        let rising := s.cmpOutput c.val p n
        let z := s.setRegBit 0x1809 c.val 1 rising
        s.regBit 0x1809 c.val 1 ≠ rising →
        (s.cellQuiet c.val = true ∨ s.regBit 0x1806 c.val (if rising then 3 else 4) = false →
          exec (.comparatorEdge c ⟨p, n⟩) s = .next z) ∧
        (s.cellQuiet c.val = false → s.regBit 0x1806 c.val (if rising then 3 else 4) = true → z.isRunning 0x18 = true →
          exec (.comparatorEdge c ⟨p, n⟩) s = .next ((z.bump 0x180B c.val).slotTrigs [0x20 + c.val] fun _ => true))) ∧
      (∀ p n : Int, s.cellOn c.val = true → s.cellStated c.val p n = true →
        (s.regBit 0x1809 c.val 2 = true → s.cellSat c.val p n = some false →
          exec (.acellSat c ⟨p, n⟩) s = .next (s.setRegBit 0x1809 c.val 2 false)) ∧
        (s.regBit 0x1809 c.val 2 = false → s.cellSat c.val p n = some true → x.satTick ≠ some s.tick.count.toNat →
          exec (.acellSat c ⟨p, n⟩) s = .next ((((s.setRegBit 0x1809 c.val 2 true).setCell c.val { x with
            satTick := some s.tick.count.toNat }).setRegBit 0x1809 c.val 3 true).emit 0x18 evAcellSat c.val))) ∧
      (∀ src : Fin 25, s.holdOccurs src.val = true → s.cellOn c.val = true → s.reg 0x1800 c.val = 6 →
        s.regN 0x1807 c.val = src.val → x.holding = false → (s.dozeTick = true → src.val = 24) →
        exec (.shHold c src) s = .next (s.setCell c.val { x with
          holding := true, tracked := s.now + s.regN 0x1808 c.val })) ∧
      (x.holding = true → (s.dozeTick = true → 24 ≤ s.regN 0x1807 c.val) → let z := s.reach x.tracked
        exec (.shTrackReturn c) s = .next (z.setCell c.val { z.cell c.val with holding := false })) ∧
      (x.dozeOff = true → s.dozeTick = false → exec (.cellDozePowerUp c) s = .next (s.powerCell c.val)) ∧
      (x.dozeOff = true → s.dozeTick = true → s.wakeBoundary - s.dozeLead c.val < s.tickEnd →
        exec (.cellDozePowerUp c) s = .next ((s.reach (s.wakeBoundary - s.dozeLead c.val)).powerCell c.val)))

/-- DAC channels: compliance, a fabric write that is latched at once, held inside 400 cycles of the last latch, or
dropped where LATCH is not 2 or the unit is not RUNNING, the latch of a held write, and the output's return 400 cycles after
the commit (R338, R401 to R405, R645). The latch of a DAC channel: the code is the code in force, the instant is kept, and no
other register changes (R402). -/
def Obligations.DacCommands : Prop :=
  (∀ (s : State) (c : Fin 8),
     (s.dacOn c.val = true → s.reg 0x1A01 c.val ≠ 0 →
       (s.regBit 0x1A05 c.val 0 = true → exec (.dacCompliance c false) s = .next (s.setRegBit 0x1A05 c.val 0 false)) ∧
       (s.regBit 0x1A05 c.val 0 = false → exec (.dacCompliance c true) s = .next
         (((s.setRegBit 0x1A05 c.val 0 true).setRegBit 0x1A05 c.val 1 true).emit 0x1A evDacCompliance
           (c.val + (s.reg 0x1A01 c.val == 2).toNat * 8)))) ∧
     (∀ dt code r,
       let z := State.dueHeld (s.elapse dt).now (s.elapse dt) c.val
       z.portOwner c.val = some r →
       (z.isRunning 0x1A = false → exec (.dacPortWrite c dt code) s = .next (z.absentDrop (0x20 + r))) ∧
       (z.isRunning 0x1A = true → z.reg 0x1A02 c.val ≠ 2 →
         exec (.dacPortWrite c dt code) s = .next (z.absentDrop 0x1A)) ∧
       (z.isRunning 0x1A = true → z.reg 0x1A02 c.val = 2 →
         ((z.dac c.val).latchT.all fun t => decide (t + 400 ≤ z.now)) = true →
         exec (.dacPortWrite c dt code) s = .next (z.latchDac c.val (code.setWidth 32) z.now)) ∧
       (∀ t, z.isRunning 0x1A = true → z.reg 0x1A02 c.val = 2 → (z.dac c.val).latchT = some t → z.now < t + 400 →
         (z.dac c.val).held = none → exec (.dacPortWrite c dt code) s = .next
           ((z.setDac c.val { z.dac c.val with held := some (code.setWidth 32) }).withdrawStep c.val))) ∧
     (∀ w t, (s.dac c.val).held = some w → (s.dac c.val).latchT = some t → ∃ z : State,
       exec (.dacHeldLatch c) s = .next z ∧ z.now = max s.now (t + 400) ∧
       (s.regsWf = true → z.reg 0x1A03 c.val = w)) ∧
     (∀ t, (s.dac c.val).offT = some t → exec (.dacOutputResume c) s = .next
       ((s.reach t).setDac c.val { s.dac c.val with offT := none }))) ∧
  (∀ (s : State) (ch : Nat) (code : Word) (at_ : Nat), s.regsWf = true → ch < 8 →
     (s.latchDac ch code at_).reg 0x1A03 ch = code ∧
     (∀ id sub, id < 0x10000 → sub < 256 → ¬(id = 0x1A03 ∧ sub = ch) →
       (s.latchDac ch code at_).reg id sub = s.reg id sub) ∧
     (wfMap {} s.dacs = true → ((s.latchDac ch code at_).dac ch).latchT = some at_) ∧
     (s.latchDac ch code at_).mem = s.mem ∧ (s.latchDac ch code at_).now = s.now)

/-- Wire clamps: a flag isolates its pin, is recorded and, for a monitored pin, makes it SUS; the release leaves the
isolation until the switches return 400 cycles later (R420 to R425). -/
def Obligations.WireClampCommands : Prop :=
  ∀ (s : State) (p : Fin 24), s.regsWf = true →
    (∀ high, s.regBit 0x1B17 0 p.val = false → s.isActive 0x1B = true → ∃ t : State, exec (.wireClamp p high) s = .next t ∧
      t.wire.iso.bit p.val = true ∧ t.regBit 0x1B17 0 p.val = true ∧ t.wire.high.bit p.val = high ∧
      (s.alive = true → monitored (s.reg 0x1B00 p.val) = true → t.regBit 0x1B16 0 p.val = true)) ∧
    (s.regBit 0x1B17 0 p.val = true → ∃ t : State, exec (.clampRelease p) s = .next t ∧
      t.regBit 0x1B17 0 p.val = false ∧ t.wire.iso = s.wire.iso ∧ t.wire.relT = insert 0 s.wire.relT p.val s.now) ∧
    (s.regBit 0x1B17 0 p.val = false → s.wire.iso.bit p.val = true →
      let z := s.reach (lookup 0 s.wire.relT p.val + 400)
      exec (.clampSwitchReturn p) s = .next { z with wire := { z.wire with
        iso := z.wire.iso.setBit p.val false, relT := insert 0 z.wire.relT p.val 0 } })

/-- Cold calibration: a step measures the idle slice whose turn it is and is over after 7,040 cycles; the terms of a slice
that is off are stored, those of the spare wait until it takes its position at a sample instant; and 40 ms after the start of
the wake the calibration is out of time (R481, R482, R496, R888). -/
def Obligations.ColdCalibrationCommands : Prop :=
  ∀ (s : State) (c : Side),
    let n := sideN c
    (∀ q terms resid, (s.convOf n).cold = some q → s.convWorks n = true →
      let m := Terms.with terms resid
      let z := s.reach (q.start + 7040)
      let b := convUnit n * 256
      (z.active n).contains q.slice = false →
      (q.spare = true → exec (.coldStep c terms resid) s = .next (z.setConv n { z.convOf n with
        cold := none, waiting := some { slice := q.slice, m := m, cold := true, warn := q.warn } })) ∧
      (q.spare = false → let y := (z.countCold n q.slice m).setTerms n q.slice m
        exec (.coldStep c terms resid) s = .next
          ((if m.r ≤ q.warn then y.setRegBit (b + 9) 0 q.slice false else y).judgeCold n q.warn))) ∧
    (∀ w : Waiting, (s.convOf n).waiting = some w → w.cold = true → s.gridRuns n = true →
      (s.active n).contains w.slice = false →
      let p := s.regN (convUnit n * 256 + 10) % s.positions n
      exec (.coldSpareSwap c) s = .next
        ((((s.reach (s.posInstant n p s.now)).countCold n w.slice w.m).swapSpare n p w).judgeCold n w.warn)) ∧
    (s.regBit (convUnit n * 256 + 6) 0 1 = true → (s.convOf n).timedOut = false → ∃ t : State,
      exec (.convCalTimeout c) s = .next t ∧ t.now = max s.now ((s.convOf n).wakeT + 16000000) ∧
      (wfMap {} s.conv = true → (t.convOf n).timedOut = true ∧ (t.convOf n).latched = true))

/-! ### Triggers, runs and rings -/

/-- The next pulse of a timer in its tick, with those of the other timers in that cycle, triggers the slots of both sequencers
that select it, at that cycle (R513); an edge of a line that an active region owns triggers the slots that select the line and
the edge, and a line that no active region owns triggers none (R514, R629); a class A trigger starts a run at its ready
instant, is merged into the running one and counted, or is ignored (R515, R516, R520, R542). -/
def Obligations.TriggersStartRuns : Prop :=
  ∀ s : State,
    (∀ (k : Fin 8) (c : Nat),
      s.pulseFrom k.val (max s.cyc (lookup 0 (s.seqOf (k.val / 4)).pulsed k.val - s.tickStart)) = some c →
      s.timerOn k.val = true → s.tickStart + c < s.tickEnd → s.pulses k.val c = true ∧ s.cyc ≤ c ∧
      exec (.ttPulse k) s = .next
        ((s.reach (s.tickStart + c)).timerPulses (s.timersAt c) (s.tickStart + c))) ∧
    (∀ (n : Fin 16) (rising : Bool), s.dozeTick = false →
      (s.fevOwned n.val = true →
        let z := s.slotTrigs [0x10 + n.val] fun w => w.bit (if rising then 6 else 7)
        exec (.fevEdge n rising) s = .next (if rising then z.holdCells (8 + n.val) z.now else z)) ∧
      ((∀ r b, r < 8 → s.isActive (0x20 + r) = true → s.body r = some b → b.ownFev.testBit n.val = false) →
        exec (.fevEdge n rising) s = .next s)) ∧
    (∀ (c : Side) (t : Trig), (s.seqOf (sideN c)).trigs = [t] → s.pwr.stopped = false → t.item = none →
      let n := sideN c
      let z := (s.reach t.ready).setSeq n { s.seqOf n with trigs := [] }
      let t0 := z.gridFrom n (t.ready + 8)
      let x := (z.bump (seqUnit n * 256 + 7)).preempt n t.ready
        (((z.runTimes n [] 32 t.first t0).getLast?.map fun p => p.2).getD t0)
      (z.seqReady n = true → (z.seqOf n).a = none → exec (.triggerReady c) s = .next
        (x.setSeq n { x.seqOf n with
          a := some { first := t.first, next := t.first, t := t0, pre := false, prevT := none, brks := [],
                      item := none, tags := x.tagsNow n } })) ∧
      (z.seqReady n = true → (z.seqOf n).a ≠ none → exec (.triggerReady c) s = .next (z.bump 0x010B)) ∧
      (z.seqReady n = false → exec (.triggerReady c) s = .next (z.ignoreTrig n)))

/-- An entry of a run that names a ring leaves the sequencer, at most 48 cycles after its sampling instant, as a result word for
that ring: its entry number is the entry, its value the corrected code, OVR and PRE as R12 and R524 say (R526, R528, R529,
R469), its tags those with which the run was accepted (R346); no memory and no chain changes. -/
def Obligations.ResultWordsEnterRings : Prop :=
  ∀ (s : State) (c : Side) (dt : Nat) (smp : Sample) (r : Run),
    let n := sideN c
    let z := s.reach (max r.t (min (s.now + dt) (r.t + 48)))
    let e := z.entryAt n r.t r.next
    (s.seqOf n).bc = some r → r.next < 32 → 1 < entryClass e → e.bit 23 = false → e.bit 18 = true →
    (s.findJob fun j => match j with
      | .capture cc en .. => cc == c && en == r.next
      | _ => false) = none →
    ∃ (t : State) (nb sus cal last : Bool), exec (.resultWordDelivery c dt false smp) s = .next t ∧
      (let w := packResult ((z.correct n r.t nb smp).1 * 256) r.next
        (flagBits sus cal (z.correct n r.t nb smp).2 r.pre last)
       t.mem.rings = s.mem.rings ++
        [{ cls := entryClass e, prod := n, ring := e.bits 19 4, word := w, item := none, at_ := z.now
           tags := [(seqUnit n, r.tags.1), (convUnit n, r.tags.2)] }]) ∧
      (e.bit 27 = true → last = true) ∧ t.now = z.now ∧ (s.now ≤ r.t + 48 → t.now ≤ r.t + 48) ∧
      t.mem.sram = s.mem.sram ∧ t.mem.psram = s.mem.psram ∧ t.filt = s.filt ∧ t.units = s.units

/-- A word that meets a ring of SRAM with room is stored, little-endian, at RING_BASE plus four times RING_WR, which
advances by one modulo the ring's size; no other byte of any memory changes (R533, R546, R2). A word that meets a ring
that is not enabled writes nothing and counts in its producer (R538); one that carries a stale tag writes nothing and is
counted as discarded (R347, R350). -/
def Obligations.RingWritesStore : Prop :=
  ∀ (s : State) (r : RingReq), nextRing s.mem.rings = some r → s.sound = true →
    let cfg := s.reg (ringId r.ring 0x58)
    let a := s.regN (ringId r.ring 0x50) + 4 * s.regN (ringId r.ring 0x60)
    r.ring < 16 → r.prod < 10 →
    (s.staleTags r.tags = false → cfg.bit 11 = true → s.isRunning (ringUnit r.ring) = true → cfg.bit 5 = false →
      s.isRunning 0x3C = true → s.ringLevel r.ring + 1 < ringSize cfg →
      ∃ t : State, exec (.ringWrite false) s = .next t ∧
      t.sramWord a = r.word ∧ (∀ b, b < a ∨ a + 4 ≤ b → t.sramByte b = s.sramByte b) ∧
      (∀ b, t.psramByte b = s.psramByte b ∧ t.flashByte b = s.flashByte b) ∧
      t.reg (ringId r.ring 0x60) = (if s.regN (ringId r.ring 0x60) + 1 < ringSize cfg
        then Word.of (s.regN (ringId r.ring 0x60) + 1) else 0)) ∧
    (s.staleTags r.tags = false → cfg.bit 11 = false → ∃ t : State, exec (.ringWrite false) s = .next t ∧
      (∀ b, t.sramByte b = s.sramByte b ∧ t.psramByte b = s.psramByte b ∧ t.flashByte b = s.flashByte b) ∧
      t.reg (prodUnit r.prod * 256 + 0xF4) = satAdd (s.reg (prodUnit r.prod * 256 + 0xF4)) 1) ∧
    (s.staleTags r.tags = true → ∃ t : State, exec (.ringWrite false) s = .next t ∧
      (∀ b, t.sramByte b = s.sramByte b ∧ t.psramByte b = s.psramByte b ∧ t.flashByte b = s.flashByte b) ∧
      t.reg (ringUnit r.ring * 256 + 0xF3) = satAdd (s.reg (ringUnit r.ring * 256 + 0xF3)) 1)

/-- A chain's computed output: suppressed and counted while the chain is not primed, delivered to its port and ring
with DELIVER = 0 by the instant it is due, and held for FILT_EMIT otherwise (R575, R578, R579, R582); the words of an armed
snapshot are stored one after the other and the last one ends the job, which its timeout ends LATE (R306, R307). -/
def Obligations.OutputsAndSnapshots : Prop :=
  ∀ s : State,
    (∀ (f : Fin 8) o rest, (s.filtOf f.val).taken = none → (s.filtOf f.val).outs = o :: rest →
      let z := s.setFilt f.val { s.filtOf f.val with outs := rest }
      (o.primed = false → exec (.filtOutput f) s = .next (z.bump ((0x10 + f.val) * 256 + 0x1C))) ∧
      (o.primed = true → o.ovr = false → o.last = false → s.reg ((0x10 + f.val) * 256 + 0x0D) = 0 →
        exec (.filtOutput f) s = .next (z.deliverOut f.val o none (min s.now o.due))) ∧
      (o.primed = true → o.ovr = false → o.last = false → s.reg ((0x10 + f.val) * 256 + 0x0D) ≠ 0 →
        (s.filtOf f.val).held.length < 256 → exec (.filtOutput f) s = .next
          (z.setFilt f.val { z.filtOf f.val with held := (s.filtOf f.val).held ++ [o] }))) ∧
    (∀ (c : Side) j e a cnt stored dl, (s.findJob fun j => match j with
        | .capture cc .. => cc == c
        | _ => false) = some j → j.kind = .capture c e a cnt stored dl →
      (s.captureOver dl = false → ∀ p, s.mem.caps.find? (fun p => p.1 == j.num) = some p → s.isRunning 0x3C = true →
        let s1 : State := { s with mem := { s.mem with caps := s.mem.caps.erase p } }
        let z := (s1.grant (bankOf (a + 4 * stored)) 3 true).setSramWord (a + 4 * stored) p.2
        (stored + 1 = cnt → exec (.captureWord c) s = .next
          ((({ z with mem := { z.mem with caps := z.mem.caps.filter fun p => p.1 != j.num } } : State)).endJob j.num
            stDone [Word.of cnt])) ∧
        (stored + 1 ≠ cnt → exec (.captureWord c) s = .next
          (z.setJob j.num (.capture c e a cnt (stored + 1) dl)))) ∧
      (s.captureOver dl = true → exec (.captureTimeout c) s = .next
        (({ s with mem := { s.mem with caps := s.mem.caps.filter fun p => p.1 != j.num } } : State).endJob j.num stLate
          [Word.of stored])))

/-! ### The fabric and its ports -/

/-- The scrubber's correction outside a freeze is counted and logged; a multi-bit upset forces a RUNNING region into
FAULT, and marks an OFF one's configuration (R626, R648); a pin-sourced line without an edge is lost (R618). The oldest word on
its way to an input port arrives after the cycles that the command gives: it is held for the region that samples the port, is
dropped and counted while the one before waits, meets an absent sink where the region is not RUNNING, and is discarded where its
tag is stale (R338, R347, R350, R628). -/
def Obligations.FabricEventsAct : Prop :=
  ∀ (s : State) (r : Fin 8) (k : Fin 128),
    let u := 0x20 + r.val
    ((s.unit u).st ≠ .reloading →
      exec (.fabScrubFix r k) s = .next ((s.bump (u * 256 + 10)).emit u evFabScrubFix k.val)) ∧
    ((s.unit u).st = .running → (s.unit u).skewed = false →
      exec (.fabConfigUpset r k) s = .next ((s.emit u evFabConfigUpset k.val).forceFault u)) ∧
    ((s.unit u).st = .off → exec (.fabConfigUpset r k) s = .next
      ((s.emit u evFabConfigUpset k.val).setRegion r.val { s.regionOf r.val with invalid := true })) ∧
    (∀ l : Fin 6, s.isActive 0x28 = true → s.regBit 0x2810 0 l.val = true → s.reg (0x2808 + l.val) ≠ 0 →
      exec (.fabExtClockLost l) s = .next ((s.setRegBit 0x2812 0 l.val true).emit 0x28 evFabExtClockLost l.val)) ∧
    (∀ (kind : StreamPort) (n : Fin 8) (dt : Nat) x, let y := s.elapse dt
      y.nextWord r.val kind n.val = some x →
      let g := y.regionOf r.val
      let z := y.setRegion r.val { g with inbox := g.inbox.erase x }
      (y.isRunning u = false → exec (.fabPortInputWord r kind n dt) s = .next (z.absentDrop x.prod)) ∧
      (y.isRunning u = true → y.staleTags x.tags = true →
        exec (.fabPortInputWord r kind n dt) s = .next (z.discard u)) ∧
      (y.isRunning u = true → y.staleTags x.tags = false → lookup none g.held x.port = none →
        exec (.fabPortInputWord r kind n dt) s = .next (z.setRegion r.val { z.regionOf r.val with
          held := insert none g.held x.port (some x.word) })) ∧
      (y.isRunning u = true → y.staleTags x.tags = false → lookup none g.held x.port ≠ none → g.dropTick = true →
        exec (.fabPortInputWord r kind n dt) s = .next (z.bump (u * 256 + 11))))

/-- A fabric SRAM request inside the region's window is made when its bank grants it, after the ring writes that go before it
(R731): a write stores its 64-bit word, little-endian, at the word address, and no other byte changes; a read replies the word,
with ERR where it is poisoned; a request outside the window replies ERR and writes nothing (R630, R735, R736). A reply arrives
`lat` cycles later with the tags of the region and of SRAM (R346). -/
def Obligations.FabricSramRequestsAct : Prop :=
  ∀ (s : State) (p : Fin 8) (addr : Word) (r : Nat) (b : RegionBody) (lat : Nat),
    let a := addr.toNat % 0x800000 / 8 * 8
    let cls := s.sramClass r p.val
    let reply := fun (z : State) err data => z.launchReply
      { port := p.val, region := r, due := z.now + lat, tags := [z.tagNow (0x20 + r), z.tagNow 0x3C], err := err, data := data }
    s.portOwner (16 + p.val) = some r → s.isRunning 0x3C = true → s.body r = some b →
    (∀ base size, (p.val, base, size) ∈ b.windows → base ≤ a → a + 8 ≤ base + size →
      let z := (State.ringsBefore (bankOf a) cls s.mem.rings.length s).grant (bankOf a) cls false
      (∀ (d : BitVec 64) ecc, z.memoryWf = true → ∃ t : State, exec (.fabricSramRequest p addr (some d) ⟨ecc, lat⟩) s = .next t ∧
        t.sramWord a = d.setWidth 32 ∧ t.sramWord (a + 4) = (d >>> 32).setWidth 32 ∧
        (∀ x, x < a ∨ a + 8 ≤ x → t.sramByte x = z.sramByte x) ∧ t.mem.psram = z.mem.psram ∧ t.img = z.img ∧
        t.regs = z.regs) ∧
      (let y := z.landReplies (z.now + 1)
       let e := lookup false y.mem.poison (a / 8)
       exec (.fabricSramRequest p addr none ⟨.clean, lat⟩) s = .next
        (reply (if e then y.eccUncorr (a / 8) else y) e
          ((y.sramWord (a + 4)).setWidth 64 <<< 32 ||| (y.sramWord a).setWidth 64)))) ∧
    ((∀ base size, (p.val, base, size) ∈ b.windows → a < base ∨ base + size < a + 8) → ∀ wr ecc,
      let z := s.landReplies (s.now + 1)
      exec (.fabricSramRequest p addr wr ⟨ecc, lat⟩) s = .next (reply z true (lookup (false, 0) z.mem.replies p.val).2))

/-- A word of a stream port is written at once or waits in the input buffer while the lane or the port is busy, and is
dropped and counted when that is full (R762); a fabric write enters a transmit queue with room, or is dropped and counted, and
meets an absent sink where the channel is not RUNNING; a receive queue hands its oldest entry to the fabric no sooner than 64
cycles after the one before (R338, R646, R793). -/
def Obligations.FabricPortsMoveWords : Prop :=
  ∀ s : State,
    (∀ (ch : Fin 4) (w : Word) r, s.portOwner (12 + ch.val) = some r →
      let x := s.dmaOf ch.val
      (s.isRunning 0x38 = false ∨ (s.dmaCfg ch.val).bit 0 = false ∨ (s.dmaCfg ch.val).bit 4 = false → ∀ busy,
        exec (.dmaStreamWord ch w busy) s = .next (s.absentDrop (0x20 + r))) ∧
      (s.isRunning 0x38 = true → (s.dmaCfg ch.val).bit 0 = true → (s.dmaCfg ch.val).bit 4 = true →
        s.isRunning (if (s.dmaCfg ch.val).bit 15 then 0x3B else 0x3C) = true →
        (x.stream.length < 64 → s.streamWaits ch.val = false → exec (.dmaStreamWord ch w false) s = .next
          ((s.setDma ch.val { x with stream := [] }).putStream ch.val (x.stream ++ [w]))) ∧
        (x.stream.length < 64 → ∀ busy, busy = true ∨ s.streamWaits ch.val = true →
          exec (.dmaStreamWord ch w busy) s = .next (s.setDma ch.val { x with stream := x.stream ++ [w] })) ∧
        (64 ≤ x.stream.length → ∀ busy, busy = true ∨ s.streamWaits ch.val = true →
          exec (.dmaStreamWord ch w busy) s = .next (s.bump 0x38E1)))) ∧
    (∀ (u : Fin 4) (b : Byte) r, s.portOwner (8 + u.val) = some r →
      (s.isRunning (0x30 + u.val) = false → exec (.uartFabricWrite u b) s = .next (s.absentDrop (0x20 + r))) ∧
      (s.isRunning (0x30 + u.val) = true → s.isTransport u.val = false → s.reg (uartId u.val 5) ≠ 0 →
        ((s.uartOf u.val).txq.length < (s.depths u.val).2 → exec (.uartFabricWrite u b) s = .next
          (s.setUart u.val { s.uartOf u.val with txq := (s.uartOf u.val).txq ++ [b] })) ∧
        ((s.depths u.val).2 ≤ (s.uartOf u.val).txq.length →
          exec (.uartFabricWrite u b) s = .next (s.bump (uartId u.val 0x1C))))) ∧
    (∀ (u : Fin 4) dt, let z := s.elapse dt
      z.isActive (0x30 + u.val) = true → z.isTransport u.val = false → z.reg (uartId u.val 5) ≠ 0 →
      ∀ e rest, (z.uartOf u.val).rxq = e :: rest →
      let give := fun (y : State) => ((y.setUart u.val { y.uartOf u.val with handT := some y.now }).popRx u.val).feedPort
        (10 + u.val) (0x30 + u.val) (e.setWidth 32) [y.tagNow (0x30 + u.val)]
      ((z.uartOf u.val).handT = none → exec (.uartFabricHandoff u dt) s = .next (give z)) ∧
      (∀ t, (z.uartOf u.val).handT = some t → exec (.uartFabricHandoff u dt) s = .next (give (z.reach (t + 64)))))

/-! ### The serial ports -/

/-- The receiver: a level that samples as a start bit takes the settings of the character and clears RX_IDLE and BREAK; one that
bit 0 decides high is counted as a glitch (R780, R785, R786, R795, R814). At sample 16n + 8 of its first stop bit a character is
decided; a flow-control code sets or clears the pause and is not stored, any other is delivered with its tags (R781, R784, R790,
R796). One character time of high line sets RX_IDLE (R795). An armed measurement that succeeds sets the divisor, one that fails
is counted (R799 to R802). -/
def Obligations.ReceiverCommands : Prop :=
  ∀ (s : State) (u : Fin 4),
    let x := s.uartOf u.val
    let id := uartId u.val
    (∀ edges, s.isRunning (0x30 + u.val) = true → s.pwr.stopped = false → x.inChar = false → x.waits = false →
      s.regBit (id 8) 0 0 = false →
      let w := x.see s.now edges
      (w.startSample = none → exec (.uartStartBit u edges) s = .next (s.setUart u.val w)) ∧
      (∀ j, w.startSample = some j →
        let z := (((s.reach (w.sampleAt j)).setRegBit (id 0x0D) 0 3 false).setRegBit (id 0x0D) 0 4 false).gapCheck u.val
        let f := z.format u.val
        let y := { (w.huntFrom j true).afterHigh with divLive := z.rxDiv u.val w.afterHigh.lin }
        (y.bitOf f 0 = false → exec (.uartStartBit u edges) s = .next (z.setUart u.val { y with
          inChar := true, fmtLive := f, fcLive := z.reg (id 6), chLive := z.reg (id 7) })) ∧
        (y.bitOf f 0 = true → let k := if f.bit 4 then 9 else 10
          exec (.uartStartBit u edges) s = .next (((z.reach (y.sampleAt (k - 1))).setUart u.val
            (y.huntFrom k (y.sample (k - 1)))).bump (id 0x17))))) ∧
    (∀ edges, s.isActive (0x30 + u.val) = true → x.inChar = true →
      let w := x.see (x.sampleAt 0) edges
      let n := stopBit w.fmtLive
      let c := w.decide
      let t := charTags w.fmtLive c
      let z := (s.reach (w.sampleAt (16 * n + 8))).setUart u.val
        { w.huntFrom (16 * n + if c.stop then 10 else 9) c.stop with
          highT := w.sampleAt (16 * n + 8), linT := w.sampleAt (16 * (n + 1)) }
      z.linMode u.val = false → t.2.2.2.2 = false →
      (w.fcLive.bit 0 = false → exec (.uartCharComplete u edges) s = .next
        (z.deliverEntry u.val (rxEntry t.1 t.2.1 t.2.2.1 t.2.2.2.1 false))) ∧
      (w.fcLive.bit 0 = true → t.2.1 = false → t.2.2.1 = false → t.1 = w.chLive.setWidth 8 →
        exec (.uartCharComplete u edges) s = .next ((z.setRegBit (id 0x0D) 0 1 true).bump (id 0x1B)))) ∧
    (s.isActive (0x30 + u.val) = true → x.inChar = false → s.pwr.stopped = false → x.waits = false → x.endsHigh = true →
      s.regBit (id 0x0D) 0 3 = false →
      let z := ((s.reach (x.highSince x.highT + s.charCycles u.val 1)).setUart u.val x.afterHigh).setRegBit (id 0x0D) 0 4 false
      exec (.uartRxIdle u) s = .next (z.turnIdle u.val) ∧
      (s.regsWf = true → (z.turnIdle u.val).regBit (id 0x0D) 0 3 = true)) ∧
    (∀ stamps stop, s.isRunning (0x30 + u.val) = true → s.linMode u.val = false → s.regBit (id 8) 0 0 = true →
      (measureDiv (s.regN (id 9)) (if s.regBit (id 2) 0 0 then 7 else 8) stamps stop = none →
        exec (.uartAutobaud u stamps stop) s = .next (s.bump (id 0x18))) ∧
      (∀ d, measureDiv (s.regN (id 9)) (if s.regBit (id 2) 0 0 then 7 else 8) stamps stop = some d →
        let y := ((s.setReg (id 1) 0 (Word.of d)).setRegBit (id 8) 0 0 false).setRegBit (id 0x0D) 0 5 false
        let z := (y.setUart u.val { (y.uartOf u.val).freshHunt y.now with divLive := Word.of d }).emit
          (0x30 + u.val) evUartAutobaud d
        z.regBit (id 8) 0 1 = false → exec (.uartAutobaud u stamps stop) s = .next z)) ∧
    (s.isRunning (0x30 + u.val) = true → s.regBit (id 8) 0 0 = true →
      exec (.autobaudAbandon u false) s = .next (s.bump (id 0x18)))

/-- The transmitter: an owed stop character goes first and sets XOFF_SENT (R797, R798); then a byte of a reply or,
unless the partner has paused it, of the queue (R797); each is counted as its last stop bit ends (R788). Contention releases the
ball, is counted and logged, and drops the byte that was being sent (R804, R823). Each needs a transmitter that is free, and a
character that would end behind a tick without plan work is not started (R816). -/
def Obligations.TransmitterCommands : Prop :=
  ∀ (s : State) (u : Fin 4), s.txFree u.val = true →
    let x := s.uartOf u.val
    let t := s.trOf (u.val + 1)
    let id := uartId u.val
    let bits := charBits (s.reg (id 2))
    (s.txHeld (s.txEnd u.val bits) = false →
      (∀ c, x.owed = some c → s.regBit (id 6) 0 1 = true → s.regBit (id 0x0D) 0 2 = false →
        (s.reg (id 6)).bits 16 8 < x.rxq.length → exec (.xoffSend u) s = .next
          (((s.setUart u.val { x with owed := none }).setRegBit (id 0x0D) 0 2 true).sent u.val bits)) ∧
      (x.owed = none → s.linMode u.val = false →
        (∀ b rest, t.out = b :: rest →
          exec (.uartTxChar u) s = .next ((s.setTr (u.val + 1) { t with out := rest }).sent u.val bits)) ∧
        (∀ b rest, t.out = [] → x.txq = b :: rest → s.regBit (id 0x0D) 0 1 = false →
          exec (.uartTxChar u) s = .next (((s.setUart u.val { x with txq := rest }).txLevelled u.val
            (rest.length + 1)).sent u.val bits)))) ∧
    (s.linMode u.val = false → s.tapOverrides = false → t.out = [] → ∀ b rest, x.txq = b :: rest →
      s.regBit (id 0x0D) 0 1 = false → exec (.uartTxContend u) s = .next ((((s.setRegBit (id 0x0D) 0 0 true).bump
        (id 0x19)).emit (0x30 + u.val) evUartTxContend 1).popTx u.val))

/-- Frame mode: a break starts a frame, a subscribed response that does not reach its checksum in time ends 4 without
a byte and 5 with some, a published response of which every byte reads back ends OK, and a header that does not read
back ends 6 (R806, R808 to R812). -/
def Obligations.FrameCommands : Prop :=
  ∀ (s : State) (u : Fin 4),
    let x := s.uartOf u.val
    let id := uartId u.val
    (s.isRunning (0x30 + u.val) = true → s.linMode u.val = true → s.pwr.stopped = false → x.lin = .hunt →
      (x.inChar = true → let z := s.reach (x.sampleAt (16 * 11))
        exec (.linBreak u) s = .next ((z.setUart u.val { x.freshHunt z.now with
          high := false, seen := false, lin := .delim, linGot := [] }).setRegBit (id 0x0D) 0 4 true)) ∧
      (x.inChar = false → s.regBit (id 0x0D) 0 4 = false → exec (.linBreak u) s = .next
        ((s.setUart u.val { x with lin := .delim, linGot := [] }).setRegBit (id 0x0D) 0 4 true))) ∧
    (x.lin = .subscribe → s.isActive (0x30 + u.val) = true →
      let z := s.reach (x.linT + 14 * (s.linLen u.val x.linId + 1) * s.linBit u.val / 16 + 1)
      (x.linGot = [] → exec (.linResponseTimeout u) s = .next (z.linEnd u.val 4)) ∧
      (x.linGot ≠ [] → exec (.linResponseTimeout u) s = .next (z.linEnd u.val 5))) ∧
    (x.lin = .publish → s.linMode u.val = true → s.txFree u.val = true →
      let len := s.linLen u.val x.linId
      let all := x.txq.take len ++ [s.linSum u.val x.linId x.pid (x.txq.take len)]
      let y := (s.setUart u.val { x with txq := x.txq.drop len }).txLevelled u.val x.txq.length
      let z := y.reach (x.linT + ((s.reg (id 0x20)).bits 3 3 + 10 * all.length) * s.linBit u.val / 16)
      exec (.linPublishResponse u all) s = .next
        (((z.setUart u.val { z.uartOf u.val with txT := z.now }).bumpBy (id 0x11) 0 all.length).linEnd u.val 0)) ∧
    (∀ b rest, x.txq = b :: rest → s.linMode u.val = true → s.regBit (id 0x20) 0 1 = true → x.lin = .hunt →
      s.txFree u.val = true → s.regBit (id 0x0D) 0 1 = false →
      let z := s.popTx u.val
      let cfg := s.reg (id 0x20)
      let y := z.reach (z.txEnd u.val (cfg.bits 6 5 + cfg.bits 11 2 + 1 + 20))
      let w := (y.setUart u.val { y.uartOf u.val with txT := y.now, linT := y.now }).bumpBy (id 0x11) 0 2
      exec (.linHeader u false) s = .next ((z.setReg (id 0x22) 0 ((z.reg (id 0x22)).setBits 0 6 (b.toNat % 64))).linEnd
        u.val 6) ∧
      (w.regBit (id 0x20) 0 2 = false → exec (.linHeader u true) s = .next
        (w.linStart u.val (linPid (b.toNat % 64)) false)))

/-- The protected identifier carries its two parity bits, and the checksum of a frame is the inverted sum with each
carry added back (R807): over the data bytes, or over the PID and the data bytes. -/
def Obligations.IdentifierAndChecksum : Prop :=
  (∀ id < 64, ((linPid id).setWidth 6).toNat = id ∧
    (linPid id).getLsbD 6 = (id.testBit 0 ^^ id.testBit 1 ^^ id.testBit 2 ^^ id.testBit 4) ∧
    (linPid id).getLsbD 7 = !(id.testBit 1 ^^ id.testBit 3 ^^ id.testBit 4 ^^ id.testBit 5)) ∧
  (∀ (s : State) (u id : Nat) (pid : Byte) (data : List Byte),
    s.linSum u id pid data = ~~~(BitVec.ofNat 8 (carrySum (if s.linEnhanced u id then pid :: data else data)))) ∧
  (∀ bs : List Byte, carrySum bs < 256 ∧ carrySum bs % 255 = (bs.map BitVec.toNat).sum % 255 ∧
    (carrySum bs = 0 ↔ ∀ b ∈ bs, b = 0))

/-! ### Random numbers -/

/-- The source: a taken word leaves the buffer and is counted (R670); a series of samples of a source that fails a test flushes
the output, zeroizes the generator, is recorded and starts the first retest (R667, R671, R672); a retest of 1,024 samples of each
source that passes is followed by seed collection, the third that fails stops the sources (R672, R674); two conditioned blocks
instantiate the generator from zeros and end the retest (R668, R669); after 4,096 calls it reseeds (R669), and a generate call
adds 64 bytes where there is room (R670). -/
def Obligations.RandomSourceCommands : Prop :=
  ∀ s : State,
    (s.isRunning 0x05 = true → 4 ≤ s.rng.buf.length → exec .rngTake s = .next
      (({ s with rng := { s.rng with buf := s.rng.buf.drop 4 } } : State).countRandom 4).refreshRng) ∧
    (∀ (before window : List (List Bool)) (src : Nat) (prop : Bool),
      continuousFail before window = some (src, prop) →
      s.isActive 0x05 = true → s.rng.stopped = false → s.rng.live = true →
      ∃ t : State, exec (.rngHealthFail before window) s = .next t ∧ t.rng.buf = [] ∧ t.rng.live = false ∧ t.rng.key = 0 ∧
        t.rng.v = 0 ∧ t.rng.retest = 1 ∧ t.now = s.now ∧ t.mem = s.mem ∧
        (s.regsWf = true → t.reg 0x0503 = Word.of (src + prop.toNat * 4))) ∧
    (∀ sources, s.rng.stopped = false → s.rng.seeding = false → 0 < s.rng.retest →
      (startFail sources = none → sources.length = 4 → (∀ l ∈ sources, l.length = 1024) →
        let z := s.reach (s.rng.since + 81920)
        exec (.rngRetestEnd sources) s = .next
          ((({ z with rng := { s.rng with seeding := true, since := z.now } } : State).setReg 0x0502 0 0).refreshRng)) ∧
      (∀ k src prop, startFail sources = some (k, src, prop) → ∃ t : State, exec (.rngRetestEnd sources) s = .next t ∧
        t.now = max s.now (s.rng.since + 80 * k) ∧ t.rng.stopped = (s.rng.retest == 3) ∧
        t.rng.retest = (if s.rng.retest = 3 then 0 else s.rng.retest + 1) ∧ t.rng.live = s.rng.live ∧ t.mem = s.mem)) ∧
    (∀ a b, s.rng.seeding = true → s.rng.stopped = false → ∃ t : State, exec (.rngRecovered ⟨a, b⟩) s = .next t ∧
      t.now = max s.now (s.rng.since + 81920) ∧ t.rng.live = true ∧ t.rng.retest = 0 ∧ t.rng.seeding = false ∧
      t.rng.calls = 0 ∧ (t.rng.key, t.rng.v) = ctrUpdate (seedOf a b) 0 0 ∧ t.rng.buf = s.rng.buf) ∧
    (∀ a b, s.rng.live = true → 4096 ≤ s.rng.calls → s.isRunning 0x05 = true → s.dozeTick = false →
      exec (.drbgReseed ⟨a, b⟩) s = .next (s.seedDrbg (seedOf a b)).refreshRng) ∧
    (∀ a b, s.rng.calls < 4096 → exec (.drbgReseed ⟨a, b⟩) s = .next s) ∧
    (s.isActive 0x05 = true → s.rng.live = true → s.dozeTick = false → s.rng.calls < 4096 →
      s.rng.buf.length + 64 ≤ 256 → (s.findJob fun k => match k with
        | .random .. => true
        | _ => false) = none →
      (∀ n r, n < 5 → (s.trOf n).exec = some r → r.op ≠ 0x48 ∨ r.status ≠ stQueued) → ∃ t : State,
      exec .drbgGenerate s = .next t ∧
      t.rng.buf = s.rng.buf ++ (ctrGenerate s.rng.key s.rng.v).1 ∧ t.rng.calls = s.rng.calls + 1 ∧
      t.rng.key = (ctrGenerate s.rng.key s.rng.v).2.1 ∧ t.rng.v = (ctrGenerate s.rng.key s.rng.v).2.2)

/-! ### Memory in the background, and the test access port -/

/-- The scrubber's step, in a C slot, goes to the next word and counts a pass at the end; a poisoned word reads as uncorrectable
(R731, R736, R737). An uncorrectable read is counted with its address and logged (R735); a queue whose level has reached
DRAIN_MIN starts a burst (R744), a class C AUTO channel its next descriptor, or ends a faulty one with its STATUS (R759, R764),
and the pattern check counts what fails (R751). -/
def Obligations.MemoryBackgroundSteps : Prop :=
  ∀ s : State,
    (s.scrubs = true →
      let z := s.reach s.scrubSlot
      let y := if lookup false s.mem.poison s.scrubWord then z.eccUncorr s.scrubWord else z
      (s.mem.scrubAt + 1 < 1048576 → exec (.sramScrubStep false) s = .next
        { y with mem := { y.mem with scrubAt := s.mem.scrubAt + 1, scrubT := s.scrubSlot + 1 } }) ∧
      (s.mem.scrubAt + 1 = 1048576 → exec (.sramScrubStep false) s = .next
        (({ y with mem := { y.mem with scrubAt := 0, scrubT := s.scrubSlot + 1 } } : State).bump 0x3C05))) ∧
    (∀ addr : Word, s.isRunning 0x3C = true → addr.toNat < 0x800000 → addr.toNat % 8 = 0 → exec (.sramEccUncorr addr) s =
      .next (((s.bump 0x3C02).setReg 0x3C03 0 addr).emit 0x3C evSramEccUncorr
        (addr.toNat + (lookup false s.mem.poison (addr.toNat / 8)).toNat * 2 ^ 23))) ∧
    (∀ q : Fin 16, s.isRunning 0x39 = true → s.isRunning 0x3B = true → s.dozeTick = false → s.regBit 0x3982 0 0 = true →
      s.regN 0x3981 ≤ 4 * (s.queue q.val).words.length → (s.queue q.val).burst = none →
      exec (.geyserBackgroundDrain q) s = .next
        (s.moveDrain q.val 3 (min (s.queue q.val).words.length (s.regN 0x3980 / 4)) none)) ∧
    (∀ ch : Fin 24, s.isRunning 0x38 = true → s.dozeTick = false → (s.dmaCfg ch.val).bit 0 = true →
      (s.dmaCfg ch.val).bit 3 = true → (s.dmaCfg ch.val).bits 1 2 = 3 →
      s.dmaPending (fun a b => s.reg a b) ch.val ≠ 0 → (s.dmaOf ch.val).burst = none → s.isRunning 0x3C = true →
      let st := s.descStatus ch.val
      (st = 0 → exec (.dmaAutoBurst ch) s = .next (s.moveBurst ch.val none)) ∧
      (st ≠ 0 → exec (.dmaAutoBurst ch) s = .next
        ((if st = 4 then s.dmaAbsent ch.val else s).endDesc ch.val st))) ∧
    (let m := s.addMover { who := 40, cls := 3, lane := false
                           legs := [{ port := 1, addr := s.psramBytes, rem := 128, unit := 64 }] }
     let z := m.endMover 40
     let y := ({ z with mem := { z.mem with checked := some z.tick.count } } : State).countBytes true 128
     s.isRunning 0x3B = true → s.reg 0x3B07 ≠ 0 → s.dozeTick = false → s.patternDue = true →
      (m.moverEnd 40).1 ≤ m.tickEnd →
      exec (.xspiPattern true) s = .next y ∧
      exec (.xspiPattern false) s = .next ((y.bump 0x3B09).emit 0x3B evXspiPattern 0))

/-- The test access port: a reset selects IDCODE; while it is not held each instruction loads its code and its data
register; nothing but the port changes (R863 to R869, Table PKG-4). A private instruction acts as BYPASS while debug
access is closed; while it is open the spec gives no effect, and the model stops (R660, R864). -/
def Obligations.TapCommands : Prop :=
  (∀ s : State,
     (∀ trst, exec (.tapReset trst) s = .next { s with tap := { s.tap with ir := 0x01, captured := 0x3048096B } }) ∧
     (s.tapHeld = false →
       exec .extest s = .next { s with tap := { s.tap with ir := 0x00, captured := s.tap.boundary } } ∧
       exec .idcode s = .next { s with tap := { s.tap with ir := 0x01, captured := 0x3048096B } } ∧
       (∀ a b, exec (.samplePreload a b) s = .next { s with tap := { ir := 0x02, captured := a, boundary := b } }) ∧
       exec .clamp s = .next { s with tap := { s.tap with ir := 0x04, captured := 0 } } ∧
       exec .highz s = .next { s with tap := { s.tap with ir := 0x05, captured := 0 } } ∧
       exec .bypass s = .next { s with tap := { s.tap with ir := 0xFF, captured := 0 } }) ∧
     (s.tapHeld = true → exec .extest s = .next s ∧ exec .idcode s = .next s ∧ exec .clamp s = .next s ∧
       exec .highz s = .next s ∧ exec .bypass s = .next s ∧ ∀ a b, exec (.samplePreload a b) s = .next s)) ∧
  (∀ (s : State) (code : BitVec 8), s.tapHeld = false → 0x80 ≤ code.toNat → code.toNat ≤ 0xFE →
     (s.debugOpen = false →
       exec (.privateDebug code) s = .next { s with tap := { s.tap with ir := code, captured := 0 } }) ∧
     (s.debugOpen = true → exec (.privateDebug code) s = .refused .privateDebugEffectNotGiven))

/-! ### Rules of single functions -/

/-- A thermometer counter's value is one more than its highest set position, or 0 where none is set, and its headroom,
as the counter's register and COUNTER_READ show it, is the number of steps less the value (R187). -/
def Obligations.CounterValueIsHighestPosition : Prop :=
  ∀ (s : State) (c : Nat),
    ((∀ p < (counterShape c).2, s.counterBit c p = false) → s.counterValue c = 0) ∧
    (∀ p < (counterShape c).2, s.counterBit c p = true → (∀ q < (counterShape c).2, p < q → s.counterBit c q = false) →
      s.counterValue c = p + 1) ∧
    (c < 4 → (s.counterWord c).bits 0 8 = s.counterValue c ∧
      (s.counterWord c).bits 8 8 = (counterShape c).2 - s.counterValue c ∧ s.counterValue c ≤ (counterShape c).2)

/-- A clock edge of a MAC slice with CE high (R607 to R609, R647): in ACC mode the product of the inputs registered at
the edge before is added to P, exactly where the sum fits 48 bits; one that does not wraps, or saturates where the
image selects it, and sets OVF, which stays until a LOAD; a LOAD leaves OVF low; with CE low nothing changes. -/
def Obligations.MacSliceAccumulates : Prop :=
  ∀ (c : MacCfg) (x : MacSt) (casc : BitVec 48) (a b : BitVec 18) (load : Bool),
    let y := macEdge c x casc a b true load
    let sum := x.p.toInt + x.a.toInt * x.b.toInt
    macEdge c x casc a b false load = x ∧ y.a = a ∧ y.b = b ∧ y.load = load ∧
    (c.mode = 1 → x.load = false →
      (-2 ^ 47 ≤ sum → sum < 2 ^ 47 → y.p.toInt = sum ∧ y.ovf = x.ovf) ∧
      (sum < -2 ^ 47 ∨ 2 ^ 47 ≤ sum → y.ovf = true ∧
        (c.sat = false → y.p = BitVec.ofInt 48 sum) ∧
        (c.sat = true → y.p.toInt = if 0 ≤ sum then 2 ^ 47 - 1 else -2 ^ 47))) ∧
    (x.load = true → y.ovf = false ∧ (c.mode < 3 → y.p.toInt = x.a.toInt * x.b.toInt)) ∧
    (x.ovf = true → x.load = false → y.ovf = true)

/-! ### Whole-machine rules -/

/-- Every command of Cecor's read-only opcodes leaves all but Cecor's own state, the log, and the registers of HOST
and FUMA as the time that passed left them: a frame for IDENT, STATUS, POLL, ECHO, NOP, UNIT_STATE, FUSE_READ,
COUNTER_READ, IMAGE_INFO and LOG_READ, whatever they answer. -/
def Obligations.ReadRequestsFrame : Prop :=
  ∀ (s t : State) (h : Hdr) (ws : List Word) (i : Instr),
    i = .ident h ws ∨ i = .status h ws ∨ i = .poll h ws ∨ i = .echo h ws ∨ i = .nop h ws ∨ i = .unitState h ws ∨
      i = .fuseRead h ws ∨ i = .counterRead h ws ∨ i = .imageInfo h ws ∨ i = .logRead h ws →
    exec i s = .next t →
    t.units = s.units ∧ t.sets = s.sets ∧ t.tick = s.tick ∧ t.mem = s.mem ∧ t.img = s.img ∧ t.sint = s.sint ∧
    t.jobs.running = s.jobs.running ∧ t.jobs.ended = s.jobs.ended ∧ t.sec = s.sec ∧ t.rng = s.rng ∧ t.dacs = s.dacs ∧ t.cells = s.cells ∧ t.wire = s.wire ∧
    t.conv = s.conv ∧ t.seq = s.seq ∧ t.filt = s.filt ∧ t.uart = s.uart ∧ t.tap = s.tap ∧ t.boot = s.boot ∧
    t.pending = s.pending ∧ t.now = s.now + s.commitDelay (trNum h.tr) h.dt ∧
    (s.regsWf = true → ∀ id sub, id / 256 ≠ 0x3D → id / 256 ≠ 0x06 → sub < 256 →
      t.reg id sub = (s.toCommit (trNum h.tr) h.dt).reg id sub)

/-- A step takes exactly the front command from the queue: no command adds to it, drops from it or reorders it. -/
def Obligations.QueueLosesItsFront : Prop :=
  ∀ (s t : State) (c : Instr) (rest : List Instr), s.pending = c :: rest → step s = .next t → t.pending = rest

/-- Whatever command a step runs, the log holds at most 512 entries and its buffer at most 32 (R356, R360, R362), and at
most 8 jobs run and 16 outcomes are kept (R278, R279). -/
def Obligations.StepKeepsBounds : Prop :=
  ∀ s t : State, step s = .next t → (s.logOk = true → t.logOk = true) ∧ (s.jobsOk = true → t.jobsOk = true)

/-- Whatever command a step runs, the register file, the units, the transports, the converters, the regions and the three
memories stay in their canonical form, which other statements take as a premise. -/
def Obligations.StepKeepsCanonicalForms : Prop :=
  ∀ s t : State, s.formsWf = true → step s = .next t → t.formsWf = true

/-- Whatever command a step runs, a programmed fuse stays programmed: no bit of either copy of a row ever returns to 0
(R157, R193; a restart and RST_N keep the fuses). -/
def Obligations.FusesOnlyBurn : Prop :=
  ∀ s t : State, s.fusesWf = true → step s = .next t → t.fusesWf = true ∧
    ∀ (copy : Bool) (r b : Nat), (s.fuseCopy copy r).bit b = true → (t.fuseCopy copy r).bit b = true

/-- The commands that store to no memory leave every byte of SRAM, of XSPI1 and of the boot flash, and every fuse but
the one that a pulse burns, as they were. -/
def Obligations.MemoryFrame : Prop :=
  ∀ (s t : State) (i : Instr), storesNothing i = true → exec i s = .next t →
    (∀ a, t.sramByte a = s.sramByte a ∧ t.psramByte a = s.psramByte a ∧ t.flashByte a = s.flashByte a) ∧
    ((∀ b, i ≠ .fuseStep b) → t.sint.copy0 = s.sint.copy0 ∧ t.sint.copy1 = s.sint.copy1)
end

