-- ==== Sys2Proof/Laws/State.lean ====
section
/-! SUPPORT. What each update of the state leaves as it was: one lemma per field per update. -/

namespace Sys2Proof.Machine

variable (s : State)

@[simp] theorem State.setReg_pending (id sub : Nat) (v : Word) : (s.setReg id sub v).pending = s.pending := rfl
@[simp] theorem State.setReg_now (id sub : Nat) (v : Word) : (s.setReg id sub v).now = s.now := rfl
@[simp] theorem State.setReg_cyc (id sub : Nat) (v : Word) : (s.setReg id sub v).cyc = s.cyc := rfl
@[simp] theorem State.setReg_free (id sub : Nat) (v : Word) : (s.setReg id sub v).free = s.free := rfl
@[simp] theorem State.setReg_tick (id sub : Nat) (v : Word) : (s.setReg id sub v).tick = s.tick := rfl
@[simp] theorem State.setReg_sets (id sub : Nat) (v : Word) : (s.setReg id sub v).sets = s.sets := rfl
@[simp] theorem State.setReg_units (id sub : Nat) (v : Word) : (s.setReg id sub v).units = s.units := rfl
@[simp] theorem State.setReg_fuma (id sub : Nat) (v : Word) : (s.setReg id sub v).fuma = s.fuma := rfl
@[simp] theorem State.setReg_tr (id sub : Nat) (v : Word) : (s.setReg id sub v).tr = s.tr := rfl
@[simp] theorem State.setReg_spi (id sub : Nat) (v : Word) : (s.setReg id sub v).spi = s.spi := rfl
@[simp] theorem State.setReg_jobs (id sub : Nat) (v : Word) : (s.setReg id sub v).jobs = s.jobs := rfl
@[simp] theorem State.setReg_boot (id sub : Nat) (v : Word) : (s.setReg id sub v).boot = s.boot := rfl
@[simp] theorem State.setReg_sint (id sub : Nat) (v : Word) : (s.setReg id sub v).sint = s.sint := rfl
@[simp] theorem State.setReg_cells (id sub : Nat) (v : Word) : (s.setReg id sub v).cells = s.cells := rfl
@[simp] theorem State.setReg_dacs (id sub : Nat) (v : Word) : (s.setReg id sub v).dacs = s.dacs := rfl
@[simp] theorem State.setReg_closed (id sub : Nat) (v : Word) : (s.setReg id sub v).closed = s.closed := rfl
@[simp] theorem State.setReg_wire (id sub : Nat) (v : Word) : (s.setReg id sub v).wire = s.wire := rfl
@[simp] theorem State.setReg_conv (id sub : Nat) (v : Word) : (s.setReg id sub v).conv = s.conv := rfl
@[simp] theorem State.setReg_seq (id sub : Nat) (v : Word) : (s.setReg id sub v).seq = s.seq := rfl
@[simp] theorem State.setReg_filt (id sub : Nat) (v : Word) : (s.setReg id sub v).filt = s.filt := rfl
@[simp] theorem State.setReg_region (id sub : Nat) (v : Word) : (s.setReg id sub v).region = s.region := rfl
@[simp] theorem State.setReg_fclk (id sub : Nat) (v : Word) : (s.setReg id sub v).fclk = s.fclk := rfl
@[simp] theorem State.setReg_rng (id sub : Nat) (v : Word) : (s.setReg id sub v).rng = s.rng := rfl
@[simp] theorem State.setReg_sec (id sub : Nat) (v : Word) : (s.setReg id sub v).sec = s.sec := rfl
@[simp] theorem State.setReg_img (id sub : Nat) (v : Word) : (s.setReg id sub v).img = s.img := rfl
@[simp] theorem State.setReg_mem (id sub : Nat) (v : Word) : (s.setReg id sub v).mem = s.mem := rfl
@[simp] theorem State.setReg_uart (id sub : Nat) (v : Word) : (s.setReg id sub v).uart = s.uart := rfl
@[simp] theorem State.setReg_pwr (id sub : Nat) (v : Word) : (s.setReg id sub v).pwr = s.pwr := rfl
@[simp] theorem State.setReg_tbus (id sub : Nat) (v : Word) : (s.setReg id sub v).tbus = s.tbus := rfl
@[simp] theorem State.setReg_tap (id sub : Nat) (v : Word) : (s.setReg id sub v).tap = s.tap := rfl

@[simp] theorem State.setUnit_pending (u : Nat) (x : UnitSt) : (s.setUnit u x).pending = s.pending := rfl
@[simp] theorem State.setUnit_regs (u : Nat) (x : UnitSt) : (s.setUnit u x).regs = s.regs := rfl
@[simp] theorem State.setUnit_now (u : Nat) (x : UnitSt) : (s.setUnit u x).now = s.now := rfl
@[simp] theorem State.setUnit_cyc (u : Nat) (x : UnitSt) : (s.setUnit u x).cyc = s.cyc := rfl
@[simp] theorem State.setUnit_free (u : Nat) (x : UnitSt) : (s.setUnit u x).free = s.free := rfl
@[simp] theorem State.setUnit_tick (u : Nat) (x : UnitSt) : (s.setUnit u x).tick = s.tick := rfl
@[simp] theorem State.setUnit_sets (u : Nat) (x : UnitSt) : (s.setUnit u x).sets = s.sets := rfl
@[simp] theorem State.setUnit_fuma (u : Nat) (x : UnitSt) : (s.setUnit u x).fuma = s.fuma := rfl
@[simp] theorem State.setUnit_tr (u : Nat) (x : UnitSt) : (s.setUnit u x).tr = s.tr := rfl
@[simp] theorem State.setUnit_spi (u : Nat) (x : UnitSt) : (s.setUnit u x).spi = s.spi := rfl
@[simp] theorem State.setUnit_jobs (u : Nat) (x : UnitSt) : (s.setUnit u x).jobs = s.jobs := rfl
@[simp] theorem State.setUnit_boot (u : Nat) (x : UnitSt) : (s.setUnit u x).boot = s.boot := rfl
@[simp] theorem State.setUnit_sint (u : Nat) (x : UnitSt) : (s.setUnit u x).sint = s.sint := rfl
@[simp] theorem State.setUnit_cells (u : Nat) (x : UnitSt) : (s.setUnit u x).cells = s.cells := rfl
@[simp] theorem State.setUnit_dacs (u : Nat) (x : UnitSt) : (s.setUnit u x).dacs = s.dacs := rfl
@[simp] theorem State.setUnit_closed (u : Nat) (x : UnitSt) : (s.setUnit u x).closed = s.closed := rfl
@[simp] theorem State.setUnit_wire (u : Nat) (x : UnitSt) : (s.setUnit u x).wire = s.wire := rfl
@[simp] theorem State.setUnit_conv (u : Nat) (x : UnitSt) : (s.setUnit u x).conv = s.conv := rfl
@[simp] theorem State.setUnit_seq (u : Nat) (x : UnitSt) : (s.setUnit u x).seq = s.seq := rfl
@[simp] theorem State.setUnit_filt (u : Nat) (x : UnitSt) : (s.setUnit u x).filt = s.filt := rfl
@[simp] theorem State.setUnit_region (u : Nat) (x : UnitSt) : (s.setUnit u x).region = s.region := rfl
@[simp] theorem State.setUnit_fclk (u : Nat) (x : UnitSt) : (s.setUnit u x).fclk = s.fclk := rfl
@[simp] theorem State.setUnit_rng (u : Nat) (x : UnitSt) : (s.setUnit u x).rng = s.rng := rfl
@[simp] theorem State.setUnit_sec (u : Nat) (x : UnitSt) : (s.setUnit u x).sec = s.sec := rfl
@[simp] theorem State.setUnit_img (u : Nat) (x : UnitSt) : (s.setUnit u x).img = s.img := rfl
@[simp] theorem State.setUnit_mem (u : Nat) (x : UnitSt) : (s.setUnit u x).mem = s.mem := rfl
@[simp] theorem State.setUnit_uart (u : Nat) (x : UnitSt) : (s.setUnit u x).uart = s.uart := rfl
@[simp] theorem State.setUnit_pwr (u : Nat) (x : UnitSt) : (s.setUnit u x).pwr = s.pwr := rfl
@[simp] theorem State.setUnit_tbus (u : Nat) (x : UnitSt) : (s.setUnit u x).tbus = s.tbus := rfl
@[simp] theorem State.setUnit_tap (u : Nat) (x : UnitSt) : (s.setUnit u x).tap = s.tap := rfl

@[simp] theorem State.setTr_pending (n : Nat) (x : TrSt) : (s.setTr n x).pending = s.pending := rfl
@[simp] theorem State.setTr_regs (n : Nat) (x : TrSt) : (s.setTr n x).regs = s.regs := rfl
@[simp] theorem State.setTr_now (n : Nat) (x : TrSt) : (s.setTr n x).now = s.now := rfl
@[simp] theorem State.setTr_cyc (n : Nat) (x : TrSt) : (s.setTr n x).cyc = s.cyc := rfl
@[simp] theorem State.setTr_free (n : Nat) (x : TrSt) : (s.setTr n x).free = s.free := rfl
@[simp] theorem State.setTr_tick (n : Nat) (x : TrSt) : (s.setTr n x).tick = s.tick := rfl
@[simp] theorem State.setTr_sets (n : Nat) (x : TrSt) : (s.setTr n x).sets = s.sets := rfl
@[simp] theorem State.setTr_units (n : Nat) (x : TrSt) : (s.setTr n x).units = s.units := rfl
@[simp] theorem State.setTr_fuma (n : Nat) (x : TrSt) : (s.setTr n x).fuma = s.fuma := rfl
@[simp] theorem State.setTr_spi (n : Nat) (x : TrSt) : (s.setTr n x).spi = s.spi := rfl
@[simp] theorem State.setTr_jobs (n : Nat) (x : TrSt) : (s.setTr n x).jobs = s.jobs := rfl
@[simp] theorem State.setTr_boot (n : Nat) (x : TrSt) : (s.setTr n x).boot = s.boot := rfl
@[simp] theorem State.setTr_sint (n : Nat) (x : TrSt) : (s.setTr n x).sint = s.sint := rfl
@[simp] theorem State.setTr_cells (n : Nat) (x : TrSt) : (s.setTr n x).cells = s.cells := rfl
@[simp] theorem State.setTr_dacs (n : Nat) (x : TrSt) : (s.setTr n x).dacs = s.dacs := rfl
@[simp] theorem State.setTr_closed (n : Nat) (x : TrSt) : (s.setTr n x).closed = s.closed := rfl
@[simp] theorem State.setTr_wire (n : Nat) (x : TrSt) : (s.setTr n x).wire = s.wire := rfl
@[simp] theorem State.setTr_conv (n : Nat) (x : TrSt) : (s.setTr n x).conv = s.conv := rfl
@[simp] theorem State.setTr_seq (n : Nat) (x : TrSt) : (s.setTr n x).seq = s.seq := rfl
@[simp] theorem State.setTr_filt (n : Nat) (x : TrSt) : (s.setTr n x).filt = s.filt := rfl
@[simp] theorem State.setTr_region (n : Nat) (x : TrSt) : (s.setTr n x).region = s.region := rfl
@[simp] theorem State.setTr_fclk (n : Nat) (x : TrSt) : (s.setTr n x).fclk = s.fclk := rfl
@[simp] theorem State.setTr_rng (n : Nat) (x : TrSt) : (s.setTr n x).rng = s.rng := rfl
@[simp] theorem State.setTr_sec (n : Nat) (x : TrSt) : (s.setTr n x).sec = s.sec := rfl
@[simp] theorem State.setTr_img (n : Nat) (x : TrSt) : (s.setTr n x).img = s.img := rfl
@[simp] theorem State.setTr_mem (n : Nat) (x : TrSt) : (s.setTr n x).mem = s.mem := rfl
@[simp] theorem State.setTr_uart (n : Nat) (x : TrSt) : (s.setTr n x).uart = s.uart := rfl
@[simp] theorem State.setTr_pwr (n : Nat) (x : TrSt) : (s.setTr n x).pwr = s.pwr := rfl
@[simp] theorem State.setTr_tbus (n : Nat) (x : TrSt) : (s.setTr n x).tbus = s.tbus := rfl
@[simp] theorem State.setTr_tap (n : Nat) (x : TrSt) : (s.setTr n x).tap = s.tap := rfl

@[simp] theorem State.setCell_pending (n : Nat) (x : CellSt) : (s.setCell n x).pending = s.pending := rfl
@[simp] theorem State.setCell_regs (n : Nat) (x : CellSt) : (s.setCell n x).regs = s.regs := rfl
@[simp] theorem State.setCell_now (n : Nat) (x : CellSt) : (s.setCell n x).now = s.now := rfl
@[simp] theorem State.setCell_cyc (n : Nat) (x : CellSt) : (s.setCell n x).cyc = s.cyc := rfl
@[simp] theorem State.setCell_free (n : Nat) (x : CellSt) : (s.setCell n x).free = s.free := rfl
@[simp] theorem State.setCell_tick (n : Nat) (x : CellSt) : (s.setCell n x).tick = s.tick := rfl
@[simp] theorem State.setCell_sets (n : Nat) (x : CellSt) : (s.setCell n x).sets = s.sets := rfl
@[simp] theorem State.setCell_units (n : Nat) (x : CellSt) : (s.setCell n x).units = s.units := rfl
@[simp] theorem State.setCell_fuma (n : Nat) (x : CellSt) : (s.setCell n x).fuma = s.fuma := rfl
@[simp] theorem State.setCell_tr (n : Nat) (x : CellSt) : (s.setCell n x).tr = s.tr := rfl
@[simp] theorem State.setCell_spi (n : Nat) (x : CellSt) : (s.setCell n x).spi = s.spi := rfl
@[simp] theorem State.setCell_jobs (n : Nat) (x : CellSt) : (s.setCell n x).jobs = s.jobs := rfl
@[simp] theorem State.setCell_boot (n : Nat) (x : CellSt) : (s.setCell n x).boot = s.boot := rfl
@[simp] theorem State.setCell_sint (n : Nat) (x : CellSt) : (s.setCell n x).sint = s.sint := rfl
@[simp] theorem State.setCell_dacs (n : Nat) (x : CellSt) : (s.setCell n x).dacs = s.dacs := rfl
@[simp] theorem State.setCell_closed (n : Nat) (x : CellSt) : (s.setCell n x).closed = s.closed := rfl
@[simp] theorem State.setCell_wire (n : Nat) (x : CellSt) : (s.setCell n x).wire = s.wire := rfl
@[simp] theorem State.setCell_conv (n : Nat) (x : CellSt) : (s.setCell n x).conv = s.conv := rfl
@[simp] theorem State.setCell_seq (n : Nat) (x : CellSt) : (s.setCell n x).seq = s.seq := rfl
@[simp] theorem State.setCell_filt (n : Nat) (x : CellSt) : (s.setCell n x).filt = s.filt := rfl
@[simp] theorem State.setCell_region (n : Nat) (x : CellSt) : (s.setCell n x).region = s.region := rfl
@[simp] theorem State.setCell_fclk (n : Nat) (x : CellSt) : (s.setCell n x).fclk = s.fclk := rfl
@[simp] theorem State.setCell_rng (n : Nat) (x : CellSt) : (s.setCell n x).rng = s.rng := rfl
@[simp] theorem State.setCell_sec (n : Nat) (x : CellSt) : (s.setCell n x).sec = s.sec := rfl
@[simp] theorem State.setCell_img (n : Nat) (x : CellSt) : (s.setCell n x).img = s.img := rfl
@[simp] theorem State.setCell_mem (n : Nat) (x : CellSt) : (s.setCell n x).mem = s.mem := rfl
@[simp] theorem State.setCell_uart (n : Nat) (x : CellSt) : (s.setCell n x).uart = s.uart := rfl
@[simp] theorem State.setCell_pwr (n : Nat) (x : CellSt) : (s.setCell n x).pwr = s.pwr := rfl
@[simp] theorem State.setCell_tbus (n : Nat) (x : CellSt) : (s.setCell n x).tbus = s.tbus := rfl
@[simp] theorem State.setCell_tap (n : Nat) (x : CellSt) : (s.setCell n x).tap = s.tap := rfl

@[simp] theorem State.setDac_pending (n : Nat) (x : DacSt) : (s.setDac n x).pending = s.pending := rfl
@[simp] theorem State.setDac_regs (n : Nat) (x : DacSt) : (s.setDac n x).regs = s.regs := rfl
@[simp] theorem State.setDac_now (n : Nat) (x : DacSt) : (s.setDac n x).now = s.now := rfl
@[simp] theorem State.setDac_cyc (n : Nat) (x : DacSt) : (s.setDac n x).cyc = s.cyc := rfl
@[simp] theorem State.setDac_free (n : Nat) (x : DacSt) : (s.setDac n x).free = s.free := rfl
@[simp] theorem State.setDac_tick (n : Nat) (x : DacSt) : (s.setDac n x).tick = s.tick := rfl
@[simp] theorem State.setDac_sets (n : Nat) (x : DacSt) : (s.setDac n x).sets = s.sets := rfl
@[simp] theorem State.setDac_units (n : Nat) (x : DacSt) : (s.setDac n x).units = s.units := rfl
@[simp] theorem State.setDac_fuma (n : Nat) (x : DacSt) : (s.setDac n x).fuma = s.fuma := rfl
@[simp] theorem State.setDac_tr (n : Nat) (x : DacSt) : (s.setDac n x).tr = s.tr := rfl
@[simp] theorem State.setDac_spi (n : Nat) (x : DacSt) : (s.setDac n x).spi = s.spi := rfl
@[simp] theorem State.setDac_jobs (n : Nat) (x : DacSt) : (s.setDac n x).jobs = s.jobs := rfl
@[simp] theorem State.setDac_boot (n : Nat) (x : DacSt) : (s.setDac n x).boot = s.boot := rfl
@[simp] theorem State.setDac_sint (n : Nat) (x : DacSt) : (s.setDac n x).sint = s.sint := rfl
@[simp] theorem State.setDac_cells (n : Nat) (x : DacSt) : (s.setDac n x).cells = s.cells := rfl
@[simp] theorem State.setDac_closed (n : Nat) (x : DacSt) : (s.setDac n x).closed = s.closed := rfl
@[simp] theorem State.setDac_wire (n : Nat) (x : DacSt) : (s.setDac n x).wire = s.wire := rfl
@[simp] theorem State.setDac_conv (n : Nat) (x : DacSt) : (s.setDac n x).conv = s.conv := rfl
@[simp] theorem State.setDac_seq (n : Nat) (x : DacSt) : (s.setDac n x).seq = s.seq := rfl
@[simp] theorem State.setDac_filt (n : Nat) (x : DacSt) : (s.setDac n x).filt = s.filt := rfl
@[simp] theorem State.setDac_region (n : Nat) (x : DacSt) : (s.setDac n x).region = s.region := rfl
@[simp] theorem State.setDac_fclk (n : Nat) (x : DacSt) : (s.setDac n x).fclk = s.fclk := rfl
@[simp] theorem State.setDac_rng (n : Nat) (x : DacSt) : (s.setDac n x).rng = s.rng := rfl
@[simp] theorem State.setDac_sec (n : Nat) (x : DacSt) : (s.setDac n x).sec = s.sec := rfl
@[simp] theorem State.setDac_img (n : Nat) (x : DacSt) : (s.setDac n x).img = s.img := rfl
@[simp] theorem State.setDac_mem (n : Nat) (x : DacSt) : (s.setDac n x).mem = s.mem := rfl
@[simp] theorem State.setDac_uart (n : Nat) (x : DacSt) : (s.setDac n x).uart = s.uart := rfl
@[simp] theorem State.setDac_pwr (n : Nat) (x : DacSt) : (s.setDac n x).pwr = s.pwr := rfl
@[simp] theorem State.setDac_tbus (n : Nat) (x : DacSt) : (s.setDac n x).tbus = s.tbus := rfl
@[simp] theorem State.setDac_tap (n : Nat) (x : DacSt) : (s.setDac n x).tap = s.tap := rfl

@[simp] theorem State.setConv_pending (n : Nat) (x : ConvSt) : (s.setConv n x).pending = s.pending := rfl
@[simp] theorem State.setConv_regs (n : Nat) (x : ConvSt) : (s.setConv n x).regs = s.regs := rfl
@[simp] theorem State.setConv_now (n : Nat) (x : ConvSt) : (s.setConv n x).now = s.now := rfl
@[simp] theorem State.setConv_cyc (n : Nat) (x : ConvSt) : (s.setConv n x).cyc = s.cyc := rfl
@[simp] theorem State.setConv_free (n : Nat) (x : ConvSt) : (s.setConv n x).free = s.free := rfl
@[simp] theorem State.setConv_tick (n : Nat) (x : ConvSt) : (s.setConv n x).tick = s.tick := rfl
@[simp] theorem State.setConv_sets (n : Nat) (x : ConvSt) : (s.setConv n x).sets = s.sets := rfl
@[simp] theorem State.setConv_units (n : Nat) (x : ConvSt) : (s.setConv n x).units = s.units := rfl
@[simp] theorem State.setConv_fuma (n : Nat) (x : ConvSt) : (s.setConv n x).fuma = s.fuma := rfl
@[simp] theorem State.setConv_tr (n : Nat) (x : ConvSt) : (s.setConv n x).tr = s.tr := rfl
@[simp] theorem State.setConv_spi (n : Nat) (x : ConvSt) : (s.setConv n x).spi = s.spi := rfl
@[simp] theorem State.setConv_jobs (n : Nat) (x : ConvSt) : (s.setConv n x).jobs = s.jobs := rfl
@[simp] theorem State.setConv_boot (n : Nat) (x : ConvSt) : (s.setConv n x).boot = s.boot := rfl
@[simp] theorem State.setConv_sint (n : Nat) (x : ConvSt) : (s.setConv n x).sint = s.sint := rfl
@[simp] theorem State.setConv_cells (n : Nat) (x : ConvSt) : (s.setConv n x).cells = s.cells := rfl
@[simp] theorem State.setConv_dacs (n : Nat) (x : ConvSt) : (s.setConv n x).dacs = s.dacs := rfl
@[simp] theorem State.setConv_closed (n : Nat) (x : ConvSt) : (s.setConv n x).closed = s.closed := rfl
@[simp] theorem State.setConv_wire (n : Nat) (x : ConvSt) : (s.setConv n x).wire = s.wire := rfl
@[simp] theorem State.setConv_seq (n : Nat) (x : ConvSt) : (s.setConv n x).seq = s.seq := rfl
@[simp] theorem State.setConv_filt (n : Nat) (x : ConvSt) : (s.setConv n x).filt = s.filt := rfl
@[simp] theorem State.setConv_region (n : Nat) (x : ConvSt) : (s.setConv n x).region = s.region := rfl
@[simp] theorem State.setConv_fclk (n : Nat) (x : ConvSt) : (s.setConv n x).fclk = s.fclk := rfl
@[simp] theorem State.setConv_rng (n : Nat) (x : ConvSt) : (s.setConv n x).rng = s.rng := rfl
@[simp] theorem State.setConv_sec (n : Nat) (x : ConvSt) : (s.setConv n x).sec = s.sec := rfl
@[simp] theorem State.setConv_img (n : Nat) (x : ConvSt) : (s.setConv n x).img = s.img := rfl
@[simp] theorem State.setConv_mem (n : Nat) (x : ConvSt) : (s.setConv n x).mem = s.mem := rfl
@[simp] theorem State.setConv_uart (n : Nat) (x : ConvSt) : (s.setConv n x).uart = s.uart := rfl
@[simp] theorem State.setConv_pwr (n : Nat) (x : ConvSt) : (s.setConv n x).pwr = s.pwr := rfl
@[simp] theorem State.setConv_tbus (n : Nat) (x : ConvSt) : (s.setConv n x).tbus = s.tbus := rfl
@[simp] theorem State.setConv_tap (n : Nat) (x : ConvSt) : (s.setConv n x).tap = s.tap := rfl

@[simp] theorem State.setSeq_pending (n : Nat) (x : SeqSt) : (s.setSeq n x).pending = s.pending := rfl
@[simp] theorem State.setSeq_regs (n : Nat) (x : SeqSt) : (s.setSeq n x).regs = s.regs := rfl
@[simp] theorem State.setSeq_now (n : Nat) (x : SeqSt) : (s.setSeq n x).now = s.now := rfl
@[simp] theorem State.setSeq_cyc (n : Nat) (x : SeqSt) : (s.setSeq n x).cyc = s.cyc := rfl
@[simp] theorem State.setSeq_free (n : Nat) (x : SeqSt) : (s.setSeq n x).free = s.free := rfl
@[simp] theorem State.setSeq_tick (n : Nat) (x : SeqSt) : (s.setSeq n x).tick = s.tick := rfl
@[simp] theorem State.setSeq_sets (n : Nat) (x : SeqSt) : (s.setSeq n x).sets = s.sets := rfl
@[simp] theorem State.setSeq_units (n : Nat) (x : SeqSt) : (s.setSeq n x).units = s.units := rfl
@[simp] theorem State.setSeq_fuma (n : Nat) (x : SeqSt) : (s.setSeq n x).fuma = s.fuma := rfl
@[simp] theorem State.setSeq_tr (n : Nat) (x : SeqSt) : (s.setSeq n x).tr = s.tr := rfl
@[simp] theorem State.setSeq_spi (n : Nat) (x : SeqSt) : (s.setSeq n x).spi = s.spi := rfl
@[simp] theorem State.setSeq_jobs (n : Nat) (x : SeqSt) : (s.setSeq n x).jobs = s.jobs := rfl
@[simp] theorem State.setSeq_boot (n : Nat) (x : SeqSt) : (s.setSeq n x).boot = s.boot := rfl
@[simp] theorem State.setSeq_sint (n : Nat) (x : SeqSt) : (s.setSeq n x).sint = s.sint := rfl
@[simp] theorem State.setSeq_cells (n : Nat) (x : SeqSt) : (s.setSeq n x).cells = s.cells := rfl
@[simp] theorem State.setSeq_dacs (n : Nat) (x : SeqSt) : (s.setSeq n x).dacs = s.dacs := rfl
@[simp] theorem State.setSeq_closed (n : Nat) (x : SeqSt) : (s.setSeq n x).closed = s.closed := rfl
@[simp] theorem State.setSeq_wire (n : Nat) (x : SeqSt) : (s.setSeq n x).wire = s.wire := rfl
@[simp] theorem State.setSeq_conv (n : Nat) (x : SeqSt) : (s.setSeq n x).conv = s.conv := rfl
@[simp] theorem State.setSeq_filt (n : Nat) (x : SeqSt) : (s.setSeq n x).filt = s.filt := rfl
@[simp] theorem State.setSeq_region (n : Nat) (x : SeqSt) : (s.setSeq n x).region = s.region := rfl
@[simp] theorem State.setSeq_fclk (n : Nat) (x : SeqSt) : (s.setSeq n x).fclk = s.fclk := rfl
@[simp] theorem State.setSeq_rng (n : Nat) (x : SeqSt) : (s.setSeq n x).rng = s.rng := rfl
@[simp] theorem State.setSeq_sec (n : Nat) (x : SeqSt) : (s.setSeq n x).sec = s.sec := rfl
@[simp] theorem State.setSeq_img (n : Nat) (x : SeqSt) : (s.setSeq n x).img = s.img := rfl
@[simp] theorem State.setSeq_mem (n : Nat) (x : SeqSt) : (s.setSeq n x).mem = s.mem := rfl
@[simp] theorem State.setSeq_uart (n : Nat) (x : SeqSt) : (s.setSeq n x).uart = s.uart := rfl
@[simp] theorem State.setSeq_pwr (n : Nat) (x : SeqSt) : (s.setSeq n x).pwr = s.pwr := rfl
@[simp] theorem State.setSeq_tbus (n : Nat) (x : SeqSt) : (s.setSeq n x).tbus = s.tbus := rfl
@[simp] theorem State.setSeq_tap (n : Nat) (x : SeqSt) : (s.setSeq n x).tap = s.tap := rfl

@[simp] theorem State.setFilt_pending (n : Nat) (x : FiltSt) : (s.setFilt n x).pending = s.pending := rfl
@[simp] theorem State.setFilt_regs (n : Nat) (x : FiltSt) : (s.setFilt n x).regs = s.regs := rfl
@[simp] theorem State.setFilt_now (n : Nat) (x : FiltSt) : (s.setFilt n x).now = s.now := rfl
@[simp] theorem State.setFilt_cyc (n : Nat) (x : FiltSt) : (s.setFilt n x).cyc = s.cyc := rfl
@[simp] theorem State.setFilt_free (n : Nat) (x : FiltSt) : (s.setFilt n x).free = s.free := rfl
@[simp] theorem State.setFilt_tick (n : Nat) (x : FiltSt) : (s.setFilt n x).tick = s.tick := rfl
@[simp] theorem State.setFilt_sets (n : Nat) (x : FiltSt) : (s.setFilt n x).sets = s.sets := rfl
@[simp] theorem State.setFilt_units (n : Nat) (x : FiltSt) : (s.setFilt n x).units = s.units := rfl
@[simp] theorem State.setFilt_fuma (n : Nat) (x : FiltSt) : (s.setFilt n x).fuma = s.fuma := rfl
@[simp] theorem State.setFilt_tr (n : Nat) (x : FiltSt) : (s.setFilt n x).tr = s.tr := rfl
@[simp] theorem State.setFilt_spi (n : Nat) (x : FiltSt) : (s.setFilt n x).spi = s.spi := rfl
@[simp] theorem State.setFilt_jobs (n : Nat) (x : FiltSt) : (s.setFilt n x).jobs = s.jobs := rfl
@[simp] theorem State.setFilt_boot (n : Nat) (x : FiltSt) : (s.setFilt n x).boot = s.boot := rfl
@[simp] theorem State.setFilt_sint (n : Nat) (x : FiltSt) : (s.setFilt n x).sint = s.sint := rfl
@[simp] theorem State.setFilt_cells (n : Nat) (x : FiltSt) : (s.setFilt n x).cells = s.cells := rfl
@[simp] theorem State.setFilt_dacs (n : Nat) (x : FiltSt) : (s.setFilt n x).dacs = s.dacs := rfl
@[simp] theorem State.setFilt_closed (n : Nat) (x : FiltSt) : (s.setFilt n x).closed = s.closed := rfl
@[simp] theorem State.setFilt_wire (n : Nat) (x : FiltSt) : (s.setFilt n x).wire = s.wire := rfl
@[simp] theorem State.setFilt_conv (n : Nat) (x : FiltSt) : (s.setFilt n x).conv = s.conv := rfl
@[simp] theorem State.setFilt_seq (n : Nat) (x : FiltSt) : (s.setFilt n x).seq = s.seq := rfl
@[simp] theorem State.setFilt_region (n : Nat) (x : FiltSt) : (s.setFilt n x).region = s.region := rfl
@[simp] theorem State.setFilt_fclk (n : Nat) (x : FiltSt) : (s.setFilt n x).fclk = s.fclk := rfl
@[simp] theorem State.setFilt_rng (n : Nat) (x : FiltSt) : (s.setFilt n x).rng = s.rng := rfl
@[simp] theorem State.setFilt_sec (n : Nat) (x : FiltSt) : (s.setFilt n x).sec = s.sec := rfl
@[simp] theorem State.setFilt_img (n : Nat) (x : FiltSt) : (s.setFilt n x).img = s.img := rfl
@[simp] theorem State.setFilt_mem (n : Nat) (x : FiltSt) : (s.setFilt n x).mem = s.mem := rfl
@[simp] theorem State.setFilt_uart (n : Nat) (x : FiltSt) : (s.setFilt n x).uart = s.uart := rfl
@[simp] theorem State.setFilt_pwr (n : Nat) (x : FiltSt) : (s.setFilt n x).pwr = s.pwr := rfl
@[simp] theorem State.setFilt_tbus (n : Nat) (x : FiltSt) : (s.setFilt n x).tbus = s.tbus := rfl
@[simp] theorem State.setFilt_tap (n : Nat) (x : FiltSt) : (s.setFilt n x).tap = s.tap := rfl

@[simp] theorem State.setRegion_pending (n : Nat) (x : RegionSt) : (s.setRegion n x).pending = s.pending := rfl
@[simp] theorem State.setRegion_regs (n : Nat) (x : RegionSt) : (s.setRegion n x).regs = s.regs := rfl
@[simp] theorem State.setRegion_now (n : Nat) (x : RegionSt) : (s.setRegion n x).now = s.now := rfl
@[simp] theorem State.setRegion_cyc (n : Nat) (x : RegionSt) : (s.setRegion n x).cyc = s.cyc := rfl
@[simp] theorem State.setRegion_free (n : Nat) (x : RegionSt) : (s.setRegion n x).free = s.free := rfl
@[simp] theorem State.setRegion_tick (n : Nat) (x : RegionSt) : (s.setRegion n x).tick = s.tick := rfl
@[simp] theorem State.setRegion_sets (n : Nat) (x : RegionSt) : (s.setRegion n x).sets = s.sets := rfl
@[simp] theorem State.setRegion_units (n : Nat) (x : RegionSt) : (s.setRegion n x).units = s.units := rfl
@[simp] theorem State.setRegion_fuma (n : Nat) (x : RegionSt) : (s.setRegion n x).fuma = s.fuma := rfl
@[simp] theorem State.setRegion_tr (n : Nat) (x : RegionSt) : (s.setRegion n x).tr = s.tr := rfl
@[simp] theorem State.setRegion_spi (n : Nat) (x : RegionSt) : (s.setRegion n x).spi = s.spi := rfl
@[simp] theorem State.setRegion_jobs (n : Nat) (x : RegionSt) : (s.setRegion n x).jobs = s.jobs := rfl
@[simp] theorem State.setRegion_boot (n : Nat) (x : RegionSt) : (s.setRegion n x).boot = s.boot := rfl
@[simp] theorem State.setRegion_sint (n : Nat) (x : RegionSt) : (s.setRegion n x).sint = s.sint := rfl
@[simp] theorem State.setRegion_cells (n : Nat) (x : RegionSt) : (s.setRegion n x).cells = s.cells := rfl
@[simp] theorem State.setRegion_dacs (n : Nat) (x : RegionSt) : (s.setRegion n x).dacs = s.dacs := rfl
@[simp] theorem State.setRegion_closed (n : Nat) (x : RegionSt) : (s.setRegion n x).closed = s.closed := rfl
@[simp] theorem State.setRegion_wire (n : Nat) (x : RegionSt) : (s.setRegion n x).wire = s.wire := rfl
@[simp] theorem State.setRegion_conv (n : Nat) (x : RegionSt) : (s.setRegion n x).conv = s.conv := rfl
@[simp] theorem State.setRegion_seq (n : Nat) (x : RegionSt) : (s.setRegion n x).seq = s.seq := rfl
@[simp] theorem State.setRegion_filt (n : Nat) (x : RegionSt) : (s.setRegion n x).filt = s.filt := rfl
@[simp] theorem State.setRegion_fclk (n : Nat) (x : RegionSt) : (s.setRegion n x).fclk = s.fclk := rfl
@[simp] theorem State.setRegion_rng (n : Nat) (x : RegionSt) : (s.setRegion n x).rng = s.rng := rfl
@[simp] theorem State.setRegion_sec (n : Nat) (x : RegionSt) : (s.setRegion n x).sec = s.sec := rfl
@[simp] theorem State.setRegion_img (n : Nat) (x : RegionSt) : (s.setRegion n x).img = s.img := rfl
@[simp] theorem State.setRegion_mem (n : Nat) (x : RegionSt) : (s.setRegion n x).mem = s.mem := rfl
@[simp] theorem State.setRegion_uart (n : Nat) (x : RegionSt) : (s.setRegion n x).uart = s.uart := rfl
@[simp] theorem State.setRegion_pwr (n : Nat) (x : RegionSt) : (s.setRegion n x).pwr = s.pwr := rfl
@[simp] theorem State.setRegion_tbus (n : Nat) (x : RegionSt) : (s.setRegion n x).tbus = s.tbus := rfl
@[simp] theorem State.setRegion_tap (n : Nat) (x : RegionSt) : (s.setRegion n x).tap = s.tap := rfl

@[simp] theorem State.setUart_pending (n : Nat) (x : UartSt) : (s.setUart n x).pending = s.pending := rfl
@[simp] theorem State.setUart_regs (n : Nat) (x : UartSt) : (s.setUart n x).regs = s.regs := rfl
@[simp] theorem State.setUart_now (n : Nat) (x : UartSt) : (s.setUart n x).now = s.now := rfl
@[simp] theorem State.setUart_cyc (n : Nat) (x : UartSt) : (s.setUart n x).cyc = s.cyc := rfl
@[simp] theorem State.setUart_free (n : Nat) (x : UartSt) : (s.setUart n x).free = s.free := rfl
@[simp] theorem State.setUart_tick (n : Nat) (x : UartSt) : (s.setUart n x).tick = s.tick := rfl
@[simp] theorem State.setUart_sets (n : Nat) (x : UartSt) : (s.setUart n x).sets = s.sets := rfl
@[simp] theorem State.setUart_units (n : Nat) (x : UartSt) : (s.setUart n x).units = s.units := rfl
@[simp] theorem State.setUart_fuma (n : Nat) (x : UartSt) : (s.setUart n x).fuma = s.fuma := rfl
@[simp] theorem State.setUart_tr (n : Nat) (x : UartSt) : (s.setUart n x).tr = s.tr := rfl
@[simp] theorem State.setUart_spi (n : Nat) (x : UartSt) : (s.setUart n x).spi = s.spi := rfl
@[simp] theorem State.setUart_jobs (n : Nat) (x : UartSt) : (s.setUart n x).jobs = s.jobs := rfl
@[simp] theorem State.setUart_boot (n : Nat) (x : UartSt) : (s.setUart n x).boot = s.boot := rfl
@[simp] theorem State.setUart_sint (n : Nat) (x : UartSt) : (s.setUart n x).sint = s.sint := rfl
@[simp] theorem State.setUart_cells (n : Nat) (x : UartSt) : (s.setUart n x).cells = s.cells := rfl
@[simp] theorem State.setUart_dacs (n : Nat) (x : UartSt) : (s.setUart n x).dacs = s.dacs := rfl
@[simp] theorem State.setUart_closed (n : Nat) (x : UartSt) : (s.setUart n x).closed = s.closed := rfl
@[simp] theorem State.setUart_wire (n : Nat) (x : UartSt) : (s.setUart n x).wire = s.wire := rfl
@[simp] theorem State.setUart_conv (n : Nat) (x : UartSt) : (s.setUart n x).conv = s.conv := rfl
@[simp] theorem State.setUart_seq (n : Nat) (x : UartSt) : (s.setUart n x).seq = s.seq := rfl
@[simp] theorem State.setUart_filt (n : Nat) (x : UartSt) : (s.setUart n x).filt = s.filt := rfl
@[simp] theorem State.setUart_region (n : Nat) (x : UartSt) : (s.setUart n x).region = s.region := rfl
@[simp] theorem State.setUart_fclk (n : Nat) (x : UartSt) : (s.setUart n x).fclk = s.fclk := rfl
@[simp] theorem State.setUart_rng (n : Nat) (x : UartSt) : (s.setUart n x).rng = s.rng := rfl
@[simp] theorem State.setUart_sec (n : Nat) (x : UartSt) : (s.setUart n x).sec = s.sec := rfl
@[simp] theorem State.setUart_img (n : Nat) (x : UartSt) : (s.setUart n x).img = s.img := rfl
@[simp] theorem State.setUart_mem (n : Nat) (x : UartSt) : (s.setUart n x).mem = s.mem := rfl
@[simp] theorem State.setUart_pwr (n : Nat) (x : UartSt) : (s.setUart n x).pwr = s.pwr := rfl
@[simp] theorem State.setUart_tbus (n : Nat) (x : UartSt) : (s.setUart n x).tbus = s.tbus := rfl
@[simp] theorem State.setUart_tap (n : Nat) (x : UartSt) : (s.setUart n x).tap = s.tap := rfl

@[simp] theorem State.setQueue_pending (q : Nat) (x : QueueSt) : (s.setQueue q x).pending = s.pending := rfl
@[simp] theorem State.setQueue_regs (q : Nat) (x : QueueSt) : (s.setQueue q x).regs = s.regs := rfl
@[simp] theorem State.setQueue_now (q : Nat) (x : QueueSt) : (s.setQueue q x).now = s.now := rfl
@[simp] theorem State.setQueue_cyc (q : Nat) (x : QueueSt) : (s.setQueue q x).cyc = s.cyc := rfl
@[simp] theorem State.setQueue_free (q : Nat) (x : QueueSt) : (s.setQueue q x).free = s.free := rfl
@[simp] theorem State.setQueue_tick (q : Nat) (x : QueueSt) : (s.setQueue q x).tick = s.tick := rfl
@[simp] theorem State.setQueue_sets (q : Nat) (x : QueueSt) : (s.setQueue q x).sets = s.sets := rfl
@[simp] theorem State.setQueue_units (q : Nat) (x : QueueSt) : (s.setQueue q x).units = s.units := rfl
@[simp] theorem State.setQueue_fuma (q : Nat) (x : QueueSt) : (s.setQueue q x).fuma = s.fuma := rfl
@[simp] theorem State.setQueue_tr (q : Nat) (x : QueueSt) : (s.setQueue q x).tr = s.tr := rfl
@[simp] theorem State.setQueue_spi (q : Nat) (x : QueueSt) : (s.setQueue q x).spi = s.spi := rfl
@[simp] theorem State.setQueue_jobs (q : Nat) (x : QueueSt) : (s.setQueue q x).jobs = s.jobs := rfl
@[simp] theorem State.setQueue_boot (q : Nat) (x : QueueSt) : (s.setQueue q x).boot = s.boot := rfl
@[simp] theorem State.setQueue_sint (q : Nat) (x : QueueSt) : (s.setQueue q x).sint = s.sint := rfl
@[simp] theorem State.setQueue_cells (q : Nat) (x : QueueSt) : (s.setQueue q x).cells = s.cells := rfl
@[simp] theorem State.setQueue_dacs (q : Nat) (x : QueueSt) : (s.setQueue q x).dacs = s.dacs := rfl
@[simp] theorem State.setQueue_closed (q : Nat) (x : QueueSt) : (s.setQueue q x).closed = s.closed := rfl
@[simp] theorem State.setQueue_wire (q : Nat) (x : QueueSt) : (s.setQueue q x).wire = s.wire := rfl
@[simp] theorem State.setQueue_conv (q : Nat) (x : QueueSt) : (s.setQueue q x).conv = s.conv := rfl
@[simp] theorem State.setQueue_seq (q : Nat) (x : QueueSt) : (s.setQueue q x).seq = s.seq := rfl
@[simp] theorem State.setQueue_filt (q : Nat) (x : QueueSt) : (s.setQueue q x).filt = s.filt := rfl
@[simp] theorem State.setQueue_region (q : Nat) (x : QueueSt) : (s.setQueue q x).region = s.region := rfl
@[simp] theorem State.setQueue_fclk (q : Nat) (x : QueueSt) : (s.setQueue q x).fclk = s.fclk := rfl
@[simp] theorem State.setQueue_rng (q : Nat) (x : QueueSt) : (s.setQueue q x).rng = s.rng := rfl
@[simp] theorem State.setQueue_sec (q : Nat) (x : QueueSt) : (s.setQueue q x).sec = s.sec := rfl
@[simp] theorem State.setQueue_img (q : Nat) (x : QueueSt) : (s.setQueue q x).img = s.img := rfl
@[simp] theorem State.setQueue_uart (q : Nat) (x : QueueSt) : (s.setQueue q x).uart = s.uart := rfl
@[simp] theorem State.setQueue_pwr (q : Nat) (x : QueueSt) : (s.setQueue q x).pwr = s.pwr := rfl
@[simp] theorem State.setQueue_tbus (q : Nat) (x : QueueSt) : (s.setQueue q x).tbus = s.tbus := rfl
@[simp] theorem State.setQueue_tap (q : Nat) (x : QueueSt) : (s.setQueue q x).tap = s.tap := rfl

@[simp] theorem State.setDma_pending (n : Nat) (x : DmaSt) : (s.setDma n x).pending = s.pending := rfl
@[simp] theorem State.setDma_regs (n : Nat) (x : DmaSt) : (s.setDma n x).regs = s.regs := rfl
@[simp] theorem State.setDma_now (n : Nat) (x : DmaSt) : (s.setDma n x).now = s.now := rfl
@[simp] theorem State.setDma_cyc (n : Nat) (x : DmaSt) : (s.setDma n x).cyc = s.cyc := rfl
@[simp] theorem State.setDma_free (n : Nat) (x : DmaSt) : (s.setDma n x).free = s.free := rfl
@[simp] theorem State.setDma_tick (n : Nat) (x : DmaSt) : (s.setDma n x).tick = s.tick := rfl
@[simp] theorem State.setDma_sets (n : Nat) (x : DmaSt) : (s.setDma n x).sets = s.sets := rfl
@[simp] theorem State.setDma_units (n : Nat) (x : DmaSt) : (s.setDma n x).units = s.units := rfl
@[simp] theorem State.setDma_fuma (n : Nat) (x : DmaSt) : (s.setDma n x).fuma = s.fuma := rfl
@[simp] theorem State.setDma_tr (n : Nat) (x : DmaSt) : (s.setDma n x).tr = s.tr := rfl
@[simp] theorem State.setDma_spi (n : Nat) (x : DmaSt) : (s.setDma n x).spi = s.spi := rfl
@[simp] theorem State.setDma_jobs (n : Nat) (x : DmaSt) : (s.setDma n x).jobs = s.jobs := rfl
@[simp] theorem State.setDma_boot (n : Nat) (x : DmaSt) : (s.setDma n x).boot = s.boot := rfl
@[simp] theorem State.setDma_sint (n : Nat) (x : DmaSt) : (s.setDma n x).sint = s.sint := rfl
@[simp] theorem State.setDma_cells (n : Nat) (x : DmaSt) : (s.setDma n x).cells = s.cells := rfl
@[simp] theorem State.setDma_dacs (n : Nat) (x : DmaSt) : (s.setDma n x).dacs = s.dacs := rfl
@[simp] theorem State.setDma_closed (n : Nat) (x : DmaSt) : (s.setDma n x).closed = s.closed := rfl
@[simp] theorem State.setDma_wire (n : Nat) (x : DmaSt) : (s.setDma n x).wire = s.wire := rfl
@[simp] theorem State.setDma_conv (n : Nat) (x : DmaSt) : (s.setDma n x).conv = s.conv := rfl
@[simp] theorem State.setDma_seq (n : Nat) (x : DmaSt) : (s.setDma n x).seq = s.seq := rfl
@[simp] theorem State.setDma_filt (n : Nat) (x : DmaSt) : (s.setDma n x).filt = s.filt := rfl
@[simp] theorem State.setDma_region (n : Nat) (x : DmaSt) : (s.setDma n x).region = s.region := rfl
@[simp] theorem State.setDma_fclk (n : Nat) (x : DmaSt) : (s.setDma n x).fclk = s.fclk := rfl
@[simp] theorem State.setDma_rng (n : Nat) (x : DmaSt) : (s.setDma n x).rng = s.rng := rfl
@[simp] theorem State.setDma_sec (n : Nat) (x : DmaSt) : (s.setDma n x).sec = s.sec := rfl
@[simp] theorem State.setDma_img (n : Nat) (x : DmaSt) : (s.setDma n x).img = s.img := rfl
@[simp] theorem State.setDma_uart (n : Nat) (x : DmaSt) : (s.setDma n x).uart = s.uart := rfl
@[simp] theorem State.setDma_pwr (n : Nat) (x : DmaSt) : (s.setDma n x).pwr = s.pwr := rfl
@[simp] theorem State.setDma_tbus (n : Nat) (x : DmaSt) : (s.setDma n x).tbus = s.tbus := rfl
@[simp] theorem State.setDma_tap (n : Nat) (x : DmaSt) : (s.setDma n x).tap = s.tap := rfl

@[simp] theorem State.setSramByte_pending (a : Nat) (b : Byte) : (s.setSramByte a b).pending = s.pending := rfl
@[simp] theorem State.setSramByte_regs (a : Nat) (b : Byte) : (s.setSramByte a b).regs = s.regs := rfl
@[simp] theorem State.setSramByte_now (a : Nat) (b : Byte) : (s.setSramByte a b).now = s.now := rfl
@[simp] theorem State.setSramByte_cyc (a : Nat) (b : Byte) : (s.setSramByte a b).cyc = s.cyc := rfl
@[simp] theorem State.setSramByte_free (a : Nat) (b : Byte) : (s.setSramByte a b).free = s.free := rfl
@[simp] theorem State.setSramByte_tick (a : Nat) (b : Byte) : (s.setSramByte a b).tick = s.tick := rfl
@[simp] theorem State.setSramByte_sets (a : Nat) (b : Byte) : (s.setSramByte a b).sets = s.sets := rfl
@[simp] theorem State.setSramByte_units (a : Nat) (b : Byte) : (s.setSramByte a b).units = s.units := rfl
@[simp] theorem State.setSramByte_fuma (a : Nat) (b : Byte) : (s.setSramByte a b).fuma = s.fuma := rfl
@[simp] theorem State.setSramByte_tr (a : Nat) (b : Byte) : (s.setSramByte a b).tr = s.tr := rfl
@[simp] theorem State.setSramByte_spi (a : Nat) (b : Byte) : (s.setSramByte a b).spi = s.spi := rfl
@[simp] theorem State.setSramByte_jobs (a : Nat) (b : Byte) : (s.setSramByte a b).jobs = s.jobs := rfl
@[simp] theorem State.setSramByte_boot (a : Nat) (b : Byte) : (s.setSramByte a b).boot = s.boot := rfl
@[simp] theorem State.setSramByte_sint (a : Nat) (b : Byte) : (s.setSramByte a b).sint = s.sint := rfl
@[simp] theorem State.setSramByte_cells (a : Nat) (b : Byte) : (s.setSramByte a b).cells = s.cells := rfl
@[simp] theorem State.setSramByte_dacs (a : Nat) (b : Byte) : (s.setSramByte a b).dacs = s.dacs := rfl
@[simp] theorem State.setSramByte_closed (a : Nat) (b : Byte) : (s.setSramByte a b).closed = s.closed := rfl
@[simp] theorem State.setSramByte_wire (a : Nat) (b : Byte) : (s.setSramByte a b).wire = s.wire := rfl
@[simp] theorem State.setSramByte_conv (a : Nat) (b : Byte) : (s.setSramByte a b).conv = s.conv := rfl
@[simp] theorem State.setSramByte_seq (a : Nat) (b : Byte) : (s.setSramByte a b).seq = s.seq := rfl
@[simp] theorem State.setSramByte_filt (a : Nat) (b : Byte) : (s.setSramByte a b).filt = s.filt := rfl
@[simp] theorem State.setSramByte_region (a : Nat) (b : Byte) : (s.setSramByte a b).region = s.region := rfl
@[simp] theorem State.setSramByte_fclk (a : Nat) (b : Byte) : (s.setSramByte a b).fclk = s.fclk := rfl
@[simp] theorem State.setSramByte_rng (a : Nat) (b : Byte) : (s.setSramByte a b).rng = s.rng := rfl
@[simp] theorem State.setSramByte_sec (a : Nat) (b : Byte) : (s.setSramByte a b).sec = s.sec := rfl
@[simp] theorem State.setSramByte_img (a : Nat) (b : Byte) : (s.setSramByte a b).img = s.img := rfl
@[simp] theorem State.setSramByte_uart (a : Nat) (b : Byte) : (s.setSramByte a b).uart = s.uart := rfl
@[simp] theorem State.setSramByte_pwr (a : Nat) (b : Byte) : (s.setSramByte a b).pwr = s.pwr := rfl
@[simp] theorem State.setSramByte_tbus (a : Nat) (b : Byte) : (s.setSramByte a b).tbus = s.tbus := rfl
@[simp] theorem State.setSramByte_tap (a : Nat) (b : Byte) : (s.setSramByte a b).tap = s.tap := rfl

@[simp] theorem State.setPsramByte_pending (a : Nat) (b : Byte) : (s.setPsramByte a b).pending = s.pending := rfl
@[simp] theorem State.setPsramByte_regs (a : Nat) (b : Byte) : (s.setPsramByte a b).regs = s.regs := rfl
@[simp] theorem State.setPsramByte_now (a : Nat) (b : Byte) : (s.setPsramByte a b).now = s.now := rfl
@[simp] theorem State.setPsramByte_cyc (a : Nat) (b : Byte) : (s.setPsramByte a b).cyc = s.cyc := rfl
@[simp] theorem State.setPsramByte_free (a : Nat) (b : Byte) : (s.setPsramByte a b).free = s.free := rfl
@[simp] theorem State.setPsramByte_tick (a : Nat) (b : Byte) : (s.setPsramByte a b).tick = s.tick := rfl
@[simp] theorem State.setPsramByte_sets (a : Nat) (b : Byte) : (s.setPsramByte a b).sets = s.sets := rfl
@[simp] theorem State.setPsramByte_units (a : Nat) (b : Byte) : (s.setPsramByte a b).units = s.units := rfl
@[simp] theorem State.setPsramByte_fuma (a : Nat) (b : Byte) : (s.setPsramByte a b).fuma = s.fuma := rfl
@[simp] theorem State.setPsramByte_tr (a : Nat) (b : Byte) : (s.setPsramByte a b).tr = s.tr := rfl
@[simp] theorem State.setPsramByte_spi (a : Nat) (b : Byte) : (s.setPsramByte a b).spi = s.spi := rfl
@[simp] theorem State.setPsramByte_jobs (a : Nat) (b : Byte) : (s.setPsramByte a b).jobs = s.jobs := rfl
@[simp] theorem State.setPsramByte_boot (a : Nat) (b : Byte) : (s.setPsramByte a b).boot = s.boot := rfl
@[simp] theorem State.setPsramByte_sint (a : Nat) (b : Byte) : (s.setPsramByte a b).sint = s.sint := rfl
@[simp] theorem State.setPsramByte_cells (a : Nat) (b : Byte) : (s.setPsramByte a b).cells = s.cells := rfl
@[simp] theorem State.setPsramByte_dacs (a : Nat) (b : Byte) : (s.setPsramByte a b).dacs = s.dacs := rfl
@[simp] theorem State.setPsramByte_closed (a : Nat) (b : Byte) : (s.setPsramByte a b).closed = s.closed := rfl
@[simp] theorem State.setPsramByte_wire (a : Nat) (b : Byte) : (s.setPsramByte a b).wire = s.wire := rfl
@[simp] theorem State.setPsramByte_conv (a : Nat) (b : Byte) : (s.setPsramByte a b).conv = s.conv := rfl
@[simp] theorem State.setPsramByte_seq (a : Nat) (b : Byte) : (s.setPsramByte a b).seq = s.seq := rfl
@[simp] theorem State.setPsramByte_filt (a : Nat) (b : Byte) : (s.setPsramByte a b).filt = s.filt := rfl
@[simp] theorem State.setPsramByte_region (a : Nat) (b : Byte) : (s.setPsramByte a b).region = s.region := rfl
@[simp] theorem State.setPsramByte_fclk (a : Nat) (b : Byte) : (s.setPsramByte a b).fclk = s.fclk := rfl
@[simp] theorem State.setPsramByte_rng (a : Nat) (b : Byte) : (s.setPsramByte a b).rng = s.rng := rfl
@[simp] theorem State.setPsramByte_sec (a : Nat) (b : Byte) : (s.setPsramByte a b).sec = s.sec := rfl
@[simp] theorem State.setPsramByte_img (a : Nat) (b : Byte) : (s.setPsramByte a b).img = s.img := rfl
@[simp] theorem State.setPsramByte_uart (a : Nat) (b : Byte) : (s.setPsramByte a b).uart = s.uart := rfl
@[simp] theorem State.setPsramByte_pwr (a : Nat) (b : Byte) : (s.setPsramByte a b).pwr = s.pwr := rfl
@[simp] theorem State.setPsramByte_tbus (a : Nat) (b : Byte) : (s.setPsramByte a b).tbus = s.tbus := rfl
@[simp] theorem State.setPsramByte_tap (a : Nat) (b : Byte) : (s.setPsramByte a b).tap = s.tap := rfl

@[simp] theorem State.setFlashByte_pending (a : Nat) (b : Byte) : (s.setFlashByte a b).pending = s.pending := rfl
@[simp] theorem State.setFlashByte_regs (a : Nat) (b : Byte) : (s.setFlashByte a b).regs = s.regs := rfl
@[simp] theorem State.setFlashByte_now (a : Nat) (b : Byte) : (s.setFlashByte a b).now = s.now := rfl
@[simp] theorem State.setFlashByte_cyc (a : Nat) (b : Byte) : (s.setFlashByte a b).cyc = s.cyc := rfl
@[simp] theorem State.setFlashByte_free (a : Nat) (b : Byte) : (s.setFlashByte a b).free = s.free := rfl
@[simp] theorem State.setFlashByte_tick (a : Nat) (b : Byte) : (s.setFlashByte a b).tick = s.tick := rfl
@[simp] theorem State.setFlashByte_sets (a : Nat) (b : Byte) : (s.setFlashByte a b).sets = s.sets := rfl
@[simp] theorem State.setFlashByte_units (a : Nat) (b : Byte) : (s.setFlashByte a b).units = s.units := rfl
@[simp] theorem State.setFlashByte_fuma (a : Nat) (b : Byte) : (s.setFlashByte a b).fuma = s.fuma := rfl
@[simp] theorem State.setFlashByte_tr (a : Nat) (b : Byte) : (s.setFlashByte a b).tr = s.tr := rfl
@[simp] theorem State.setFlashByte_spi (a : Nat) (b : Byte) : (s.setFlashByte a b).spi = s.spi := rfl
@[simp] theorem State.setFlashByte_jobs (a : Nat) (b : Byte) : (s.setFlashByte a b).jobs = s.jobs := rfl
@[simp] theorem State.setFlashByte_boot (a : Nat) (b : Byte) : (s.setFlashByte a b).boot = s.boot := rfl
@[simp] theorem State.setFlashByte_sint (a : Nat) (b : Byte) : (s.setFlashByte a b).sint = s.sint := rfl
@[simp] theorem State.setFlashByte_cells (a : Nat) (b : Byte) : (s.setFlashByte a b).cells = s.cells := rfl
@[simp] theorem State.setFlashByte_dacs (a : Nat) (b : Byte) : (s.setFlashByte a b).dacs = s.dacs := rfl
@[simp] theorem State.setFlashByte_closed (a : Nat) (b : Byte) : (s.setFlashByte a b).closed = s.closed := rfl
@[simp] theorem State.setFlashByte_wire (a : Nat) (b : Byte) : (s.setFlashByte a b).wire = s.wire := rfl
@[simp] theorem State.setFlashByte_conv (a : Nat) (b : Byte) : (s.setFlashByte a b).conv = s.conv := rfl
@[simp] theorem State.setFlashByte_seq (a : Nat) (b : Byte) : (s.setFlashByte a b).seq = s.seq := rfl
@[simp] theorem State.setFlashByte_filt (a : Nat) (b : Byte) : (s.setFlashByte a b).filt = s.filt := rfl
@[simp] theorem State.setFlashByte_region (a : Nat) (b : Byte) : (s.setFlashByte a b).region = s.region := rfl
@[simp] theorem State.setFlashByte_fclk (a : Nat) (b : Byte) : (s.setFlashByte a b).fclk = s.fclk := rfl
@[simp] theorem State.setFlashByte_rng (a : Nat) (b : Byte) : (s.setFlashByte a b).rng = s.rng := rfl
@[simp] theorem State.setFlashByte_sec (a : Nat) (b : Byte) : (s.setFlashByte a b).sec = s.sec := rfl
@[simp] theorem State.setFlashByte_mem (a : Nat) (b : Byte) : (s.setFlashByte a b).mem = s.mem := rfl
@[simp] theorem State.setFlashByte_uart (a : Nat) (b : Byte) : (s.setFlashByte a b).uart = s.uart := rfl
@[simp] theorem State.setFlashByte_pwr (a : Nat) (b : Byte) : (s.setFlashByte a b).pwr = s.pwr := rfl
@[simp] theorem State.setFlashByte_tbus (a : Nat) (b : Byte) : (s.setFlashByte a b).tbus = s.tbus := rfl
@[simp] theorem State.setFlashByte_tap (a : Nat) (b : Byte) : (s.setFlashByte a b).tap = s.tap := rfl

@[simp] theorem State.clearRegs_pending (u : Nat) (keep : Nat → Bool) : (s.clearRegs u keep).pending = s.pending := rfl
@[simp] theorem State.clearRegs_now (u : Nat) (keep : Nat → Bool) : (s.clearRegs u keep).now = s.now := rfl
@[simp] theorem State.clearRegs_cyc (u : Nat) (keep : Nat → Bool) : (s.clearRegs u keep).cyc = s.cyc := rfl
@[simp] theorem State.clearRegs_free (u : Nat) (keep : Nat → Bool) : (s.clearRegs u keep).free = s.free := rfl
@[simp] theorem State.clearRegs_tick (u : Nat) (keep : Nat → Bool) : (s.clearRegs u keep).tick = s.tick := rfl
@[simp] theorem State.clearRegs_sets (u : Nat) (keep : Nat → Bool) : (s.clearRegs u keep).sets = s.sets := rfl
@[simp] theorem State.clearRegs_units (u : Nat) (keep : Nat → Bool) : (s.clearRegs u keep).units = s.units := rfl
@[simp] theorem State.clearRegs_fuma (u : Nat) (keep : Nat → Bool) : (s.clearRegs u keep).fuma = s.fuma := rfl
@[simp] theorem State.clearRegs_tr (u : Nat) (keep : Nat → Bool) : (s.clearRegs u keep).tr = s.tr := rfl
@[simp] theorem State.clearRegs_spi (u : Nat) (keep : Nat → Bool) : (s.clearRegs u keep).spi = s.spi := rfl
@[simp] theorem State.clearRegs_jobs (u : Nat) (keep : Nat → Bool) : (s.clearRegs u keep).jobs = s.jobs := rfl
@[simp] theorem State.clearRegs_boot (u : Nat) (keep : Nat → Bool) : (s.clearRegs u keep).boot = s.boot := rfl
@[simp] theorem State.clearRegs_sint (u : Nat) (keep : Nat → Bool) : (s.clearRegs u keep).sint = s.sint := rfl
@[simp] theorem State.clearRegs_cells (u : Nat) (keep : Nat → Bool) : (s.clearRegs u keep).cells = s.cells := rfl
@[simp] theorem State.clearRegs_dacs (u : Nat) (keep : Nat → Bool) : (s.clearRegs u keep).dacs = s.dacs := rfl
@[simp] theorem State.clearRegs_closed (u : Nat) (keep : Nat → Bool) : (s.clearRegs u keep).closed = s.closed := rfl
@[simp] theorem State.clearRegs_wire (u : Nat) (keep : Nat → Bool) : (s.clearRegs u keep).wire = s.wire := rfl
@[simp] theorem State.clearRegs_conv (u : Nat) (keep : Nat → Bool) : (s.clearRegs u keep).conv = s.conv := rfl
@[simp] theorem State.clearRegs_seq (u : Nat) (keep : Nat → Bool) : (s.clearRegs u keep).seq = s.seq := rfl
@[simp] theorem State.clearRegs_filt (u : Nat) (keep : Nat → Bool) : (s.clearRegs u keep).filt = s.filt := rfl
@[simp] theorem State.clearRegs_region (u : Nat) (keep : Nat → Bool) : (s.clearRegs u keep).region = s.region := rfl
@[simp] theorem State.clearRegs_fclk (u : Nat) (keep : Nat → Bool) : (s.clearRegs u keep).fclk = s.fclk := rfl
@[simp] theorem State.clearRegs_rng (u : Nat) (keep : Nat → Bool) : (s.clearRegs u keep).rng = s.rng := rfl
@[simp] theorem State.clearRegs_sec (u : Nat) (keep : Nat → Bool) : (s.clearRegs u keep).sec = s.sec := rfl
@[simp] theorem State.clearRegs_img (u : Nat) (keep : Nat → Bool) : (s.clearRegs u keep).img = s.img := rfl
@[simp] theorem State.clearRegs_mem (u : Nat) (keep : Nat → Bool) : (s.clearRegs u keep).mem = s.mem := rfl
@[simp] theorem State.clearRegs_uart (u : Nat) (keep : Nat → Bool) : (s.clearRegs u keep).uart = s.uart := rfl
@[simp] theorem State.clearRegs_pwr (u : Nat) (keep : Nat → Bool) : (s.clearRegs u keep).pwr = s.pwr := rfl
@[simp] theorem State.clearRegs_tbus (u : Nat) (keep : Nat → Bool) : (s.clearRegs u keep).tbus = s.tbus := rfl
@[simp] theorem State.clearRegs_tap (u : Nat) (keep : Nat → Bool) : (s.clearRegs u keep).tap = s.tap := rfl

@[simp] theorem State.useFree_pending (n : Nat) : (s.useFree n).pending = s.pending := rfl
@[simp] theorem State.useFree_regs (n : Nat) : (s.useFree n).regs = s.regs := rfl
@[simp] theorem State.useFree_now (n : Nat) : (s.useFree n).now = s.now := rfl
@[simp] theorem State.useFree_cyc (n : Nat) : (s.useFree n).cyc = s.cyc := rfl
@[simp] theorem State.useFree_tick (n : Nat) : (s.useFree n).tick = s.tick := rfl
@[simp] theorem State.useFree_sets (n : Nat) : (s.useFree n).sets = s.sets := rfl
@[simp] theorem State.useFree_units (n : Nat) : (s.useFree n).units = s.units := rfl
@[simp] theorem State.useFree_fuma (n : Nat) : (s.useFree n).fuma = s.fuma := rfl
@[simp] theorem State.useFree_tr (n : Nat) : (s.useFree n).tr = s.tr := rfl
@[simp] theorem State.useFree_spi (n : Nat) : (s.useFree n).spi = s.spi := rfl
@[simp] theorem State.useFree_jobs (n : Nat) : (s.useFree n).jobs = s.jobs := rfl
@[simp] theorem State.useFree_boot (n : Nat) : (s.useFree n).boot = s.boot := rfl
@[simp] theorem State.useFree_sint (n : Nat) : (s.useFree n).sint = s.sint := rfl
@[simp] theorem State.useFree_cells (n : Nat) : (s.useFree n).cells = s.cells := rfl
@[simp] theorem State.useFree_dacs (n : Nat) : (s.useFree n).dacs = s.dacs := rfl
@[simp] theorem State.useFree_closed (n : Nat) : (s.useFree n).closed = s.closed := rfl
@[simp] theorem State.useFree_wire (n : Nat) : (s.useFree n).wire = s.wire := rfl
@[simp] theorem State.useFree_conv (n : Nat) : (s.useFree n).conv = s.conv := rfl
@[simp] theorem State.useFree_seq (n : Nat) : (s.useFree n).seq = s.seq := rfl
@[simp] theorem State.useFree_filt (n : Nat) : (s.useFree n).filt = s.filt := rfl
@[simp] theorem State.useFree_region (n : Nat) : (s.useFree n).region = s.region := rfl
@[simp] theorem State.useFree_fclk (n : Nat) : (s.useFree n).fclk = s.fclk := rfl
@[simp] theorem State.useFree_rng (n : Nat) : (s.useFree n).rng = s.rng := rfl
@[simp] theorem State.useFree_sec (n : Nat) : (s.useFree n).sec = s.sec := rfl
@[simp] theorem State.useFree_img (n : Nat) : (s.useFree n).img = s.img := rfl
@[simp] theorem State.useFree_mem (n : Nat) : (s.useFree n).mem = s.mem := rfl
@[simp] theorem State.useFree_uart (n : Nat) : (s.useFree n).uart = s.uart := rfl
@[simp] theorem State.useFree_pwr (n : Nat) : (s.useFree n).pwr = s.pwr := rfl
@[simp] theorem State.useFree_tbus (n : Nat) : (s.useFree n).tbus = s.tbus := rfl
@[simp] theorem State.useFree_tap (n : Nat) : (s.useFree n).tap = s.tap := rfl

end Sys2Proof.Machine
end

