-- ==== Sys2Proof/Laws/Ops.lean ====
section
/-! SUPPORT. The laws of the shared operations: canonical maps, registers, memories, events and the clock. -/

namespace Sys2Proof.Machine

/-! ### Canonical maps -/

section Maps

variable {α : Type} [DecidableEq α] {d : α}

theorem wfFrom_mono {lo lo' : Nat} (h : lo' ≤ lo) {m : List (Nat × α)} (hm : wfFrom d lo m = true) :
    wfFrom d lo' m = true := by
  cases m with
  | nil => rfl
  | cons p t =>
    simp only [wfFrom, Bool.and_eq_true, decide_eq_true_eq] at hm ⊢
    exact ⟨⟨by omega, hm.1.2⟩, hm.2⟩

theorem lookup_low {lo k : Nat} (h : k < lo) {m : List (Nat × α)} (hm : wfFrom d lo m = true) : lookup d m k = d := by
  cases m with
  | nil => rfl
  | cons p t =>
    simp only [wfFrom, Bool.and_eq_true, decide_eq_true_eq] at hm
    simp only [lookup]
    rw [if_pos (by omega)]

theorem wfFrom_insert {k : Nat} (v : α) : ∀ {m : List (Nat × α)} {lo : Nat}, lo ≤ k →
    wfFrom d lo m = true → wfFrom d lo (insert d m k v) = true
  | [], _, hk, _ => by
    by_cases h : v = d <;> simp [insert, wfFrom, h, hk]
  | (a, x) :: t, lo, hk, hm => by
    simp only [wfFrom, Bool.and_eq_true, decide_eq_true_eq] at hm
    obtain ⟨⟨h1, h2⟩, h3⟩ := hm
    simp only [insert]
    by_cases c1 : k < a
    · by_cases h : v = d
      · simp [c1, h, wfFrom, h1, h2, h3]
      · have : wfFrom d (a + 1) t = true := h3
        simp only [if_pos c1, if_neg h, wfFrom, Bool.and_eq_true, decide_eq_true_eq]
        exact ⟨⟨hk, h⟩, ⟨by omega, h2⟩, h3⟩
    · by_cases c2 : k = a
      · subst c2
        by_cases h : v = d
        · simpa [h] using wfFrom_mono (by omega) h3
        · simp only [if_neg c1, if_true, if_neg h, wfFrom, Bool.and_eq_true, decide_eq_true_eq]
          exact ⟨⟨h1, h⟩, h3⟩
      · simp only [if_neg c1, if_neg c2, wfFrom, Bool.and_eq_true, decide_eq_true_eq]
        exact ⟨⟨h1, h2⟩, wfFrom_insert v (by omega) h3⟩

/-- Replacing a value keeps the canonical form. -/
theorem wfMap_insert {m : List (Nat × α)} (hm : wfMap d m = true) (k : Nat) (v : α) :
    wfMap d (insert d m k v) = true := wfFrom_insert v (Nat.zero_le _) hm

theorem lookup_insert_from (k j : Nat) (v : α) : ∀ {m : List (Nat × α)} {lo : Nat}, wfFrom d lo m = true →
    lookup d (insert d m k v) j = if j = k then v else lookup d m j
  | [], _, _ => by
    by_cases h : v = d
    · subst h
      simp [insert, lookup]
    · simp only [insert, if_neg h, lookup]
      grind
  | (a, x) :: t, lo, hm => by
    simp only [wfFrom, Bool.and_eq_true, decide_eq_true_eq] at hm
    obtain ⟨⟨_, _⟩, h3⟩ := hm
    have hlow : j ≤ a → lookup d t j = d := fun h => lookup_low (by omega) h3
    have ih := lookup_insert_from k j v h3
    simp only [insert]
    by_cases c1 : k < a
    · by_cases h : v = d
      · subst h
        simp only [if_pos c1, if_true, lookup]
        by_cases e : j = k
        · subst e
          simp [c1]
        · simp [e]
      · simp only [if_pos c1, if_neg h, lookup]
        by_cases e : j = k
        · simp [e]
        · by_cases l : j < k
          · simp [e, l, show j < a by omega]
          · simp [e, l]
    · by_cases c2 : k = a
      · subst c2
        by_cases h : v = d
        · subst h
          simp only [if_neg c1, if_true, lookup]
          by_cases e : j = k
          · subst e
            simp [hlow (Nat.le_refl _)]
          · by_cases l : j < k
            · simp [e, l, hlow (by omega)]
            · simp [e, l]
        · simp only [if_neg c1, if_true, if_neg h, lookup]
          by_cases e : j = k
          · subst e
            simp
          · simp [e]
      · simp only [if_neg c1, if_neg c2, lookup]
        by_cases l : j < a
        · simp [l, show j ≠ k by omega]
        · by_cases e2 : j = a
          · subst e2
            simp [show j ≠ k by omega]
          · simp [l, e2, ih]

/-- What a canonical map reads after a value is replaced. -/
theorem lookup_insert {m : List (Nat × α)} (hm : wfMap d m = true) (k j : Nat) (v : α) :
    lookup d (insert d m k v) j = if j = k then v else lookup d m j := lookup_insert_from k j v hm

theorem wfFrom_filter (f : Nat × α → Bool) : ∀ {m : List (Nat × α)} {lo : Nat}, wfFrom d lo m = true →
    wfFrom d lo (m.filter f) = true
  | [], _, _ => rfl
  | (a, x) :: t, lo, hm => by
    simp only [wfFrom, Bool.and_eq_true, decide_eq_true_eq] at hm
    have ih := wfFrom_filter f hm.2
    by_cases c : f (a, x) = true
    · simp only [List.filter, c, wfFrom, Bool.and_eq_true, decide_eq_true_eq]
      exact ⟨hm.1, ih⟩
    · simp only [List.filter, c]
      exact wfFrom_mono (by omega) ih

/-- Removing entries keeps the canonical form. -/
theorem wfMap_filter {m : List (Nat × α)} (hm : wfMap d m = true) (f : Nat × α → Bool) :
    wfMap d (m.filter f) = true := wfFrom_filter f hm

end Maps

/-! ### Registers -/

theorem wfRegsFrom_mono {lo lo' : Nat} (h : lo' ≤ lo) {m : List (Nat × Word)} (hm : wfRegsFrom lo m = true) :
    wfRegsFrom lo' m = true := by
  cases m with
  | nil => rfl
  | cons p t =>
    simp only [wfRegsFrom, Bool.and_eq_true, decide_eq_true_eq] at hm ⊢
    exact ⟨⟨by omega, hm.1.2⟩, hm.2⟩

theorem wfRegsFrom_insertReg (k : Nat) (v : Word) : ∀ {m : List (Nat × Word)} {lo : Nat}, lo ≤ k →
    wfRegsFrom lo m = true → wfRegsFrom lo (insertReg m k v) = true
  | [], _, hk, _ => by
    by_cases h : v = resetOf k
    · simp [insertReg, wfRegsFrom, h]
    · simp [insertReg, wfRegsFrom, h, hk]
  | (a, x) :: t, lo, hk, hm => by
    simp only [wfRegsFrom, Bool.and_eq_true, decide_eq_true_eq] at hm
    obtain ⟨⟨h1, h2⟩, h3⟩ := hm
    simp only [insertReg]
    by_cases c1 : k < a
    · by_cases h : v = resetOf k
      · simp [c1, h, wfRegsFrom, h1, h2, h3]
      · simp only [if_pos c1, if_neg h, wfRegsFrom, Bool.and_eq_true, decide_eq_true_eq]
        exact ⟨⟨hk, h⟩, ⟨by omega, h2⟩, h3⟩
    · by_cases c2 : k = a
      · subst c2
        by_cases h : v = resetOf k
        · simp only [if_neg c1, if_true, if_pos h]
          exact wfRegsFrom_mono (by omega) h3
        · simp only [if_neg c1, if_true, if_neg h, wfRegsFrom, Bool.and_eq_true, decide_eq_true_eq]
          exact ⟨⟨h1, h⟩, h3⟩
      · simp only [if_neg c1, if_neg c2, wfRegsFrom, Bool.and_eq_true, decide_eq_true_eq]
        exact ⟨⟨h1, h2⟩, wfRegsFrom_insertReg k v (by omega) h3⟩

theorem lookupReg_low {lo k : Nat} (h : k < lo) {m : List (Nat × Word)} (hm : wfRegsFrom lo m = true) :
    lookupReg m k = resetOf k := by
  cases m with
  | nil => rfl
  | cons p t =>
    simp only [wfRegsFrom, Bool.and_eq_true, decide_eq_true_eq] at hm
    simp only [lookupReg]
    rw [if_pos (by omega)]

theorem lookupReg_insertReg (k j : Nat) (v : Word) : ∀ {m : List (Nat × Word)} {lo : Nat}, wfRegsFrom lo m = true →
    lookupReg (insertReg m k v) j = if j = k then v else lookupReg m j
  | [], _, _ => by
    by_cases h : v = resetOf k
    · by_cases e : j = k
      · simp [insertReg, h, lookupReg, e]
      · simp [insertReg, h, lookupReg, e]
    · simp only [insertReg, if_neg h, lookupReg]
      by_cases e : j = k
      · simp [e]
      · simp [e]
  | (a, x) :: t, lo, hm => by
    simp only [wfRegsFrom, Bool.and_eq_true, decide_eq_true_eq] at hm
    obtain ⟨⟨_, _⟩, h3⟩ := hm
    have hlow : j ≤ a → lookupReg t j = resetOf j := fun h => lookupReg_low (by omega) h3
    have ih := lookupReg_insertReg k j v h3
    simp only [insertReg]
    by_cases c1 : k < a
    · by_cases h : v = resetOf k
      · simp only [if_pos c1, if_pos h, lookupReg]
        by_cases e : j = k
        · subst e
          simp [c1, h]
        · simp [e]
      · simp only [if_pos c1, if_neg h, lookupReg]
        by_cases e : j = k
        · simp [e]
        · by_cases l : j < k
          · simp [e, l, show j < a by omega]
          · simp [e, l]
    · by_cases c2 : k = a
      · subst c2
        by_cases h : v = resetOf k
        · simp only [if_neg c1, if_true, if_pos h, lookupReg]
          by_cases e : j = k
          · subst e
            simp [hlow (Nat.le_refl _), h]
          · by_cases l : j < k
            · simp [e, l, hlow (by omega)]
            · simp [e, l]
        · simp only [if_neg c1, if_true, if_neg h, lookupReg]
          by_cases e : j = k
          · subst e
            simp
          · simp [e]
      · simp only [if_neg c1, if_neg c2, lookupReg]
        by_cases l : j < a
        · simp [l, show j ≠ k by omega]
        · by_cases e2 : j = a
          · subst e2
            simp [show j ≠ k by omega]
          · simp [l, e2, ih]

/-- What a register reads after a register has been written. -/
theorem State.reg_setReg {s : State} (hs : s.regsWf = true) (id sub jd jsub : Nat) (v : Word) :
    (s.setReg id sub v).reg jd jsub = if regKey jd jsub = regKey id sub then v else s.reg jd jsub :=
  lookupReg_insertReg _ _ v hs

/-- A register reads what was written to it. -/
theorem State.reg_setReg_same {s : State} (hs : s.regsWf = true) (id sub : Nat) (v : Word) :
    (s.setReg id sub v).reg id sub = v := by simp [State.reg_setReg hs]

/-- Writing a register keeps the register file's canonical form. -/
theorem State.regsWf_setReg {s : State} (hs : s.regsWf = true) (id sub : Nat) (v : Word) :
    (s.setReg id sub v).regsWf = true := wfRegsFrom_insertReg _ v (Nat.zero_le _) hs

/-! ### Memories -/

/-- What an SRAM byte reads after a byte has been written. -/
theorem State.sramByte_set {s : State} (hs : Memory.wf sramDefault s.mem.sram = true) (a j : Nat) (b : Byte) :
    (s.setSramByte a b).sramByte j = if j = a then b else s.sramByte j := lookup_insert hs a j b

theorem State.psramByte_set {s : State} (hs : Memory.wf psramDefault s.mem.psram = true) (a j : Nat) (b : Byte) :
    (s.setPsramByte a b).psramByte j = if j = a then b else s.psramByte j := lookup_insert hs a j b

theorem State.flashByte_set {s : State} (hs : Memory.wf flashDefault s.img.flash = true) (a j : Nat) (b : Byte) :
    (s.setFlashByte a b).flashByte j = if j = a then b else s.flashByte j := lookup_insert hs a j b

theorem State.memoryWf_iff (s : State) : s.memoryWf = true ↔ Memory.wf sramDefault s.mem.sram = true ∧
    Memory.wf psramDefault s.mem.psram = true ∧ Memory.wf flashDefault s.img.flash = true := by
  simp [State.memoryWf, and_assoc]

/-- Every write of a byte keeps the canonical form of the memories. -/
theorem State.memoryWf_setSramByte {s : State} (hs : s.memoryWf = true) (a : Nat) (b : Byte) :
    (s.setSramByte a b).memoryWf = true := by
  rw [State.memoryWf_iff] at hs ⊢
  exact ⟨wfMap_insert hs.1 a b, hs.2.1, hs.2.2⟩

theorem State.memoryWf_setPsramByte {s : State} (hs : s.memoryWf = true) (a : Nat) (b : Byte) :
    (s.setPsramByte a b).memoryWf = true := by
  rw [State.memoryWf_iff] at hs ⊢
  exact ⟨hs.1, wfMap_insert hs.2.1 a b, hs.2.2⟩

theorem State.memoryWf_setFlashByte {s : State} (hs : s.memoryWf = true) (a : Nat) (b : Byte) :
    (s.setFlashByte a b).memoryWf = true := by
  rw [State.memoryWf_iff] at hs ⊢
  exact ⟨hs.1, hs.2.1, wfMap_insert hs.2.2 a b⟩

/-- Bytes written one after the other keep what each of the writes keeps. -/
theorem State.writeBytes_keeps {P : State → Prop} {f : State → Nat → Byte → State}
    (hf : ∀ s a b, P s → P (f s a b)) : ∀ (bs : List Byte) (s : State) (a : Nat), P s → P (s.writeBytes f a bs)
  | [], _, _, h => h
  | b :: bs, s, a, h => State.writeBytes_keeps hf bs (f s a b) (a + 1) (hf s a b h)

theorem State.memoryWf_setSramWord {s : State} (hs : s.memoryWf = true) (a : Nat) (w : Word) :
    (s.setSramWord a w).memoryWf = true := by
  unfold State.setSramWord
  exact State.writeBytes_keeps (P := fun s => s.memoryWf = true)
    (fun _ a b h => State.memoryWf_setSramByte h a b) w.bytes s a hs

theorem State.memoryWf_setPsramWord {s : State} (hs : s.memoryWf = true) (a : Nat) (w : Word) :
    (s.setPsramWord a w).memoryWf = true := by
  unfold State.setPsramWord
  exact State.writeBytes_keeps (P := fun s => s.memoryWf = true)
    (fun _ a b h => State.memoryWf_setPsramByte h a b) w.bytes s a hs

/-- Bytes written outside an address leave its byte. -/
theorem State.sramByte_writeBytes : ∀ (bs : List Byte) {s : State}, s.memoryWf = true →
    ∀ (a j : Nat), (j < a ∨ a + bs.length ≤ j) → (s.writeBytes State.setSramByte a bs).sramByte j = s.sramByte j
  | [], _, _, _, _, _ => rfl
  | b :: bs, s, h, a, j, hj => by
    have h1 := State.sramByte_writeBytes bs (State.memoryWf_setSramByte h a b) (a + 1) j
      (by simp only [List.length_cons] at hj; omega)
    rw [State.writeBytes, h1, State.sramByte_set ((State.memoryWf_iff s).1 h).1]
    rw [if_neg (by simp only [List.length_cons] at hj; omega)]

/-- The canonical form holds of the memories at reset. -/
theorem State.memoryWf_reset : State.reset.memoryWf = true := by decide

/-! ### Steps over a list -/

/-- What each step of `each` keeps, `each` keeps. -/
theorem State.each_keeps {α : Type} {P : State → Prop} {f : State → α → State} (hf : ∀ s a, P s → P (f s a)) :
    ∀ (l : List α) (s : State), P s → P (s.each l f)
  | [], _, h => h
  | a :: l, s, h => State.each_keeps hf l (f s a) (hf s a h)

/-- A projection that each step of `each` leaves, `each` leaves. -/
theorem State.each_proj {α β : Type} {p : State → β} {f : State → α → State} (hf : ∀ s a, p (f s a) = p s)
    (l : List α) (s : State) : p (s.each l f) = p s :=
  State.each_keeps (P := fun z => p z = p s) (fun z a h => (hf z a).trans h) l s rfl

/-! ### Events -/

/-- What an event that enters the buffer, or is lost, changes: the buffer and the count of lost events (R362). -/
theorem State.enter_regs (s : State) (e : Event) :
    (s.enter e).regs = s.regs ∨ (s.enter e).regs = (s.bump 0x0603).regs := by
  by_cases h : (insertEvent e s.fuma.buf).length ≤ 32
  · exact .inl (by simp [State.enter, h])
  · exact .inr (by simp only [State.enter, h, if_false]; rfl)

@[simp] theorem insertEvent_length (e : Event) : ∀ l : List Event, (insertEvent e l).length = l.length + 1
  | [] => rfl
  | x :: t => by
    unfold insertEvent
    split
    · rfl
    · simp [insertEvent_length e t]

end Sys2Proof.Machine
end

