-- ==== Sys2Proof/Laws/Clock.lean ====
section
/-! SUPPORT. What an event, the log's intake and the passing of time leave as it was, and what they change. -/

namespace Sys2Proof.Machine

variable (s : State)

/-! ### What each of them can change -/

theorem State.enter_eq (e : Event) :
    s.enter e = { s with fuma := (s.enter e).fuma, regs := (s.enter e).regs } := by
  by_cases h : (insertEvent e s.fuma.buf).length ≤ 32
  · simp only [State.enter, h, if_true]
  · simp only [State.enter, h, if_false]
    rfl

theorem State.takeEvent_eq :
    s.takeEvent = { s with fuma := s.takeEvent.fuma, regs := s.takeEvent.regs } := by
  rcases h : s.fuma.buf with _ | ⟨e, t⟩
  · simp only [State.takeEvent, h]
  · have key : ∃ (f : FumaSt) (r : List (Nat × Word)), s.takeEvent = { s with fuma := f, regs := r } := by
      simp only [State.takeEvent, h]
      repeat' split
      all_goals exact ⟨_, _, rfl⟩
    obtain ⟨f, r, hk⟩ := key
    rw [hk]

theorem State.takeEvents_eq : ∀ (n : Nat) (s : State),
    s.takeEvents n = { s with fuma := (s.takeEvents n).fuma, regs := (s.takeEvents n).regs }
  | 0, _ => rfl
  | n + 1, s => by
    have h := State.takeEvents_eq n s.takeEvent
    rw [State.takeEvent_eq s] at h
    rw [State.takeEvents, State.takeEvent_eq s]
    exact h

theorem State.fabricStep_eq (t : Nat) : s.fabricStep t = { s with region := (s.fabricStep t).region } := by
  unfold State.fabricStep
  simp only
  split
  · rfl
  · exact State.each_keeps (P := fun z => z = { s with region := z.region }) (fun z r h => by rw [h]; rfl) _ _ rfl

theorem State.fabricRun_eq (n : Nat) : s.fabricRun n = { s with region := (s.fabricRun n).region } := by
  unfold State.fabricRun
  split
  · rfl
  · refine State.each_keeps (P := fun z => z = { s with region := z.region }) (fun z t h => ?_) _ _ rfl
    rw [State.fabricStep_eq, h]

/-- Everything that the passing of time can change: the clock, the log with its registers, and the fabric. -/
theorem State.elapse_eq (n : Nat) : s.elapse n = { s with
    now := s.now + n, cyc := s.cyc + n, fuma := (s.elapse n).fuma, regs := (s.elapse n).regs,
    region := (s.elapse n).region } := by
  have h := State.takeEvents_eq (min n 32)
    { s.fabricRun n with now := (s.fabricRun n).now + n, cyc := (s.fabricRun n).cyc + n }
  have h2 := State.fabricRun_eq s n
  unfold State.elapse
  simp only
  rw [h]
  rw [h2]

theorem State.reach_eq (t : Nat) : s.reach t = s.elapse (t - s.now) := rfl

@[simp] theorem State.elapse_now (n : Nat) : (s.elapse n).now = s.now + n := by rw [State.elapse_eq]
@[simp] theorem State.elapse_cyc (n : Nat) : (s.elapse n).cyc = s.cyc + n := by rw [State.elapse_eq]
theorem State.reach_now (t : Nat) : (s.reach t).now = max s.now t := by
  rw [State.reach_eq, State.elapse_now]; omega

/-! ### Field by field -/

@[simp] theorem State.bump_pending (id sub : Nat) : (s.bump id sub).pending = s.pending := rfl
@[simp] theorem State.bump_now (id sub : Nat) : (s.bump id sub).now = s.now := rfl
@[simp] theorem State.bump_cyc (id sub : Nat) : (s.bump id sub).cyc = s.cyc := rfl
@[simp] theorem State.bump_free (id sub : Nat) : (s.bump id sub).free = s.free := rfl
@[simp] theorem State.bump_tick (id sub : Nat) : (s.bump id sub).tick = s.tick := rfl
@[simp] theorem State.bump_sets (id sub : Nat) : (s.bump id sub).sets = s.sets := rfl
@[simp] theorem State.bump_units (id sub : Nat) : (s.bump id sub).units = s.units := rfl
@[simp] theorem State.bump_fuma (id sub : Nat) : (s.bump id sub).fuma = s.fuma := rfl
@[simp] theorem State.bump_tr (id sub : Nat) : (s.bump id sub).tr = s.tr := rfl
@[simp] theorem State.bump_spi (id sub : Nat) : (s.bump id sub).spi = s.spi := rfl
@[simp] theorem State.bump_jobs (id sub : Nat) : (s.bump id sub).jobs = s.jobs := rfl
@[simp] theorem State.bump_boot (id sub : Nat) : (s.bump id sub).boot = s.boot := rfl
@[simp] theorem State.bump_sint (id sub : Nat) : (s.bump id sub).sint = s.sint := rfl
@[simp] theorem State.bump_cells (id sub : Nat) : (s.bump id sub).cells = s.cells := rfl
@[simp] theorem State.bump_dacs (id sub : Nat) : (s.bump id sub).dacs = s.dacs := rfl
@[simp] theorem State.bump_closed (id sub : Nat) : (s.bump id sub).closed = s.closed := rfl
@[simp] theorem State.bump_wire (id sub : Nat) : (s.bump id sub).wire = s.wire := rfl
@[simp] theorem State.bump_conv (id sub : Nat) : (s.bump id sub).conv = s.conv := rfl
@[simp] theorem State.bump_seq (id sub : Nat) : (s.bump id sub).seq = s.seq := rfl
@[simp] theorem State.bump_filt (id sub : Nat) : (s.bump id sub).filt = s.filt := rfl
@[simp] theorem State.bump_region (id sub : Nat) : (s.bump id sub).region = s.region := rfl
@[simp] theorem State.bump_fclk (id sub : Nat) : (s.bump id sub).fclk = s.fclk := rfl
@[simp] theorem State.bump_rng (id sub : Nat) : (s.bump id sub).rng = s.rng := rfl
@[simp] theorem State.bump_sec (id sub : Nat) : (s.bump id sub).sec = s.sec := rfl
@[simp] theorem State.bump_img (id sub : Nat) : (s.bump id sub).img = s.img := rfl
@[simp] theorem State.bump_mem (id sub : Nat) : (s.bump id sub).mem = s.mem := rfl
@[simp] theorem State.bump_uart (id sub : Nat) : (s.bump id sub).uart = s.uart := rfl
@[simp] theorem State.bump_pwr (id sub : Nat) : (s.bump id sub).pwr = s.pwr := rfl
@[simp] theorem State.bump_tbus (id sub : Nat) : (s.bump id sub).tbus = s.tbus := rfl
@[simp] theorem State.bump_tap (id sub : Nat) : (s.bump id sub).tap = s.tap := rfl

@[simp] theorem State.setRegBit_pending (id sub i : Nat) (b : Bool) : (s.setRegBit id sub i b).pending = s.pending := rfl
@[simp] theorem State.setRegBit_now (id sub i : Nat) (b : Bool) : (s.setRegBit id sub i b).now = s.now := rfl
@[simp] theorem State.setRegBit_cyc (id sub i : Nat) (b : Bool) : (s.setRegBit id sub i b).cyc = s.cyc := rfl
@[simp] theorem State.setRegBit_free (id sub i : Nat) (b : Bool) : (s.setRegBit id sub i b).free = s.free := rfl
@[simp] theorem State.setRegBit_tick (id sub i : Nat) (b : Bool) : (s.setRegBit id sub i b).tick = s.tick := rfl
@[simp] theorem State.setRegBit_sets (id sub i : Nat) (b : Bool) : (s.setRegBit id sub i b).sets = s.sets := rfl
@[simp] theorem State.setRegBit_units (id sub i : Nat) (b : Bool) : (s.setRegBit id sub i b).units = s.units := rfl
@[simp] theorem State.setRegBit_fuma (id sub i : Nat) (b : Bool) : (s.setRegBit id sub i b).fuma = s.fuma := rfl
@[simp] theorem State.setRegBit_tr (id sub i : Nat) (b : Bool) : (s.setRegBit id sub i b).tr = s.tr := rfl
@[simp] theorem State.setRegBit_spi (id sub i : Nat) (b : Bool) : (s.setRegBit id sub i b).spi = s.spi := rfl
@[simp] theorem State.setRegBit_jobs (id sub i : Nat) (b : Bool) : (s.setRegBit id sub i b).jobs = s.jobs := rfl
@[simp] theorem State.setRegBit_boot (id sub i : Nat) (b : Bool) : (s.setRegBit id sub i b).boot = s.boot := rfl
@[simp] theorem State.setRegBit_sint (id sub i : Nat) (b : Bool) : (s.setRegBit id sub i b).sint = s.sint := rfl
@[simp] theorem State.setRegBit_cells (id sub i : Nat) (b : Bool) : (s.setRegBit id sub i b).cells = s.cells := rfl
@[simp] theorem State.setRegBit_dacs (id sub i : Nat) (b : Bool) : (s.setRegBit id sub i b).dacs = s.dacs := rfl
@[simp] theorem State.setRegBit_closed (id sub i : Nat) (b : Bool) : (s.setRegBit id sub i b).closed = s.closed := rfl
@[simp] theorem State.setRegBit_wire (id sub i : Nat) (b : Bool) : (s.setRegBit id sub i b).wire = s.wire := rfl
@[simp] theorem State.setRegBit_conv (id sub i : Nat) (b : Bool) : (s.setRegBit id sub i b).conv = s.conv := rfl
@[simp] theorem State.setRegBit_seq (id sub i : Nat) (b : Bool) : (s.setRegBit id sub i b).seq = s.seq := rfl
@[simp] theorem State.setRegBit_filt (id sub i : Nat) (b : Bool) : (s.setRegBit id sub i b).filt = s.filt := rfl
@[simp] theorem State.setRegBit_region (id sub i : Nat) (b : Bool) : (s.setRegBit id sub i b).region = s.region := rfl
@[simp] theorem State.setRegBit_fclk (id sub i : Nat) (b : Bool) : (s.setRegBit id sub i b).fclk = s.fclk := rfl
@[simp] theorem State.setRegBit_rng (id sub i : Nat) (b : Bool) : (s.setRegBit id sub i b).rng = s.rng := rfl
@[simp] theorem State.setRegBit_sec (id sub i : Nat) (b : Bool) : (s.setRegBit id sub i b).sec = s.sec := rfl
@[simp] theorem State.setRegBit_img (id sub i : Nat) (b : Bool) : (s.setRegBit id sub i b).img = s.img := rfl
@[simp] theorem State.setRegBit_mem (id sub i : Nat) (b : Bool) : (s.setRegBit id sub i b).mem = s.mem := rfl
@[simp] theorem State.setRegBit_uart (id sub i : Nat) (b : Bool) : (s.setRegBit id sub i b).uart = s.uart := rfl
@[simp] theorem State.setRegBit_pwr (id sub i : Nat) (b : Bool) : (s.setRegBit id sub i b).pwr = s.pwr := rfl
@[simp] theorem State.setRegBit_tbus (id sub i : Nat) (b : Bool) : (s.setRegBit id sub i b).tbus = s.tbus := rfl
@[simp] theorem State.setRegBit_tap (id sub i : Nat) (b : Bool) : (s.setRegBit id sub i b).tap = s.tap := rfl

@[simp] theorem State.emit_pending (u : Nat) (ev : Nat × Nat) (d : Nat) : (s.emit u ev d).pending = s.pending := by rw [State.emit, State.enter_eq]
@[simp] theorem State.emit_now (u : Nat) (ev : Nat × Nat) (d : Nat) : (s.emit u ev d).now = s.now := by rw [State.emit, State.enter_eq]
@[simp] theorem State.emit_cyc (u : Nat) (ev : Nat × Nat) (d : Nat) : (s.emit u ev d).cyc = s.cyc := by rw [State.emit, State.enter_eq]
@[simp] theorem State.emit_free (u : Nat) (ev : Nat × Nat) (d : Nat) : (s.emit u ev d).free = s.free := by rw [State.emit, State.enter_eq]
@[simp] theorem State.emit_tick (u : Nat) (ev : Nat × Nat) (d : Nat) : (s.emit u ev d).tick = s.tick := by rw [State.emit, State.enter_eq]
@[simp] theorem State.emit_sets (u : Nat) (ev : Nat × Nat) (d : Nat) : (s.emit u ev d).sets = s.sets := by rw [State.emit, State.enter_eq]
@[simp] theorem State.emit_units (u : Nat) (ev : Nat × Nat) (d : Nat) : (s.emit u ev d).units = s.units := by rw [State.emit, State.enter_eq]
@[simp] theorem State.emit_tr (u : Nat) (ev : Nat × Nat) (d : Nat) : (s.emit u ev d).tr = s.tr := by rw [State.emit, State.enter_eq]
@[simp] theorem State.emit_spi (u : Nat) (ev : Nat × Nat) (d : Nat) : (s.emit u ev d).spi = s.spi := by rw [State.emit, State.enter_eq]
@[simp] theorem State.emit_jobs (u : Nat) (ev : Nat × Nat) (d : Nat) : (s.emit u ev d).jobs = s.jobs := by rw [State.emit, State.enter_eq]
@[simp] theorem State.emit_boot (u : Nat) (ev : Nat × Nat) (d : Nat) : (s.emit u ev d).boot = s.boot := by rw [State.emit, State.enter_eq]
@[simp] theorem State.emit_sint (u : Nat) (ev : Nat × Nat) (d : Nat) : (s.emit u ev d).sint = s.sint := by rw [State.emit, State.enter_eq]
@[simp] theorem State.emit_cells (u : Nat) (ev : Nat × Nat) (d : Nat) : (s.emit u ev d).cells = s.cells := by rw [State.emit, State.enter_eq]
@[simp] theorem State.emit_dacs (u : Nat) (ev : Nat × Nat) (d : Nat) : (s.emit u ev d).dacs = s.dacs := by rw [State.emit, State.enter_eq]
@[simp] theorem State.emit_closed (u : Nat) (ev : Nat × Nat) (d : Nat) : (s.emit u ev d).closed = s.closed := by rw [State.emit, State.enter_eq]
@[simp] theorem State.emit_wire (u : Nat) (ev : Nat × Nat) (d : Nat) : (s.emit u ev d).wire = s.wire := by rw [State.emit, State.enter_eq]
@[simp] theorem State.emit_conv (u : Nat) (ev : Nat × Nat) (d : Nat) : (s.emit u ev d).conv = s.conv := by rw [State.emit, State.enter_eq]
@[simp] theorem State.emit_seq (u : Nat) (ev : Nat × Nat) (d : Nat) : (s.emit u ev d).seq = s.seq := by rw [State.emit, State.enter_eq]
@[simp] theorem State.emit_filt (u : Nat) (ev : Nat × Nat) (d : Nat) : (s.emit u ev d).filt = s.filt := by rw [State.emit, State.enter_eq]
@[simp] theorem State.emit_region (u : Nat) (ev : Nat × Nat) (d : Nat) : (s.emit u ev d).region = s.region := by rw [State.emit, State.enter_eq]
@[simp] theorem State.emit_fclk (u : Nat) (ev : Nat × Nat) (d : Nat) : (s.emit u ev d).fclk = s.fclk := by rw [State.emit, State.enter_eq]
@[simp] theorem State.emit_rng (u : Nat) (ev : Nat × Nat) (d : Nat) : (s.emit u ev d).rng = s.rng := by rw [State.emit, State.enter_eq]
@[simp] theorem State.emit_sec (u : Nat) (ev : Nat × Nat) (d : Nat) : (s.emit u ev d).sec = s.sec := by rw [State.emit, State.enter_eq]
@[simp] theorem State.emit_img (u : Nat) (ev : Nat × Nat) (d : Nat) : (s.emit u ev d).img = s.img := by rw [State.emit, State.enter_eq]
@[simp] theorem State.emit_mem (u : Nat) (ev : Nat × Nat) (d : Nat) : (s.emit u ev d).mem = s.mem := by rw [State.emit, State.enter_eq]
@[simp] theorem State.emit_uart (u : Nat) (ev : Nat × Nat) (d : Nat) : (s.emit u ev d).uart = s.uart := by rw [State.emit, State.enter_eq]
@[simp] theorem State.emit_pwr (u : Nat) (ev : Nat × Nat) (d : Nat) : (s.emit u ev d).pwr = s.pwr := by rw [State.emit, State.enter_eq]
@[simp] theorem State.emit_tbus (u : Nat) (ev : Nat × Nat) (d : Nat) : (s.emit u ev d).tbus = s.tbus := by rw [State.emit, State.enter_eq]
@[simp] theorem State.emit_tap (u : Nat) (ev : Nat × Nat) (d : Nat) : (s.emit u ev d).tap = s.tap := by rw [State.emit, State.enter_eq]

@[simp] theorem State.takeEvent_pending : (s.takeEvent).pending = s.pending := by rw [State.takeEvent_eq]
@[simp] theorem State.takeEvent_now : (s.takeEvent).now = s.now := by rw [State.takeEvent_eq]
@[simp] theorem State.takeEvent_cyc : (s.takeEvent).cyc = s.cyc := by rw [State.takeEvent_eq]
@[simp] theorem State.takeEvent_free : (s.takeEvent).free = s.free := by rw [State.takeEvent_eq]
@[simp] theorem State.takeEvent_tick : (s.takeEvent).tick = s.tick := by rw [State.takeEvent_eq]
@[simp] theorem State.takeEvent_sets : (s.takeEvent).sets = s.sets := by rw [State.takeEvent_eq]
@[simp] theorem State.takeEvent_units : (s.takeEvent).units = s.units := by rw [State.takeEvent_eq]
@[simp] theorem State.takeEvent_tr : (s.takeEvent).tr = s.tr := by rw [State.takeEvent_eq]
@[simp] theorem State.takeEvent_spi : (s.takeEvent).spi = s.spi := by rw [State.takeEvent_eq]
@[simp] theorem State.takeEvent_jobs : (s.takeEvent).jobs = s.jobs := by rw [State.takeEvent_eq]
@[simp] theorem State.takeEvent_boot : (s.takeEvent).boot = s.boot := by rw [State.takeEvent_eq]
@[simp] theorem State.takeEvent_sint : (s.takeEvent).sint = s.sint := by rw [State.takeEvent_eq]
@[simp] theorem State.takeEvent_cells : (s.takeEvent).cells = s.cells := by rw [State.takeEvent_eq]
@[simp] theorem State.takeEvent_dacs : (s.takeEvent).dacs = s.dacs := by rw [State.takeEvent_eq]
@[simp] theorem State.takeEvent_closed : (s.takeEvent).closed = s.closed := by rw [State.takeEvent_eq]
@[simp] theorem State.takeEvent_wire : (s.takeEvent).wire = s.wire := by rw [State.takeEvent_eq]
@[simp] theorem State.takeEvent_conv : (s.takeEvent).conv = s.conv := by rw [State.takeEvent_eq]
@[simp] theorem State.takeEvent_seq : (s.takeEvent).seq = s.seq := by rw [State.takeEvent_eq]
@[simp] theorem State.takeEvent_filt : (s.takeEvent).filt = s.filt := by rw [State.takeEvent_eq]
@[simp] theorem State.takeEvent_region : (s.takeEvent).region = s.region := by rw [State.takeEvent_eq]
@[simp] theorem State.takeEvent_fclk : (s.takeEvent).fclk = s.fclk := by rw [State.takeEvent_eq]
@[simp] theorem State.takeEvent_rng : (s.takeEvent).rng = s.rng := by rw [State.takeEvent_eq]
@[simp] theorem State.takeEvent_sec : (s.takeEvent).sec = s.sec := by rw [State.takeEvent_eq]
@[simp] theorem State.takeEvent_img : (s.takeEvent).img = s.img := by rw [State.takeEvent_eq]
@[simp] theorem State.takeEvent_mem : (s.takeEvent).mem = s.mem := by rw [State.takeEvent_eq]
@[simp] theorem State.takeEvent_uart : (s.takeEvent).uart = s.uart := by rw [State.takeEvent_eq]
@[simp] theorem State.takeEvent_pwr : (s.takeEvent).pwr = s.pwr := by rw [State.takeEvent_eq]
@[simp] theorem State.takeEvent_tbus : (s.takeEvent).tbus = s.tbus := by rw [State.takeEvent_eq]
@[simp] theorem State.takeEvent_tap : (s.takeEvent).tap = s.tap := by rw [State.takeEvent_eq]

@[simp] theorem State.elapse_pending (n : Nat) : (s.elapse n).pending = s.pending := by rw [State.elapse_eq]
@[simp] theorem State.elapse_free (n : Nat) : (s.elapse n).free = s.free := by rw [State.elapse_eq]
@[simp] theorem State.elapse_tick (n : Nat) : (s.elapse n).tick = s.tick := by rw [State.elapse_eq]
@[simp] theorem State.elapse_sets (n : Nat) : (s.elapse n).sets = s.sets := by rw [State.elapse_eq]
@[simp] theorem State.elapse_units (n : Nat) : (s.elapse n).units = s.units := by rw [State.elapse_eq]
@[simp] theorem State.elapse_tr (n : Nat) : (s.elapse n).tr = s.tr := by rw [State.elapse_eq]
@[simp] theorem State.elapse_spi (n : Nat) : (s.elapse n).spi = s.spi := by rw [State.elapse_eq]
@[simp] theorem State.elapse_jobs (n : Nat) : (s.elapse n).jobs = s.jobs := by rw [State.elapse_eq]
@[simp] theorem State.elapse_boot (n : Nat) : (s.elapse n).boot = s.boot := by rw [State.elapse_eq]
@[simp] theorem State.elapse_sint (n : Nat) : (s.elapse n).sint = s.sint := by rw [State.elapse_eq]
@[simp] theorem State.elapse_cells (n : Nat) : (s.elapse n).cells = s.cells := by rw [State.elapse_eq]
@[simp] theorem State.elapse_dacs (n : Nat) : (s.elapse n).dacs = s.dacs := by rw [State.elapse_eq]
@[simp] theorem State.elapse_closed (n : Nat) : (s.elapse n).closed = s.closed := by rw [State.elapse_eq]
@[simp] theorem State.elapse_wire (n : Nat) : (s.elapse n).wire = s.wire := by rw [State.elapse_eq]
@[simp] theorem State.elapse_conv (n : Nat) : (s.elapse n).conv = s.conv := by rw [State.elapse_eq]
@[simp] theorem State.elapse_seq (n : Nat) : (s.elapse n).seq = s.seq := by rw [State.elapse_eq]
@[simp] theorem State.elapse_filt (n : Nat) : (s.elapse n).filt = s.filt := by rw [State.elapse_eq]
@[simp] theorem State.elapse_fclk (n : Nat) : (s.elapse n).fclk = s.fclk := by rw [State.elapse_eq]
@[simp] theorem State.elapse_rng (n : Nat) : (s.elapse n).rng = s.rng := by rw [State.elapse_eq]
@[simp] theorem State.elapse_sec (n : Nat) : (s.elapse n).sec = s.sec := by rw [State.elapse_eq]
@[simp] theorem State.elapse_img (n : Nat) : (s.elapse n).img = s.img := by rw [State.elapse_eq]
@[simp] theorem State.elapse_mem (n : Nat) : (s.elapse n).mem = s.mem := by rw [State.elapse_eq]
@[simp] theorem State.elapse_uart (n : Nat) : (s.elapse n).uart = s.uart := by rw [State.elapse_eq]
@[simp] theorem State.elapse_pwr (n : Nat) : (s.elapse n).pwr = s.pwr := by rw [State.elapse_eq]
@[simp] theorem State.elapse_tbus (n : Nat) : (s.elapse n).tbus = s.tbus := by rw [State.elapse_eq]
@[simp] theorem State.elapse_tap (n : Nat) : (s.elapse n).tap = s.tap := by rw [State.elapse_eq]

@[simp] theorem State.reach_pending (t : Nat) : (s.reach t).pending = s.pending := by rw [State.reach_eq, State.elapse_eq]
@[simp] theorem State.reach_free (t : Nat) : (s.reach t).free = s.free := by rw [State.reach_eq, State.elapse_eq]
@[simp] theorem State.reach_tick (t : Nat) : (s.reach t).tick = s.tick := by rw [State.reach_eq, State.elapse_eq]
@[simp] theorem State.reach_sets (t : Nat) : (s.reach t).sets = s.sets := by rw [State.reach_eq, State.elapse_eq]
@[simp] theorem State.reach_units (t : Nat) : (s.reach t).units = s.units := by rw [State.reach_eq, State.elapse_eq]
@[simp] theorem State.reach_tr (t : Nat) : (s.reach t).tr = s.tr := by rw [State.reach_eq, State.elapse_eq]
@[simp] theorem State.reach_spi (t : Nat) : (s.reach t).spi = s.spi := by rw [State.reach_eq, State.elapse_eq]
@[simp] theorem State.reach_jobs (t : Nat) : (s.reach t).jobs = s.jobs := by rw [State.reach_eq, State.elapse_eq]
@[simp] theorem State.reach_boot (t : Nat) : (s.reach t).boot = s.boot := by rw [State.reach_eq, State.elapse_eq]
@[simp] theorem State.reach_sint (t : Nat) : (s.reach t).sint = s.sint := by rw [State.reach_eq, State.elapse_eq]
@[simp] theorem State.reach_cells (t : Nat) : (s.reach t).cells = s.cells := by rw [State.reach_eq, State.elapse_eq]
@[simp] theorem State.reach_dacs (t : Nat) : (s.reach t).dacs = s.dacs := by rw [State.reach_eq, State.elapse_eq]
@[simp] theorem State.reach_closed (t : Nat) : (s.reach t).closed = s.closed := by rw [State.reach_eq, State.elapse_eq]
@[simp] theorem State.reach_wire (t : Nat) : (s.reach t).wire = s.wire := by rw [State.reach_eq, State.elapse_eq]
@[simp] theorem State.reach_conv (t : Nat) : (s.reach t).conv = s.conv := by rw [State.reach_eq, State.elapse_eq]
@[simp] theorem State.reach_seq (t : Nat) : (s.reach t).seq = s.seq := by rw [State.reach_eq, State.elapse_eq]
@[simp] theorem State.reach_filt (t : Nat) : (s.reach t).filt = s.filt := by rw [State.reach_eq, State.elapse_eq]
@[simp] theorem State.reach_fclk (t : Nat) : (s.reach t).fclk = s.fclk := by rw [State.reach_eq, State.elapse_eq]
@[simp] theorem State.reach_rng (t : Nat) : (s.reach t).rng = s.rng := by rw [State.reach_eq, State.elapse_eq]
@[simp] theorem State.reach_sec (t : Nat) : (s.reach t).sec = s.sec := by rw [State.reach_eq, State.elapse_eq]
@[simp] theorem State.reach_img (t : Nat) : (s.reach t).img = s.img := by rw [State.reach_eq, State.elapse_eq]
@[simp] theorem State.reach_mem (t : Nat) : (s.reach t).mem = s.mem := by rw [State.reach_eq, State.elapse_eq]
@[simp] theorem State.reach_uart (t : Nat) : (s.reach t).uart = s.uart := by rw [State.reach_eq, State.elapse_eq]
@[simp] theorem State.reach_pwr (t : Nat) : (s.reach t).pwr = s.pwr := by rw [State.reach_eq, State.elapse_eq]
@[simp] theorem State.reach_tbus (t : Nat) : (s.reach t).tbus = s.tbus := by rw [State.reach_eq, State.elapse_eq]
@[simp] theorem State.reach_tap (t : Nat) : (s.reach t).tap = s.tap := by rw [State.reach_eq, State.elapse_eq]

end Sys2Proof.Machine
end

