-- ==== Sys2Proof/Laws/Serve.lean ====
section
/-! SUPPORT. What a request comes to at its commit point. -/

namespace Sys2Proof.Machine

/-- A request that is ready executes: its work runs on the state at its commit point, and its answer is the reply in
preparation; the words of RANDOM and LOG_READ stay known until their reply is ready. -/
theorem State.serve_ready {s : State} {h : Hdr} (hr : s.ready h = true) (op : Nat) (ws : List Word)
    (run : State → Answer) :
    s.serve h op ws run =
      let a := (s.atCommit h).answer op ws run
      a.1.replying h op a.2.1 a.2.2 (if keepsWords op a.2.1 then ws else []) := by
  simp only [State.ready, Bool.and_eq_true, Bool.not_eq_true', Option.isNone_iff_eq_none, bne_iff_ne, ne_eq] at hr
  obtain ⟨⟨⟨h1, h2⟩, h3⟩, h4⟩ := hr
  simp only [State.serve, State.commitRequest, State.execute, State.atCommit, State.replying, h1, h2, h3, h4, if_false,
    Option.isSome_none, Bool.false_eq_true, Bool.not_true]

/-- A request that is ready executes: its work runs on the state at its commit point, and its answer is the reply in
preparation. For every opcode but RANDOM and LOG_READ. -/
theorem State.serve_replying {s : State} {h : Hdr} (hr : s.ready h = true) {op : Nat} (h1 : op ≠ 0x48) (h2 : op ≠ 0x60)
    (ws : List Word) (run : State → Answer) :
    s.serve h op ws run =
      let a := (s.atCommit h).answer op ws run
      a.1.replying h op a.2.1 a.2.2 := by
  rw [State.serve_ready hr]
  simp [keepsWords, h1, h2]

/-- A request whose opcode is answered and whose LEN its opcode allows does its work. -/
theorem State.answer_run {s : State} {op : Nat} {ws : List Word} {run : State → Answer} {l : Nat × Nat}
    (ha : s.answers op = true) (hl : opcodeLen op = some l) (h1 : l.1 ≤ ws.length) (h2 : ws.length ≤ l.2) :
    s.answer op ws run = run s := by
  simp only [State.answer, ha, hl, Bool.not_true, Bool.false_eq_true, if_false]
  rw [if_neg (by omega)]

/-- While the device is released every opcode is answered. -/
theorem State.answers_released {s : State} (h : s.released = true) (op : Nat) : s.answers op = true := by
  have ha : s.alive = true := by
    simp only [State.released, beq_iff_eq] at h
    simp [State.alive, h]
  unfold State.answers
  split_ifs <;> simp [h, ha]

/-- The device is released at the commit point where it is released before. -/
@[simp] theorem State.atCommit_released (s : State) (h : Hdr) : (s.atCommit h).released = s.released := by
  have key : ∀ n, ((s.toCommit n h.dt).taken n).boot = s.boot := by
    intro n
    unfold State.taken State.toCommit
    simp only
    split <;> simp
  simp only [State.released, State.atCommit, State.setTr_boot, key]

/-- A ready request of a released device, of any opcode but RANDOM and LOG_READ, with a LEN its opcode allows: its work runs,
and its answer is the reply in preparation. -/
theorem State.serve_run {s : State} {h : Hdr} (hr : s.ready h = true) (hrel : s.released = true) {op : Nat}
    (h48 : op ≠ 0x48) (h60 : op ≠ 0x60) {l : Nat × Nat} (hl : opcodeLen op = some l) {ws : List Word} (h1 : l.1 ≤ ws.length)
    (h2 : ws.length ≤ l.2) (run : State → Answer) :
    s.serve h op ws run =
      (run (s.atCommit h)).1.replying h op (run (s.atCommit h)).2.1 (run (s.atCommit h)).2.2 := by
  have ha : (s.atCommit h).answer op ws run = run (s.atCommit h) :=
    State.answer_run (State.answers_released (by simpa using hrel) op) hl h1 h2
  rw [State.serve_replying hr h48 h60]
  simp only [ha]

/-! ### The forms of an answer -/

variable (s : State)

@[simp] theorem State.done_eq (ws : List Word) : s.done ws = (s, stDone, ws) := rfl
@[simp] theorem State.refuse_eq (status : Nat) : s.refuse status = (s, status, []) := rfl
@[simp] theorem State.refuseAt_eq (status i : Nat) : s.refuseAt status i = (s, status, [Word.of i]) := rfl
@[simp] theorem State.bad_eq (i : Nat) : s.bad i = (s, stParamBad, [Word.of i]) := rfl

/-- The work of a request to a unit that is not DRAINING. -/
theorem State.unlessDraining_of {u : Nat} (hu : (s.unit u).st ≠ .draining) (i : Nat) (ok : Answer) :
    s.unlessDraining u i ok = ok := by simp [State.unlessDraining, hu]

/-- The work of a request to a unit that is READY or RUNNING. -/
theorem State.readyRun_of {u : Nat} (hu : (s.unit u).st = .ready ∨ (s.unit u).st = .running)
    (i : Nat) (ok : Answer) : s.readyRun u i ok = ok := by
  rcases hu with h | h <;> simp [State.readyRun, h]

/-- A request for a job that nothing excludes starts it. -/
theorem State.enqueue_of {op : Nat} {kind : JobKind} {clash : JobKind → Bool} (hl : s.jobs.running.length < 8)
    (hc : s.jobs.running.any (fun j => clash j.kind) = false) : s.enqueue op kind clash = s.queued op kind := by
  simp only [State.enqueue, hc, Bool.false_eq_true, or_false]
  rw [if_neg (by omega)]

end Sys2Proof.Machine
end

