-- ==== Sys2Proof/Laws/Shared.lean ====
section
/-! SUPPORT. What the shared operations of counters, stream words, replies and jobs change, and that they change nothing else. -/

namespace Sys2Proof.Machine

variable (s : State)

/-! ### Counters -/

theorem State.bumpBy_eq (id sub n : Nat) : s.bumpBy id sub n = s.setReg id sub (satAdd (s.reg id sub) n) := rfl
theorem State.bump_eq (id sub : Nat) : s.bump id sub = s.setReg id sub (satAdd (s.reg id sub) 1) := rfl
theorem State.setRegBit_eq (id sub i : Nat) (b : Bool) :
    s.setRegBit id sub i b = s.setReg id sub ((s.reg id sub).setBit i b) := rfl
theorem State.absentDrop_eq (u : Nat) : s.absentDrop u = s.bump (u * 256 + 0xF4) := rfl
theorem State.gone_eq (u : Nat) : s.gone u = s.bump (u * 256 + 0xF2) := rfl
theorem State.discard_eq (u : Nat) : s.discard u = s.bump (u * 256 + 0xF3) := rfl

/-- A counter of a sound register file reads one more, up to its limit, and no other register changes. -/
theorem State.reg_bump {s : State} (hs : s.regsWf = true) (id sub jd jsub : Nat) :
    (s.bump id sub).reg jd jsub =
      if regKey jd jsub = regKey id sub then satAdd (s.reg id sub) 1 else s.reg jd jsub := by
  rw [State.bump_eq, State.reg_setReg hs]

theorem State.regsWf_bump {s : State} (hs : s.regsWf = true) (id sub : Nat) : (s.bump id sub).regsWf = true :=
  State.regsWf_setReg hs id sub _

/-! ### Stream words and replies -/

/-- A word that appears on an input port of the fabric changes regions and counters alone (R338, R526). -/
theorem State.feedPort_proj {β : Type} (f : State → β) (hr : ∀ z r g, f (State.setRegion z r g) = f z)
    (hc : ∀ z u, f (State.absentDrop z u) = f z) (port prod : Nat) (w : Word) (tags : List Tag) :
    f (s.feedPort port prod w tags) = f s := by
  unfold State.feedPort
  refine State.each_proj (fun z r => ?_) _ _
  dsimp only
  split
  · exact hr ..
  · exact hc ..

@[simp] theorem State.feedPort_now (port prod : Nat) (w : Word) (tags : List Tag) :
    (s.feedPort port prod w tags).now = s.now := s.feedPort_proj _ (fun _ _ _ => rfl) (fun _ _ => rfl) ..
@[simp] theorem State.feedPort_mem (port prod : Nat) (w : Word) (tags : List Tag) :
    (s.feedPort port prod w tags).mem = s.mem := s.feedPort_proj _ (fun _ _ _ => rfl) (fun _ _ => rfl) ..
@[simp] theorem State.feedPort_seq (port prod : Nat) (w : Word) (tags : List Tag) :
    (s.feedPort port prod w tags).seq = s.seq := s.feedPort_proj _ (fun _ _ _ => rfl) (fun _ _ => rfl) ..
@[simp] theorem State.feedPort_filt (port prod : Nat) (w : Word) (tags : List Tag) :
    (s.feedPort port prod w tags).filt = s.filt := s.feedPort_proj _ (fun _ _ _ => rfl) (fun _ _ => rfl) ..
@[simp] theorem State.feedPort_units (port prod : Nat) (w : Word) (tags : List Tag) :
    (s.feedPort port prod w tags).units = s.units := s.feedPort_proj _ (fun _ _ _ => rfl) (fun _ _ => rfl) ..

/-- Replies that reach their ports store to no memory (R350, R630). -/
theorem State.landReplies_bytes (before : Nat) : (s.landReplies before).mem.sram = s.mem.sram ∧
    (s.landReplies before).mem.psram = s.mem.psram ∧ (s.landReplies before).img = s.img := by
  unfold State.landReplies
  have h : ∀ (z : State) (x : Flight), (z.landReply x).mem.sram = z.mem.sram ∧ (z.landReply x).mem.psram = z.mem.psram ∧
      (z.landReply x).img = z.img := by
    intro z x
    unfold State.landReply
    split <;> exact ⟨rfl, rfl, rfl⟩
  exact ⟨State.each_proj (p := fun z => z.mem.sram) (fun z x => (h z x).1) _ _,
    State.each_proj (p := fun z => z.mem.psram) (fun z x => (h z x).2.1) _ _,
    State.each_proj (p := fun z => z.img) (fun z x => (h z x).2.2) _ _⟩

/-! ### Jobs -/

theorem State.setJob_eq (num : Nat) (kind : JobKind) : s.setJob num kind = { s with jobs := (s.setJob num kind).jobs } := rfl

/-- A running job that works on stays the one job that it was (R277). -/
theorem State.setJob_length (num : Nat) (kind : JobKind) :
    (s.setJob num kind).jobs.running.length = s.jobs.running.length := List.length_map ..

end Sys2Proof.Machine
end

