-- ==== Sys2Proof/Tests/Slice0.lean ====
section
/-! SUPPORT. Tests: what WellFormed refuses, values that the spec states, and for each statement a concrete state and
operands that meet its hypotheses. -/

namespace Sys2Proof.Tests
open Sys2Proof Sys2Proof.Machine

/-! ### States -/

/-- A released device in the middle of a tick, with an SPI frame begun. -/
def live : State :=
  { State.reset with
    boot := { phase := .released, delivered := true }
    tick := { running := true, count := 7 }
    now := 1000000
    cyc := 1000
    spi := { open_ := true }
    pwr := { vioH := true, vioM := true, ana := true, locked := true } }

/-- A state with units RUNNING. -/
def up (l : List Nat) (s : State) : State := s.each l fun z u => z.setUnit u { st := .running }

/-- A request on the SPI port, at this instant. -/
def hd : Hdr := { tr := .spi, seq := 1, dt := 0 }

/-! ### Witnesses: requests -/

/-- Hypotheses of StepRunsFrontCommand and IdleStepIsOneCycle. -/
theorem witness_queue : live.pending = [] ∧ live.fclk.first = [] := by decide

theorem witness_ready : live.ready hd = true ∧ live.released = true := by decide

/-- The statements that ask for a ready request of a released device and nothing else are met by `live` and `hd`; a running
job and an ended one for POLL. -/
def polled : State :=
  { live with
    jobs := { running := [{ num := 2, op := 0x48, kind := .random 4 [] }], latest := 2,
              ended := [{ num := 1, op := 0x52, status := 0, pct := 100, words := [1] }] } }

theorem witness_poll : polled.ready hd = true ∧ polled.released = true ∧
    ((polled.atCommit hd).jobs.running.find? (fun j => j.num == 2)).isSome = true ∧
    (polled.atCommit hd).jobs.running.find? (fun j => j.num == 1) = none ∧
    ((polled.atCommit hd).jobs.ended.find? (fun j => j.num == 1)).isSome = true ∧
    (polled.atCommit hd).jobs.ended.find? (fun j => j.num == 3) = none := by decide

theorem witness_unit_state : isUnit 0x10 = true := by decide

theorem witness_get : targetOf [0x0100] 0 = .inr (0x0100, 0) ∧ writeOnly 0x0100 = false ∧
    (live.atCommit hd).notHost 0x0100 = false ∧ ((live.atCommit hd).unit 0x01).st ≠ .draining ∧
    ((live.atCommit hd).sets.filter fun x => x.id == 0x0102 && x.sub == 0) = [] := by decide

theorem witness_set : let k := live.atCommit hd
    targetOf [0x0100, 25000] 1 = .inr (0x0100, 0) ∧ readOnly 0x0100 = false ∧ effectOf 0x0100 = .tick ∧
    valueOk 0x0100 0 25000 = true ∧ k.notHost 0x0100 = false ∧ k.actionOk 0x0100 25000 = true ∧
    k.crossOkFrom (k.sets ++ [⟨0x0100, 0, 25000, k.countAt k.commitDist, 0, false⟩]) k.commitDist 0x0100 0 = true ∧
    k.dozeEarly (k.viewAt (k.sets ++ [⟨0x0100, 0, 25000, k.countAt k.commitDist, 0, false⟩]) k.commitDist) 0x0100 25000 =
      false := by decide

theorem witness_set_now : let k := live.atCommit hd
    let z := k.without (k.reached fun x => x.id == 0x0500 && x.sub == 0)
    targetOf [0x0500, 0] 1 = .inr (0x0500, 0) ∧ readOnly 0x0500 = false ∧ effectOf 0x0500 = .tick ∧
    valueOk 0x0500 0 0 = true ∧ k.notHost 0x0500 = false ∧ k.actionOk 0x0500 0 = true ∧
    (k.setReg 0x0500 0 0).crossOkFrom z.sets 0 0x0500 0 = true ∧
    (k.setReg 0x0500 0 0).dozeEarly ((k.setReg 0x0500 0 0).viewAt z.sets 0) 0x0500 0 = false ∧
    (paramRow 0x0500).any (fun r => r.acc == .rw) = true := by decide

theorem witness_bad_value : targetOf [0x0100, 1] 1 = .inr (0x0100, 0) ∧ valueOk 0x0100 0 1 = false ∧
    targetOf [0x0102, 1] 1 = .inr (0x0102, 0) ∧ readOnly 0x0102 = true := by decide

/-- A group of two settings. -/
def grp : List Word := [2, 0x0100, 25000, 0x0500, 0]

theorem witness_group : let k := live.atCommit hd
    ∃ es, groupEntries 2 (grp.drop 1) 1 = some es ∧ k.sortEntries [] es = (es, []) ∧
      ∀ e ∈ es, k.conflict es (k.countAt k.commitDist) k.commitDist e = none := by
  refine ⟨[⟨0x0100, 0, 25000, 1, 2⟩, ⟨0x0500, 0, 0, 3, 4⟩], by decide, by decide, by decide⟩

/-- A pending setting of this device. -/
def pendingSet : State :=
  { live with sets := [{ id := 0x0100, sub := 0, val := 25000, bound := 9, group := 0, boot := false }] }

theorem witness_cancel : pendingSet.ready hd = true ∧ pendingSet.released = true ∧
    (pendingSet.atCommit hd).commitDist ≤ (pendingSet.atCommit hd).dist 9 := by decide

theorem witness_clear : ((live.atCommit hd).unit 0x3D).st ≠ .draining ∧
    valueOk (uartId 3 0x0D) 0 0x3C1 = true ∧
    (live.atCommit hd).crossOkFrom (live.atCommit hd).sets 0 (uartId 3 0x0D) 0 = true := by decide

/-- A serial channel with an entry and a byte, that serves the host. -/
def serial : State := (up [0x31] live).setUart 1 { rxq := [0x41], txq := [0x42] }

theorem witness_host_queue : serial.ready hd = true ∧ serial.released = true ∧
    (serial.atCommit hd).hostQueue 1 = true ∧ ((serial.atCommit hd).unit 0x31).st ≠ .draining ∧
    ((serial.atCommit hd).uartOf 1).rxq = [0x41] ∧ ((serial.atCommit hd).uartOf 1).txq.length <
      ((serial.atCommit hd).depths 1).2 ∧ ((serial.atCommit hd).hostQueue 0 = true ∧
    ((serial.atCommit hd).uartOf 0).rxq = []) := by decide

/-- A ring of 16 words with 3 unread, and a DMA channel of 8 descriptors with 2 pending. -/
def ringed : State := (((((up [0x0A, 0x38, 0x3C] live).setReg 0x0A58 0 0x806).setReg 0x0A60 0 5).setReg 0x0A68 0 2).setReg
  0x3800 0 0x61).setReg 0x3840 0 2

theorem witness_positions : let k := ringed.atCommit hd
    ringed.ready hd = true ∧ ringed.released = true ∧
    (4 : Nat) < ringSize (k.reg (ringId 0 0x58)) ∧
    (4 + ringSize (k.reg (ringId 0 0x58)) - k.regN (ringId 0 0x68)) % ringSize (k.reg (ringId 0 0x58)) ≤ k.ringLevel 0 ∧
    valueOk (ringId 0 0x68) 0 4 = true ∧ (k.setReg (ringId 0 0x68) 0 4).crossOkFrom k.sets 0 (ringId 0 0x68) 0 = true ∧
    (k.unit (ringUnit 0)).st ≠ .draining ∧
    (3 : Nat) < 2 ^ (k.dmaCfg 0).bits 5 4 ∧ k.dmaPending (fun a b => k.reg a b) 0 ≤
      (3 + 2 ^ (k.dmaCfg 0).bits 5 4 - k.regN 0x3860) % 2 ^ (k.dmaCfg 0).bits 5 4 ∧
    valueOk 0x3840 0 3 = true := by decide

theorem witness_actions : (live.atCommit hd).sint.scan = none ∧ (live.atCommit hd).linMode 2 = false ∧
    ((live.atCommit hd).unit 0x32).st ≠ .draining := by decide

theorem witness_units : serial.sound = true ∧ isUnit 0x31 = true ∧ fixedUnit 0x31 = false ∧
    ((serial.atCommit hd).unit 0x31).skewed = false ∧ ((serial.atCommit hd).unit 0x31).after = none ∧
    ((serial.atCommit hd).unit 0x31).st = .running ∧ ((serial.atCommit hd).unit 0x30).st = .off ∧
    isUnit 0x30 = true ∧ fixedUnit 0x30 = false := by decide

/-- A plan of one item: a DAC update. -/
def planWords : List Word := [0x11, 1, 2000, 400, 0x1A + 3 * 256 + 65536]

/-- A complete plan in the shadow. -/
def shadowed : State := { live with tick := { live.tick with shadow := some { id := 0x11, items := [⟨2000, 400, 0x1A, 3, 1⟩] } } }

theorem witness_plan : let k := shadowed.atCommit hd
    shadowed.ready hd = true ∧ k.planSwapAt = none ∧ k.boundaryOf 0 = some 8 ∧
    k.swapFits (k.dist 8) { id := 0x11, items := [⟨2000, 400, 0x1A, 3, 1⟩] } = true ∧ k.jobs.running = [] := by decide

theorem witness_plan_load : (live.atCommit hd).loadError [] (planItems (planWords.drop 2)) 2 = none := by decide

theorem witness_region_requests : let k := ((up [0x20] live).setRegion 0 { complete := true }).atCommit hd
    ((up [0x20] live).setRegion 0 { complete := true }).ready hd = true ∧ (k.unit 0x20).st = .running ∧
    (k.unit 0x20).skewed = false ∧ k.jobs.running = [] ∧ k.reg 0x3A01 = 0 ∧ (k.regionOf 0).complete = true ∧
    k.boundaryOf 0 = some 8 := by decide

theorem witness_region_load : ((up [0x20] live).setReg 0x3A01 0 1).ready hd = true ∧
    (((up [0x20] live).setReg 0x3A01 0 1).atCommit hd).reg 0x3A01 ≠ 0 ∧
    (((up [0x20] live).setReg 0x3A01 0 1).atCommit hd).imageJob = none := by decide

/-- Units READY. -/
def readied (l : List Nat) (s : State) : State := s.each l fun z u => z.setUnit u { st := .ready }

theorem witness_coef : let k := (readied [0x13] live).atCommit hd
    (readied [0x13] live).ready hd = true ∧ (k.unit 0x13).st = .ready ∧ (k.unit 0x13).skewed = false ∧
    k.regBit 0x130B 0 0 = false ∧ k.boundaryOf 9 = some 9 ∧ k.regBit 0x1311 0 1 = false ∧ k.jobs.running = [] ∧
    (63 + [0x3FFFF#32].length ≤ 64 ∧ (0x3FFFF#32).toNat < 2 ^ 18) := by decide

/-- A released device with both memories and a sequencer RUNNING. -/
def stored : State := up [0x0A, 0x08, 0x3B, 0x3C] live

theorem witness_convert : let k := stored.atCommit hd
    stored.ready hd = true ∧ ((k.unit (seqUnit 0)).st = .running ∧ (k.unit (seqUnit 0)).skewed = false) ∧
    k.captureBlocked ⟨.capture, 0, false, 0x7FFFF8, 8⟩ = false ∧
    (k.unit (convUnit 0)).st = .running ∧ (k.unit (convUnit 0)).skewed = false ∧ k.jobs.running = [] ∧
    k.isRunning 0x3C = true ∧ k.isRunning 0x3B = true ∧ 0 + 4 * 254 ≤ k.psramBytes := by decide

theorem witness_programming : let k := live.atCommit hd
    k.mayProgram = true ∧ k.jobs.running = [] ∧ k.fuseJob none [] = none ∧
    (k.fuseJob none [(63, 31)]).isSome = true ∧ k.counterValue 2 = 0 ∧
    (k.fuseJob (some 2) ((List.range 64).map fun i => (37 + (0 + i) / 32, (0 + i) % 32))).isSome = true := by decide

/-- The random source holds 64 bytes. -/
def random : State :=
  { up [0x05] live with rng := { buf := (List.range 64).map (BitVec.ofNat 8), live := true } }

theorem witness_random : let k := random.atCommit hd
    random.ready hd = true ∧ k.isRunning 0x05 = true ∧ k.rngUnfit = false ∧ k.rng.buf.length = 64 ∧
    k.dozeTick = false ∧ k.rng.buf.length < 1012 ∧ k.jobs.running = [] ∧ (live.atCommit hd).unlockReason 0 1 (List.replicate 16 0) ≠ 0 := by decide

/-- A target open for writing, with its write pointer at 0. -/
def opened : State := (live.setReg 0x0010 0 1).setReg 0x0012 0 0x1000

theorem witness_image : let k := live.atCommit hd
    k.loadedSlot 0 = false ∧ k.stagingRead = false ∧ k.jobs.running = [] ∧ (openLengths 0).1 ≤ (openLengths 0).2 ∧
    ¬(k.regN 0x0010 = 0 ∧ k.reg 0x0011 < k.reg 0x0012) ∧
    opened.ready hd = true ∧ (opened.atCommit hd).regN 0x0010 ≠ 3 ∧ (opened.atCommit hd).imageJob = none ∧
    (opened.atCommit hd).regN 0x0011 + 4 * 254 ≤ (opened.atCommit hd).regN 0x0012 := by decide

/-- Slot A has been verified; its manifest names security version 3. -/
def verified : State :=
  ({ live with img := { vA := { code := 1, good := true } } } : State).setFlashByte (targetBase 0 + 0x10) 3

set_option maxRecDepth 20000 in
theorem witness_activate : let k := verified.atCommit hd
    verified.ready hd = true ∧ k.verify 0 = { code := 1, good := true } ∧ manSecver (k.slotManifest 0) = 3 ∧
    k.counterValue 0 = 0 ∧ k.nextRecord = some 0 ∧ (k.marker.map fun m => Word.of (m.2.1 + 1)).getD 1 = 1 := by decide

theorem witness_log : (live.atCommit hd).fuma.log = [] ∧ (live.atCommit hd).boot.restart = none ∧
    (({ live with fuma := { log := [⟨0, 0, 0, 0, 0, 0, 0⟩] } } : State).atCommit hd).fuma.log.length = 1 := by decide

set_option maxRecDepth 20000 in
/-- A published signature (P-256 and SHA-256 over "sample", RFC 6979 A.2.5) verifies. -/
theorem test_ecdsa_published : ecdsaVerify
    (beBytes 32 0x60FED4BA255A9D31C961EB74C6356D68C049B8923B61FA6CE669622E60F29FB6 ++
      beBytes 32 0x7903FE1008B8BC99A41AE9E95628BC64F2F1B20C2D7E9F5177A3C294D4462299)
    [0x73, 0x61, 0x6D, 0x70, 0x6C, 0x65]
    (beBytes 32 0xEFD48B2AACB6A8FD1140DD9CD45E81D69D2C877B56AAF991C34D0EA84EAF3716)
    (beBytes 32 0xF7CB1C942D657C41D436C7A1B6E29F65F3E900DBB9AFF4064DC4AB2F843ACDA8) = true := by decide

/-- A device that holds a nonce and a usable key, whose secret is 1. -/
def challenged : State :=
  { live with
    sec := { nonce := some ((List.range 16).map (BitVec.ofNat 8)) }
    sint := { live.sint with dlv := [(24, 1)] }
    img := { manifest := List.replicate 0x230 0 ++ beBytes 32 p256Gx ++ beBytes 32 p256Gy } }

/-- A signature over the message of R663 with that key. -/
def signature : List Word :=
  [0x187BF27C, 0x7E4F038D, 0x0338528A, 0xC31AB504, 0xE26989C0, 0x351BF277, 0xFC480BA6, 0x78996647,
   0x9415122E, 0x4A6DDC02, 0x9D1722B1, 0x2ABC7D5B, 0xA063945F, 0xD6A8F2BB, 0xCCF9B490, 0x446D2233]

set_option maxRecDepth 20000 in
theorem witness_unlock : challenged.ready hd = true ∧ signature.length = 16 ∧
    (challenged.atCommit hd).unlockReason 0 1 signature = 0 := by decide

/-! ### Witnesses: transports, start-up, the tick -/

/-- A NOP packet with SEQ 5. -/
def nopPacket : List Byte :=
  let head : List Byte := [0xC5, 0x05, 0x7F, 0x00]
  head ++ (crc32c (head.drop 1)).bytes

/-- A POLL packet without its parameter word, and a packet of an opcode that is not defined. -/
def shortPacket : List Byte := [0xC5, 0x05, 0x03, 0x00] ++ (crc32c [0x05, 0x03, 0x00]).bytes
def oddPacket : List Byte := [0xC5, 0x05, 0x7D, 0x00] ++ (crc32c [0x05, 0x7D, 0x00]).bytes

set_option maxRecDepth 4000 in
theorem witness_packets : packetFramed nopPacket = true ∧ packetCrcOk nopPacket = true ∧
    packetCrcOk ([0xC5, 0x05, 0x7F, 0x00, 0, 0, 0, 0] : List Byte) = false ∧
    live.ready { tr := .spi, seq := 5, dt := 3 } = true ∧
    packetCrcOk shortPacket = true ∧ opcodeLen 0x03 = some (1, 1) ∧ (packetWords shortPacket).length < 1 ∧
    (live.atCommit { tr := .spi, seq := 5, dt := 3 }).answers 0x03 = true ∧
    packetCrcOk oddPacket = true ∧ opcodeLen 0x7D = none ∧
    packetFramed [0xC5, 0x05, 0x7F, 0x01, 0, 0, 0, 0] = false ∧ ((live.toCommit 0 3).hears 0 = true) ∧
    (live.toCommit 0 3).garbled 0 = false ∧ (State.reset.toCommit 0 3).hears 0 = false ∧
    ((((live.setTr 0 { exec := some ⟨4, 0, 0x7F, []⟩ } : State).toCommit 0 0).taken 0).trOf 0).exec.isSome = true ∧
    ((((live.setTr 0 { last := some 5 } : State).toCommit 0 0).taken 0).trOf 0).last = some 5 := by decide

theorem witness_phase_refusal : ({ live with boot := { phase := .phase2 } } : State).ready hd = true ∧
    ((((up [0x31] live).setUnit 0x31 { st := .draining }).atCommit hd).unit 0x31).st = .draining ∧
    ((up [0x31] live).setUnit 0x31 { st := .draining }).ready hd = true := by decide

/-- The bits of a first byte and of a SEQ, most significant bit first. -/
def bitsOf (b : Byte) : List Bool := (List.range 8).map fun i => b.getLsbD (7 - i)

theorem witness_spi : live.spi.kind = none ∧ live.spi.open_ = true ∧ live.served 0 = true ∧
    (bitsOf 0xC5).length = 8 ∧ byteOfBits (bitsOf 0xC5) = 0xC5 ∧ byteOfBits (bitsOf 0xFF) = 0xFF ∧
    byteOfBits (bitsOf 0x12 ++ bitsOf 0x34) = 0x12 ∧ ([] : List Bool).length < 8 ∧
    ({ live with spi := { open_ := true, kind := some .request } } : State).spi.errAt = false ∧
    ({ live with spi := { open_ := true, kind := some .bad, errAt := true } } : State).spi.errAt = true ∧
    ({ live with spi := { open_ := true, hsdo := some ⟨4, 0, 0x7F, []⟩ } } : State).spi.hsdo = some ⟨4, 0, 0x7F, []⟩ ∧
    ((⟨4, 0, 0x7F, []⟩ : Reply).bytes[0]?).isSome = true ∧
    ((live.setTr 0 { errs := [⟨4, 0x07, 0, []⟩] }).trOf 0).errs = [⟨4, 0x07, 0, []⟩] ∧
    ((live.setTr 0 { exec := some ⟨4, 0, 0x7F, []⟩ }).trOf 0).exec = some ⟨4, 0, 0x7F, []⟩ ∧ keepsWords 0x7F 0 = false ∧
    ((random.setTr 0 { exec := some ⟨4, stQueued, 0x48, []⟩ }).trOf 0).exec = some ⟨4, stQueued, 0x48, []⟩ ∧
    (random.unit 0x05).st = .running ∧ random.jobs.running = [] := by decide

theorem witness_serial_transport : let s := (up [0x32] live).setTr 3 { toSend := [⟨4, 0, 0x7F, []⟩] }
    (s.trOf 3).toSend = [⟨4, 0, 0x7F, []⟩] ∧ (s.trOf 3).out = [] ∧ s.isActive 0x32 = true ∧
    rxPartial ((live.setTr 3 { rx := [0xC5] }).trOf 3).rx = true ∧
    ((live.setTr 3 { rx := [0xC5] }).uartOf 2).inChar = false := by decide

theorem witness_reset : State.reset.boot.phase = .held ∧ State.reset.regsWf = true ∧ State.reset.jobs.running = [] ∧
    ({ live with boot := { phase := .released, restart := some (1, 0) } } : State).boot.restart = some (1, 0) ∧
    (live.trOf 0).exec = none ∧ wfMap {} live.tr = true := by decide

/-- Phase 1, the critical regions delivered or not. -/
def phase1 (d : Bool) : State := { State.reset with boot := { phase := .phase1, delivered := d } }

/-- Phase 2 after a TRIM region that was in error. -/
def phase2 : State :=
  { ({ State.reset with boot := { phase := .phase2 } } : State).setReg 0x0300 0 3 with tick := { running := true } }

theorem witness_start : (phase1 false).boot.delivered = false ∧ (phase1 true).boot.began ≤ (phase1 true).now ∧
    (phase1 true).now + 16000 - (phase1 true).boot.began ≤ 16000 ∧ (phase1 true).sec.life < 3 ∧
    (phase2.reg 0x0300).bits 0 2 = 3 ∧ phase2.boot.rereads.1 < 3 ∧
    regionOutcome true false (List.replicate 15 0 ++ [0x1E5EB]) = 0 := by decide +kernel

/-- Phase 2 with nothing to re-read, so that a slot attempt is next. -/
def slotPhase : State := { State.reset with boot := { phase := .phase2 }, tick := { running := true } }

theorem witness_slots : slotPhase.rereadDue = false ∧ slotPhase.nextSlot = some 0 ∧
    slotPhase.now + 5 < slotPhase.boot.tryT + 28000000 ∧
    (slotPhase.elapse 5).slotChecks 0 (decide (slotPhase.boot.tryT + 28000000 ≤ slotPhase.now + 5))
      ((slotPhase.elapse 5).ratchet 0) = 2 := by decide

/-- One entry of a member table: type, index, offset, length and hash. -/
def entry (type index off len : Nat) (hash : List Byte) : List Byte :=
  [BitVec.ofNat 8 type, BitVec.ofNat 8 index, 1, 0] ++ (Word.of off).bytes ++ (Word.of len).bytes ++ [0, 0, 0, 0] ++ hash

/-- An image set of a firmware of four bytes, an analog configuration without a record, and a plan of one DAC update; the
SHA-256 values were made outside the model. -/
def imageSet : List Byte :=
  [0x4C, 0x4E, 0x4D, 0x46, 1, 0, 11, 0, 0x18, 0x03, 0, 0] ++ List.replicate 20 0 ++
    entry 1 0 0x2F0 4 (beBytes 32 0x9F64A747E1B97F131FABB6B447296C9B6F0201E79FB3C5356E6C77E89B6A806A) ++
    entry 2 0 0x2F4 12 (beBytes 32 0x15EC7BF0B50732B49F8228E07D24365338F9E3AB994B00AF08E5A3BFFE55FD8B) ++
    entry 3 0 0x300 24 (beBytes 32 0x053DC89F84E36D1B04FA9F251132060A8F20C8D2A4C1B8C2DA5BA59E406F069D) ++
    ((List.range 8).flatMap fun i => entry 4 i 0 0 (List.replicate 32 0)) ++ List.replicate 192 0 ++
    [1, 2, 3, 4] ++ List.replicate 12 0 ++ [1, 0, 0, 0, 1, 0, 0, 0, 0x50, 0xC3, 0, 0] ++
    [200, 0, 0, 0, 0x90, 1, 0, 0, 0x1A, 3, 1, 0]

/-- Bytes at consecutive addresses. -/
def cellsAt : Nat → List Byte → List Host.Cell
  | _, [] => []
  | a, b :: t => (a, b) :: cellsAt (a + 1) t

theorem lookup_cellsAt (d : Byte) (bs : List Byte) : ∀ a k, lookup d (cellsAt a bs) (a + k) = bs.getD k d := by
  induction bs with
  | nil => simp [cellsAt, lookup]
  | cons b t ih =>
    intro a k
    cases k with
    | zero => simp [cellsAt, lookup]
    | succ k =>
      have h := ih (a + 1) k
      rw [Nat.add_right_comm, Nat.add_assoc] at h
      simp only [cellsAt, lookup, List.getD_cons_succ]
      rw [if_neg (by omega), if_neg (by omega), h]

theorem readBytes_cellsAt (d : Byte) (bs : List Byte) (a : Nat) : ∀ n k, k + n ≤ bs.length →
    readBytes (lookup d (cellsAt a bs)) (a + k) n = (bs.drop k).take n := by
  intro n
  induction n with
  | zero => simp [readBytes]
  | succ n ih =>
    intro k h
    have hk : k < bs.length := by omega
    rw [readBytes, lookup_cellsAt, Nat.add_assoc, ih (k + 1) (by omega), List.drop_eq_getElem_cons hk, List.take_succ_cons]
    simp [List.getD_eq_getElem?_getD, hk]

/-- The set in slot A. -/
def imaged : State := { slotPhase with img := { flash := cellsAt (targetBase 0) imageSet } }

theorem imaged_bytes (k n : Nat) (h : k + n ≤ 792) :
    (imaged.elapse 5).flashBytes (targetBase 0 + k) n = (imageSet.drop k).take n := by
  have hl : imageSet.length = 792 := by decide +kernel
  have he : (imaged.elapse 5).img = imaged.img := by simp
  unfold State.flashBytes State.flashByte
  rw [he]
  exact readBytes_cellsAt flashDefault imageSet (targetBase 0) n k (by omega)

theorem imaged_manifest : (imaged.elapse 5).slotManifest 0 = imageSet.take 752 := imaged_bytes 0 752 (by decide)

theorem imaged_member (i : Nat) (h : i < 11) : (imaged.elapse 5).memberBytes 0 i =
    (imageSet.drop (manMember (imageSet.take 752) i).offset).take (manMember (imageSet.take 752) i).length := by
  have hb : (manMember (imageSet.take 752) i).offset + (manMember (imageSet.take 752) i).length ≤ 792 := by
    revert h
    revert i
    decide +kernel
  unfold State.memberBytes
  simp only [imaged_manifest]
  exact imaged_bytes _ _ hb

theorem witness_slot_passes : (imaged.elapse 5).slotChecks 0 false ((imaged.elapse 5).ratchet 0) = 1 ∧
    (imaged.elapse 5).setLoads 0 = true := by
  have h : ∀ i < 11, (imaged.elapse 5).memberBytes 0 i =
      (imageSet.drop (manMember (imageSet.take 752) i).offset).take (manMember (imageSet.take 752) i).length :=
    imaged_member
  have hc : ((List.range 11).any fun i => (manMember (imageSet.take 752) i).length != 0 &&
      sha256 ((imaged.elapse 5).memberBytes 0 i) != (manMember (imageSet.take 752) i).hash) = false := by
    rw [List.any_eq_false]
    intro i hi
    rw [h i (List.mem_range.mp hi)]
    revert i
    decide +kernel
  constructor
  · simp only [State.slotChecks, imaged_manifest]
    rw [hc]
    decide +kernel
  · unfold State.setLoads
    have hr : ((List.range 8).map fun r =>
        (manMember (imageSet.take 752) (3 + r), (imaged.elapse 5).memberBytes 0 (3 + r))) =
        (List.range 8).map fun r => (manMember (imageSet.take 752) (3 + r), []) := by
      refine List.map_congr_left fun r hi => ?_
      rw [h (3 + r) (by have := List.mem_range.mp hi; omega)]
      revert r
      decide +kernel
    simp only [imaged_manifest, h 1 (by decide), h 2 (by decide), hr]
    decide +kernel

theorem witness_phase3 : ({ State.reset with boot := { phase := .phase3 } } : State).boot.refs = false := by decide

theorem witness_boundary : live.tick.running = true ∧ live.tracking = false ∧ live.cyc ≤ live.period ∧ live.cyc ≤ live.now ∧
    pendingSet.sets ≠ [] := by decide

/-- A device at the start of a tick with a plan of one item. -/
def planned (it : PlanItem) (l : List Nat) : State :=
  up l { live with cyc := 128, tick := { live.tick with plan := some { id := 1, items := [it] } } }

theorem witness_sequence_item : let it : PlanItem := ⟨2000, 400, 0x0A, 1, 0⟩
    (planned it [0x0A, 0x08]).canStart 0 1 it := by decide

theorem witness_dac_item : let it : PlanItem := ⟨2000, 400, 0x1A, 3, 1⟩
    let s := planned it [0x1A]
    s.canStart 0 3 it ∧ (s.started 0 it).tickStart + it.offset + 400 ≤ (s.started 0 it).tickEnd := by decide

theorem witness_emit_item : let it : PlanItem := ⟨2000, 400, 0x12, 5, 0⟩
    let s := planned it [0x12]
    s.canStart 0 5 it ∧ (s.started 0 it).reg 0x120D = 0 ∧ (s.setReg 0x120D 0 1).canStart 0 5 it ∧
    ((s.setReg 0x120D 0 1).started 0 it).reg 0x120D ≠ 0 := by decide

theorem witness_strobe_item : let it : PlanItem := ⟨2000, 400, 0x21, 6, 3⟩
    (planned it [0x21]).canStart 0 6 it := by decide

theorem witness_empty_burst_item : let it : PlanItem := ⟨2000, 400, 0x38, 2, 4⟩
    let s := (planned it [0x38]).setReg 0x3804 0 0x65
    s.canStart 0 2 it ∧ (s.started 0 it).dmaPending (fun a b => (s.started 0 it).reg a b) 4 = 0 := by decide

theorem witness_items_wait : let it : PlanItem := ⟨2000, 400, 0x21, 6, 3⟩
    (planned it []).comesUp 0 6 it ∧ (planned it []).isRunning 0x21 = false ∧ ((planned it []).unit 0x21).st ≠ .reloading ∧
    (((planned it []).setUnit 0x21 { st := .reloading }).unit 0x21).st = .reloading ∧
    ((planned it []).setUnit 0x21 { st := .reloading }).comesUp 0 6 it ∧
    0 ∈ ({ live with tick := { live.tick with fired := [0] } } : State).tick.fired := by decide

theorem witness_drain_item : let it : PlanItem := ⟨2000, 400, 0x39, 7, 0⟩
    let s := ((planned it [0x39, 0x3B]).setReg 0x3980 0 0x100).setQueue 0 { words := [(0, 5)] }
    s.canStart 0 7 it ∧ (s.started 0 it).isRunning 0x3B = true ∧ (s.started 0 it).drainSize 0 = 1 ∧
    ((s.started 0 it).queue 0).burst = none := by decide

/-- A DMA channel with one good descriptor in SRAM at 0x1000: 8 bytes from 0 to 0x2000. -/
def described : State :=
  ((((((planned ⟨2000, 400, 0x38, 2, 4⟩ [0x38, 0x3C]).setReg 0x3804 0 0x65).setReg 0x3824 0 0x1000).setReg 0x3844 0
    1).setSramWord 0x1000 0).setSramWord 0x1004 0x2000).setSramWord 0x1008 8

theorem witness_burst_item : let it : PlanItem := ⟨2000, 400, 0x38, 2, 4⟩
    let t := described.started 0 it
    described.canStart 0 2 it ∧ t.dmaPending (fun a b => t.reg a b) 4 = 1 ∧ (t.dmaOf 4).burst = none ∧
    t.isRunning 0x3C = true ∧ t.descStatus 4 = 0 := by decide

/-- A converter RUNNING with a spare slice. -/
def rotated : State := (((planned ⟨2000, 8000, 0x08, 8, 0⟩ [0x08]).setReg 0x0807 0 0x688).setReg 0x0803 0 1).setReg 0x0805 0 16

theorem witness_rotate : let it : PlanItem := ⟨2000, 8000, 0x08, 8, 0⟩
    let t := rotated.started 0 it
    rotated.canStart 0 8 it ∧ t.regN 0x0801 ≤ 1 ∧ t.regBit 0x0806 0 1 = false ∧ t.spare 0 ≠ 7 ∧ t.regN 0x0803 ≠ 0 ∧
    t.tick.count.toNat % t.regN 0x0803 = 0 ∧ 1 ≤ t.regN 0x0805 ∧ t.tickStart + 2000 + 7040 ≤ t.tickEnd := by decide

theorem witness_wire_check : let it : PlanItem := ⟨2000, 400, 0x1B, 4, 0⟩
    let s := planned it [0x1B]
    let due := fun t : State => (List.range 24).filter fun p => t.regBit 0x1B05 p 4 && t.regN 0x1B01 p == 0
    s.canStart 0 4 it ∧ due (s.started 0 it) = [] ∧ (s.setReg 0x1B05 3 0x10).canStart 0 4 it ∧
    due ((s.setReg 0x1B05 3 0x10).started 0 it) = [3] ∧
    ({ live with tick := { live.tick with items := [{ idx := 0, item := ⟨200, 5, 0x1A, 3, 1⟩ }] } } : State).tick.items.find?
      (fun r => r.idx == 0 && !r.overdue) = some { idx := 0, item := ⟨200, 5, 0x1A, 3, 1⟩ } := by decide

/-! ### Witnesses: what ends, the tick bus, jobs, the analog front -/

/-- A region that awaits strobe 3 for a plan item. -/
def strobing : State :=
  { (up [0x21] live).setRegion 1 { strobes := 8 } with
    tick := { live.tick with items := [{ idx := 4, item := ⟨200, 50, 0x21, 6, 3⟩ }] } }

/-- A wire check of no pin, a burst and a drain with their plan items. -/
def checking : State := { live with wire := { runs := [{ idx := 4, meas := [], todo := [], idle := [], at_ := 1000500, least := 1000500 }] } }

theorem witness_items_finish : strobing.isActive 0x21 = true ∧ (strobing.regionOf 1).strobes.bit 3 = true ∧
    (strobing.regionOf 1).pulse.bit 3 = false ∧
    strobing.tick.items.find? (fun q => q.item.unit == 0x21 && q.item.action == 6 && q.item.arg % 8 == 3) =
      some { idx := 4, item := ⟨200, 50, 0x21, 6, 3⟩ } ∧
    (checking.wire.runs.all fun r => decide ((checking.made r).finish < checking.tickEnd)) = true ∧
    ((live.setDma 4 { burst := some (some 4) }).dmaOf 4).burst = some (some 4) ∧
    ((live.setDma 4 { burst := some (some 4) }).moverEnd 4).1 ≤ (live.setDma 4 { burst := some (some 4) }).tickEnd ∧
    ((live.setQueue 4 { burst := some (1, some 4) }).queue 4).burst = some (1, some 4) ∧
    ((live.setQueue 4 { burst := some (1, some 4) }).moverEnd 28).1 ≤ (live.setQueue 4 { burst := some (1, some 4) }).tickEnd := by
  decide +kernel

/-- A converter whose measured spare waits for its swap. -/
def swapping : State :=
  { rotated.setConv 0 { waiting := some { slice := 4, m := ⟨0, 0, 0, 1⟩, cold := false, warn := 8 }, grid := some 0 } with
    tick := { rotated.tick with items := [{ idx := 0, item := ⟨2000, 8000, 0x08, 8, 0⟩ }] } }

theorem witness_swap : ((swapping.convOf 0).waiting.map fun w => w.cold) = some false ∧
    swapping.posInstant 0 (swapping.regN 0x080A % swapping.positions 0) swapping.now < swapping.tickEnd ∧
    swapping.tick.items.find? (fun r => r.item.unit == convUnit 0 && r.item.action == 8) =
      some { idx := 0, item := ⟨2000, 8000, 0x08, 8, 0⟩ } := by decide

/-- The descriptor's burst in progress, and a queue's. -/
def bursting : State := described.moveBurst 4 none
def draining : State := ((up [0x39, 0x3B] live).setQueue 2 { words := [(1, 7)] }).moveDrain 2 3 1 none

theorem witness_bursts : let e := bursting.endMover 4
    let z := e.setDma 4 { e.dmaOf 4 with burst := none, tags := [] }
    (bursting.dmaOf 4).burst = some none ∧ bursting.isActive 0x38 = true ∧ bursting.isRunning 0x3C = true ∧
    bursting.regsWf = true ∧ (bursting.moverEnd 4).1 ≤ bursting.tickEnd ∧ z.staleTags (bursting.dmaOf 4).tags = false ∧
    z.dmaToX 4 = false ∧ z.descSpace 4 = 0 ∧ (z.dmaCfg 4).bit 9 = false ∧ (z.dmaCfg 4).bit 16 = false ∧
    z.uncorrWords (z.descWord 4 0).toNat (z.descLength 4 / 4) .clean = [] := by
  decide +kernel

theorem witness_drains : let x := draining.queue 2
    let z := (draining.endMover 26).setQueue 2 { x with burst := none, tags := [] }
    x.burst = some (1, none) ∧ draining.isActive 0x39 = true ∧ draining.isRunning 0x3B = true ∧
    (draining.moverEnd 26).1 ≤ draining.tickEnd ∧ z.staleTags x.tags = false := by decide +kernel

theorem witness_master : let s := (up [0x02] live).setReg 0x0200 0 1
    s.reg 0x0200 = 1 ∧ s.isActive 0x02 = true ∧ s.tbus.quiet = false ∧ s.tbus.io = false := by decide

/-- A follower that is locked, near its predicted boundary. -/
def follower : State := ({ (up [0x02] live) with cyc := 49990 } : State).setReg 0x0101 0 1 |>.setReg 0x0209 0 1

theorem witness_follower : follower.tracking = true ∧ follower.dozeNext = false ∧ follower.hunting = false ∧
    follower.absent = false ∧ follower.predicted ≤ follower.now + 16 + follower.guard ∧
    follower.now + 16 ≤ follower.predicted + follower.guard ∧ follower.unplaced = true ∧
    follower.now ≤ follower.predicted + follower.guard := by decide

theorem witness_follower_place : follower.tbus.place = none ∧ follower.tbus.aim = none ∧ follower.tbus.edged = false ∧
    follower.tbus.early = none ∧ follower.tbus.expired = none ∧ follower.regsWf = true ∧
    ({ follower with tbus := { follower.tbus with expired := some 5 } } : State).tbus.expired = some 5 := by decide

theorem witness_pll : live.alive = true ∧ live.pwr.locked = true ∧ live.pwr.stopped = false ∧
    (live.setReg 0x0018 0 1).regBit 0x0018 0 0 = true ∧
    (let s : State := { live with pwr := { live.pwr with stopped := true } }
     s.trigPending = false ∧ s.dozeNext = false ∧ s.pwr.restarting = false) ∧
    ({ live with pwr := { live.pwr with restarting := true } } : State).pwr.restarting = true := by decide

/-- A programming job on USER row 50. -/
def burning : State :=
  { live with
    jobs := { running := [⟨1, 0x41, .fuse ⟨none, [(50, 0)], 0, 0, 0, 0, 0, 2, false, false, (50, 0)⟩⟩]
              latest := 1, next := 2 } }

theorem witness_fuses : burning.fuseRun = some (1, ⟨none, [(50, 0)], 0, 0, 0, 0, 0, 2, false, false, (50, 0)⟩) ∧
    burning.stepFits = true ∧ burning.tempOk = true ∧ burning.canPulse = true ∧ burning.fusesWf = true ∧
    ({ live with sint := { live.sint with scan := some false } } : State).sint.scan = some false := by decide

/-- A device with one job. -/
def working (k : JobKind) : State :=
  { live with jobs := { running := [{ num := 1, op := 0x50, kind := k }], latest := 1, next := 2 } }

theorem witness_image_jobs :
    (working (.imageOpen 1 4096)).imageJob = some { num := 1, op := 0x50, kind := .imageOpen 1 4096 } ∧
    (working (.imageWrite 0x100000 [1])).imageJob = some { num := 1, op := 0x50, kind := .imageWrite 0x100000 [1] } ∧
    (working (.imageVerify 1)).imageJob = some { num := 1, op := 0x50, kind := .imageVerify 1 } ∧
    live.memoryWf = true ∧
    (let s := live.setFlashByte 0 0
     s.memoryWf = true ∧ s.erasedAt 0 = some 1) := by decide +kernel

/-- Records that begin with a zero. -/
def zeros : Nat → Nat → List Host.Cell
  | _, 0 => []
  | i, n + 1 => (32 * i, 0) :: zeros (i + 1) n

theorem mem_zeros (n : Nat) : ∀ i j, j < n → (32 * (i + j), 0) ∈ zeros i n := by
  induction n with
  | zero => intro i j h; omega
  | succ n ih =>
    intro i j h
    cases j with
    | zero => simp [zeros]
    | succ j =>
      have := ih (i + 1) j (by omega)
      rw [Nat.add_assoc, Nat.add_comm 1 j] at this
      exact List.mem_cons_of_mem _ this

theorem lookup_zeros (d : Byte) (n : Nat) : ∀ i j, j < n → lookup d (zeros i n) (32 * (i + j)) = 0 := by
  induction n with
  | zero => intro i j h; omega
  | succ n ih =>
    intro i j h
    cases j with
    | zero => simp [zeros, lookup]
    | succ j =>
      have := ih (i + 1) j (by omega)
      rw [Nat.add_assoc, Nat.add_comm 1 j] at this
      rw [zeros, lookup, if_neg (by omega), if_neg (by omega), this]

/-- A marker block without an erased record and without a valid one. -/
def fullBlock : State := { live with img := { flash := zeros 0 2048 } }

theorem zeros_lt (n : Nat) : ∀ i, ∀ c ∈ zeros i n, ∃ j < n, c.1 = 32 * (i + j) := by
  induction n with
  | zero => simp [zeros]
  | succ n ih =>
    intro i c hc
    rcases List.mem_cons.mp hc with h | h
    · exact ⟨0, by omega, by rw [h]; rfl⟩
    · obtain ⟨j, hj, e⟩ := ih (i + 1) c h
      exact ⟨j + 1, by omega, by omega⟩

theorem witness_marker_block : fullBlock.alive = true ∧
    (fullBlock.marker.any fun m => m.1 / 2048 == (false).toNat) = false ∧ fullBlock.erasedAt (false).toNat = none ∧
    fullBlock.memoryWf = true := by
  refine ⟨by decide, ?_, ?_, by decide +kernel⟩
  · have hn : ∀ i ∈ fullBlock.markerUsed, fullBlock.markerRecord i = none := by
      intro i hi
      simp only [State.markerUsed, List.mem_dedup, List.mem_map, List.mem_filter] at hi
      obtain ⟨c, ⟨hc, -⟩, rfl⟩ := hi
      obtain ⟨j, hj, e⟩ := zeros_lt 2048 0 c hc
      have h0 : fullBlock.flashByte (32 * j) = 0 := by
        have := lookup_zeros flashDefault 2048 0 j hj
        rwa [Nat.zero_add] at this
      have ha : markerAddr (c.1 / 32) = 32 * j := by
        simp only [markerAddr, e]
        omega
      unfold State.markerRecord
      rw [if_neg]
      rw [ha]
      simp [readBytes, h0]
    have hm : fullBlock.marker = none := by
      unfold State.marker
      generalize hl : fullBlock.markerUsed = l at hn
      clear hl
      induction l with
      | nil => rfl
      | cons i t ih =>
        rw [List.foldl_cons, hn i (by simp)]
        exact ih fun k hk => hn k (by simp [hk])
    rw [hm]
    rfl
  · unfold State.erasedAt
    simp only [Bool.toNat_false, Nat.mul_zero, Nat.zero_add, List.findSome?_eq_none_iff, List.mem_range]
    intro i hi
    rw [if_pos]
    simp only [List.contains_iff_mem, State.markerUsed, List.mem_dedup, List.mem_map, List.mem_filter]
    exact ⟨_, ⟨mem_zeros 2048 0 i hi, by simp; omega⟩, by simp⟩

theorem witness_region_steps : ((up [0x22] (working (.regionLoad 2 false 0 1))).findJob fun j => match j with
      | .regionLoad q .. => q == 2
      | _ => false) = some { num := 1, op := 0x50, kind := .regionLoad 2 false 0 1 } ∧
    (let s := (live.setUnit 0x22 { st := .reloading }).setRegion 2 { shadow := some ⟨1, 2, none, 0, default⟩ }
     (s.unit 0x22).st = .reloading ∧ wfMap {} s.region = true ∧ (s.regionOf 2).shadow = some ⟨1, 2, none, 0, default⟩) := by
  decide

theorem witness_units_events : let s := live.setUnit 0x10 { st := .waking, wakeT := 999000 }
    (s.unit 0x10).st = .waking ∧ (s.unit 0x10).wakeDone = false ∧ (s.unit 0x10).wakeLate = false ∧ s.wakeOver 0x10 = false ∧
    (wakeLimit 0x08).isSome = true ∧ ((live.setUnit 0x08 { st := .waking }).unit 0x08).st = .waking ∧
    isUnit 0x10 = true ∧ fixedUnit 0x10 = false ∧ (up [0x10] live).unitsWf = true ∧ live.dozeTick = false ∧
    live.tick.noWork = false ∧ (up [0x10] live).skewT 0x10 < (up [0x10] live).tickEnd ∧
    ({ live with fuma := { buf := [⟨0, 0, 0, 0, 0, 0, 0⟩] } } : State).fuma.buf = [⟨0, 0, 0, 0, 0, 0, 0⟩] ∧
    live.regsWf = true := by decide

/-- The matrix and the cells RUNNING; cell 2 a comparator with its threshold at 0.8 V that triggers on rising edges, cell 3 a
follower, cell 4 a sample-and-hold that holds at cycle 128. -/
def analog : State := ((((((up [0x18, 0x19] live).setReg 0x1807 4 24).setReg 0x1800 2 5).setReg 0x1800 3 1).setReg 0x1800 4 6).setReg 0x1806 2
  0x08).setReg 0x1900 0x20 5

theorem witness_cells : analog.isActive 0x19 = true ∧
    ({ analog with cyc := 130 } : State).closed ≠ ({ analog with cyc := 130 } : State).closeSwitches.closed ∧
    ((analog.setCell 5 { powering := true }).cell 5).powering = true ∧ (analog.cell 3).powering = false ∧
    (analog.setReg 0x1809 3 1).regBit 0x1809 3 0 = true ∧
    ((analog.setCell 4 { holding := true }).cell 4).holding = true ∧ analog.dozeTick = false ∧
    ((analog.setCell 5 { dozeOff := true }).cell 5).dozeOff = true := by decide

theorem witness_comparator : analog.cellOn 2 = true ∧ analog.reg 0x1800 2 = 5 ∧ analog.cmpOutput 2 900000000 0 = true ∧
    analog.regBit 0x1809 2 1 = false ∧ analog.cellQuiet 2 = false ∧ analog.regBit 0x1806 2 3 = true ∧
    (analog.setRegBit 0x1809 2 1 true).isRunning 0x18 = true ∧
    (let s := analog.setReg 0x1809 2 2
     s.regBit 0x1809 2 1 = true ∧ s.cmpOutput 2 0 0 = false ∧ s.regBit 0x1806 2 4 = false) := by decide

theorem witness_saturation : analog.cellOn 3 = true ∧ analog.cellStated 3 1780000000 0 = true ∧
    analog.cellStated 3 900000000 0 = true ∧ analog.cellSat 3 1780000000 0 = some true ∧
    analog.cellSat 3 900000000 0 = some false ∧ (analog.setReg 0x1809 3 4).regBit 0x1809 3 2 = true ∧
    (analog.setReg 0x1809 3 4).cellSat 3 900000000 0 = some false ∧
    analog.regBit 0x1809 3 2 = false ∧ (analog.cell 3).satTick ≠ some analog.tick.count.toNat := by decide

theorem witness_hold : let s : State := { analog with cyc := 128 }
    s.holdOccurs 24 = true ∧ s.cellOn 4 = true ∧ s.reg 0x1800 4 = 6 ∧ s.regN 0x1807 4 = 24 ∧ (s.cell 4).holding = false := by
  decide

/-- The last doze tick of a window, with a cell that the window holds off. -/
def dozing : State :=
  ({ analog.setCell 5 { dozeOff := true } with
     tick := { live.tick with count := 255, noWork := true } } : State).setReg 0x0207 0 1 |>.setReg 0x0208 0 8 |>.setReg 0x0209 0 0x10

theorem witness_doze_power_up : let s := dozing
    (s.cell 5).dozeOff = true ∧ s.dozeTick = true ∧ s.wakeBoundary - s.dozeLead 5 < s.tickEnd := by decide

/-- A region's body that owns DAC port 1, stream ports and SRAM port 0, samples an input port and owns FEV line 2. -/
def ported : RegionBody :=
  { (default : RegionBody) with ownPorts := 0x11F02, ownFev := 4, reads := [(9, 0)], windows := [(0, 0x1000, 64)] }

/-- A device with a region of that body. -/
def fabricated : State := (up [0x20, 0x1A, 0x30, 0x38, 0x3C] live).setRegion 0 { active := some ⟨1, 1, none, 0, ported⟩ }

theorem witness_dac : let s := ((up [0x1A] live).setReg 0x1A01 2 1).setReg 0x1A04 2 1
    s.dacOn 2 = true ∧ s.reg 0x1A01 2 ≠ 0 ∧ (s.setReg 0x1A05 2 1).dacOn 2 = true ∧
    (s.setReg 0x1A05 2 1).regBit 0x1A05 2 0 = true ∧ s.regBit 0x1A05 2 0 = false ∧
    ((s.setDac 2 { held := some 5, latchT := some 7 }).dac 2).held = some 5 ∧
    ((s.setDac 2 { offT := some 1000400 }).dac 2).offT = some 1000400 ∧ s.regsWf = true ∧ wfMap {} s.dacs = true := by decide

/-- The state in which a fabric write of channel 1 acts, from a state and ten cycles later. -/
def portTen (s : State) : State := State.dueHeld (s.elapse 10).now (s.elapse 10) 1

theorem witness_dac_port : (portTen fabricated).portOwner 1 = some 0 ∧ (portTen fabricated).isRunning 0x1A = true ∧
    (portTen fabricated).reg 0x1A02 1 ≠ 2 ∧
    (let z := portTen (fabricated.setUnit 0x1A {})
     z.portOwner 1 = some 0 ∧ z.isRunning 0x1A = false) ∧
    (let z := portTen (fabricated.setReg 0x1A02 1 2)
     z.portOwner 1 = some 0 ∧ z.reg 0x1A02 1 = 2 ∧ (z.dac 1).latchT = none) ∧
    (let z := portTen ((fabricated.setReg 0x1A02 1 2).setDac 1 { latchT := some 999900 })
     z.portOwner 1 = some 0 ∧ (z.dac 1).latchT = some 999900 ∧ z.now < 999900 + 400 ∧ (z.dac 1).held = none) := by decide

theorem witness_clamp : (up [0x1B] live).regsWf = true ∧ (up [0x1B] live).isActive 0x1B = true ∧
    (up [0x1B] live).regBit 0x1B17 0 7 = false ∧ monitored ((live.setReg 0x1B00 7 1).reg 0x1B00 7) = true ∧
    (live.setReg 0x1B17 0 0x80).regBit 0x1B17 0 7 = true := by decide

/-- Converter A in cold calibration: a step of its spare, or of another slice, and a measured spare that waits. -/
def cold (x : ConvSt) : State := (((up [0x08] live).setReg 0x0806 0 2).setReg 0x0807 0 0x4688).setConv 0 x

theorem witness_cold : let sp : ColdStep := { slice := 4, spare := true, start := 999000, warn := 8 }
    let s := cold { cold := some sp }
    (s.convOf 0).cold = some sp ∧ s.convWorks 0 = true ∧ ((s.reach 1006040).active 0).contains 4 = false ∧
    (let q : ColdStep := { slice := 3, spare := false, start := 999000, warn := 8 }
     let z := (cold { cold := some q }).setReg 0x0801 0 1
     (z.convOf 0).cold = some q ∧ z.convWorks 0 = true ∧ ((z.reach 1006040).active 0).contains 3 = false) := by decide

theorem witness_cold_swap : let w : Waiting := { slice := 4, m := ⟨0, 0, 0, 1⟩, cold := true, warn := 8 }
    let s := cold { waiting := some w, grid := some 0 }
    (s.convOf 0).waiting = some w ∧ s.gridRuns 0 = true ∧ (s.active 0).contains 4 = false ∧
    s.regBit 0x0806 0 1 = true ∧ (s.convOf 0).timedOut = false ∧ wfMap {} s.conv = true := by decide

/-! ### Witnesses: conversions, the fabric, serial ports, random numbers -/

theorem witness_triggers : let s := ((up [0x0A, 0x08] live).setReg 0x0A48 0 1).setReg 0x0A40 0 2000
    s.pulseFrom 0 (max s.cyc (lookup 0 (s.seqOf 0).pulsed 0 - s.tickStart)) = some 2000 ∧ s.timerOn 0 = true ∧
    s.tickStart + 2000 < s.tickEnd ∧ s.dozeTick = false ∧ fabricated.fevOwned 2 = true ∧ fabricated.fevOwned 3 = false ∧
    fabricated.dozeTick = false := by decide

/-- Sequencer A with a class A trigger on its way. -/
def triggered : State := (up [0x0A, 0x08] live).setSeq 0 { trigs := [⟨0, 0, 1000100, none⟩] }

/-- A run from an entry on, whose next sample is taken at an instant. -/
def run (first t : Nat) : Run :=
  { first := first, next := first, t := t, pre := false, prevT := none, brks := [], item := none, tags := (0, 0) }

theorem witness_trigger_ready : (triggered.seqOf 0).trigs = [⟨0, 0, 1000100, none⟩] ∧ triggered.pwr.stopped = false ∧
    ((triggered.reach 1000100).setSeq 0 { triggered.seqOf 0 with trigs := [] }).seqReady 0 = true ∧
    ((live.reach 1000100).setSeq 0 { triggered.seqOf 0 with trigs := [] }).seqReady 0 = false ∧
    ((triggered.setSeq 0 { triggered.seqOf 0 with a := some (run 0 1000200) }).seqOf 0).a ≠ none := by
  decide

/-- A class B run whose entry 3 names ring 1. -/
def running : State := ((up [0x0A, 0x08] live).setReg 0x0A23 0 0x0E0000).setSeq 0 { bc := some (run 3 1000020) }

theorem witness_result : let e := (running.reach (max 1000020 (min (running.now + 10) 1000068))).entryAt 0 1000020 3
    (running.seqOf 0).bc = some (run 3 1000020) ∧ 1 < entryClass e ∧ e.bit 23 = false ∧
    e.bit 18 = true ∧ (running.findJob fun j => match j with
      | .capture cc en .. => cc == .a && en == 3
      | _ => false) = none ∧ running.now ≤ 1000020 + 48 := by decide

/-- A word on its way to ring 0 of 16 words at 0x4000, its tags those of its units' epochs or not. -/
def ringWord (tag : BitVec 8) : RingReq :=
  { cls := 2, prod := 0, ring := 0, word := 0x12345678, item := none, at_ := 999990, tags := [(0x0A, tag)] }

def ringing : State :=
  { ((up [0x0A, 0x3C] live).setReg 0x0A50 0 0x4000).setReg 0x0A58 0 0x806 with mem := { rings := [ringWord 0] } }

theorem witness_ring_write : nextRing ringing.mem.rings = some (ringWord 0) ∧ ringing.sound = true ∧
    ringing.staleTags (ringWord 0).tags = false ∧ ringing.staleTags (ringWord 1).tags = true ∧
    nextRing [ringWord 1] = some (ringWord 1) ∧
    (ringing.reg (ringId 0 0x58)).bit 11 = true ∧ ringing.isRunning (ringUnit 0) = true ∧
    (ringing.reg (ringId 0 0x58)).bit 5 = false ∧ ringing.isRunning 0x3C = true ∧
    ringing.ringLevel 0 + 1 < ringSize (ringing.reg (ringId 0 0x58)) ∧
    ({ live with mem := ringing.mem } : State).sound = true ∧ (live.reg (ringId 0 0x58)).bit 11 = false := by decide

/-- A chain with an output, and a snapshot of two words with one delivered. -/
def chainOut (p : Bool) : ChainOut :=
  { word := 0, cls := 2, primed := p, ovr := false, last := false, tag := 0, due := 1000064 }
def output (p : Bool) : State := (up [0x10] live).setFilt 0 { outs := [chainOut p] }
def snapping (dl : Nat) : State :=
  { up [0x08, 0x3C] (working (.capture .a 3 0x100 2 0 dl)) with mem := { caps := [(1, 0x55)] } }

theorem witness_outputs : ((output true).filtOf 0).outs = [chainOut true] ∧ ((output true).filtOf 0).taken = none ∧
    ((output false).filtOf 0).outs = [chainOut false] ∧ (output true).reg 0x100D = 0 ∧
    ((output true).setReg 0x100D 0 1).reg 0x100D ≠ 0 := by decide

theorem witness_snapshots : ((snapping 9).findJob fun j => match j with
      | .capture cc .. => cc == .a
      | _ => false) = some { num := 1, op := 0x50, kind := .capture .a 3 0x100 2 0 9 } ∧
    (snapping 9).mem.caps.find? (fun p => p.1 == 1) = some (1, 0x55) ∧ (snapping 9).isRunning 0x3C = true ∧
    (snapping 9).captureOver 9 = false ∧ (snapping 7).captureOver 7 = true := by decide

/-- A word of sequencer A on its way to input port 9 of region 0. -/
def streamed (tag : BitVec 8) : State :=
  fabricated.setRegion 0 { fabricated.regionOf 0 with inbox := [{ port := 9, word := 5, prod := 0x0A, tags := [(0x0A, tag)] }] }

theorem witness_fabric_events : (fabricated.unit 0x20).st = .running ∧ (fabricated.unit 0x20).skewed = false ∧
    (live.unit 0x21).st = .off ∧
    (let s := ((up [0x28] live).setReg 0x2810 0 2).setReg 0x2809 0 5
     s.isActive 0x28 = true ∧ s.regBit 0x2810 0 1 = true ∧ s.reg 0x2809 ≠ 0) ∧
    (((streamed 0).elapse 0).nextWord 0 .filt 7) = some { port := 9, word := 5, prod := 0x0A, tags := [(0x0A, 0)] } ∧
    (streamed 0).isRunning 0x20 = true ∧ ((streamed 0).setUnit 0x20 {}).isRunning 0x20 = false ∧
    (streamed 0).staleTags [(0x0A, 0)] = false ∧ (streamed 1).staleTags [(0x0A, 1)] = true ∧
    lookup none ((streamed 0).regionOf 0).held 9 = none ∧
    (let s := (streamed 0).setRegion 0 { (streamed 0).regionOf 0 with dropTick := true, held := [(9, some 1)] }
     (s.regionOf 0).dropTick = true ∧ lookup none (s.regionOf 0).held 9 ≠ none) := by decide

theorem witness_fabric_sram : fabricated.portOwner 16 = some 0 ∧ fabricated.isRunning 0x3C = true ∧
    fabricated.body 0 = some ported ∧ (0, 0x1000, 64) ∈ ported.windows ∧
    ((State.ringsBefore (bankOf 0x1000) (fabricated.sramClass 0 0) fabricated.mem.rings.length fabricated).grant
      (bankOf 0x1000) (fabricated.sramClass 0 0) false).memoryWf = true ∧
    (∀ base size, (1, base, size) ∉ ported.windows) := by
  refine ⟨by decide, by decide, by decide, by decide, by decide, fun b z h => ?_⟩
  simp [ported] at h

theorem witness_fabric_streams : let s := fabricated.setReg 0x3800 0 0x11
    s.portOwner 12 = some 0 ∧ s.isRunning 0x38 = true ∧ (s.dmaCfg 0).bit 0 = true ∧ (s.dmaCfg 0).bit 4 = true ∧
    (s.dmaCfg 0).bit 15 = false ∧ s.isRunning 0x3C = true ∧ (s.dmaOf 0).stream = [] ∧ s.streamWaits 0 = false ∧
    (s.setUnit 0x38 {}).isRunning 0x38 = false ∧ (s.setUnit 0x38 {}).portOwner 12 = some 0 ∧
    ((s.setDma 0 { stream := List.replicate 64 0 }).dmaOf 0).stream.length = 64 := by decide

theorem witness_fabric_queues : let z := (fabricated.setReg 0x3005 0 1).setUart 0 { rxq := [0x41], handT := some 999990 }
    z.portOwner 8 = some 0 ∧ z.isRunning 0x30 = true ∧ z.isTransport 0 = false ∧ z.reg 0x3005 ≠ 0 ∧
    (z.uartOf 0).txq.length < (z.depths 0).2 ∧ ((z.elapse 3).uartOf 0).rxq = [0x41] ∧
    ((z.elapse 3).uartOf 0).handT = some 999990 ∧ (z.setUnit 0x30 {}).isRunning 0x30 = false ∧
    (let f := z.setUart 0 { txq := List.replicate 256 0 }
     (f.depths 0).2 ≤ (f.uartOf 0).txq.length) := by decide +kernel

/-- Channel 0 RUNNING, inside a character, or with a byte to send. -/
def channel (x : UartSt) : State := (up [0x30] live).setUart 0 x

/-- What channel 0 knows of its line after transitions, and the state in which sample `j` finds a start bit. -/
def sampled (edges : List Nat) : UartSt := ((channel {}).uartOf 0).see 1000000 edges
def startsAt (edges : List Nat) (j : Nat) : State :=
  ((((channel {}).reach ((sampled edges).sampleAt j)).setRegBit 0x300D 0 3 false).setRegBit 0x300D 0 4 false).gapCheck 0
def startBit (edges : List Nat) (j : Nat) : Bool :=
  let z := startsAt edges j
  let y := { ((sampled edges).huntFrom j true).afterHigh with divLive := z.rxDiv 0 (sampled edges).afterHigh.lin }
  y.bitOf (z.format 0) 0

/-- A line that falls and stays low is a start bit, one that rises after less than half a bit time is a glitch, and one that
does not fall is neither. -/
theorem witness_start_bits : (channel {}).isRunning 0x30 = true ∧ (channel {}).pwr.stopped = false ∧
    ((channel {}).uartOf 0).inChar = false ∧ ((channel {}).uartOf 0).waits = false ∧ (channel {}).regBit 0x3008 0 0 = false ∧
    (sampled []).startSample = none ∧ (sampled [10]).startSample = some 4609 ∧ startBit [10] 4609 = false ∧
    (sampled [10, 400]).startSample = some 4609 ∧ startBit [10, 400] 4609 = true := by decide

/-- A character in progress, of 0x13 with XON and XOFF codes 0x11 and 0x13 on a line of 16 cycles a bit. -/
def charging (fc : Word) : State :=
  (channel { inChar := true, divLive := 0x100, smp := 256 * 1000000, high := false, fcLive := fc, chLive := 0x1113 })

theorem witness_character : let s := charging 1
    let w := (s.uartOf 0).see ((s.uartOf 0).sampleAt 0) [16, 48, 80, 96, 144]
    let t := charTags w.fmtLive w.decide
    s.isActive 0x30 = true ∧ (s.uartOf 0).inChar = true ∧ (s.reach 1000152).linMode 0 = false ∧
    w.decide = ⟨0x13, true, true, false⟩ ∧ t = (0x13, false, false, false, false) ∧
    t.1 = w.chLive.setWidth 8 ∧ w.fcLive.bit 0 = true ∧ ((charging 0).uartOf 0).fcLive.bit 0 = false := by decide

theorem witness_idle_line : let s := channel {}
    (s.uartOf 0).endsHigh = true ∧ (s.setReg 0x300D 0 0).regBit 0x300D 0 3 = false ∧ s.regsWf = true ∧ s.linMode 0 = false ∧
    (s.setReg 0x3008 0 1).regBit 0x3008 0 0 = true := by decide

/-- A measured 0x55: edges every 100 cycles. -/
def edges : List Nat := [0, 100, 200, 300, 400, 500, 600, 700, 800]

theorem witness_autobaud : measureDiv 0x55 8 edges false = none ∧ (measureDiv 0x55 8 edges true).isSome = true := by decide

theorem witness_transmitter : let s := channel { owed := some 0x13, rxq := [1, 2], txq := [0x42] }
    s.txFree 0 = true ∧ s.txHeld (s.txEnd 0 (charBits (s.reg 0x3002))) = false ∧ (s.uartOf 0).owed = some 0x13 ∧
    (s.setReg 0x3006 0 2).regBit 0x3006 0 1 = true ∧ (s.setReg 0x3006 0 2).txFree 0 = true ∧ s.regBit 0x300D 0 2 = false ∧
    ((s.setReg 0x3006 0 2).reg 0x3006).bits 16 8 < 2 ∧ s.tapOverrides = false ∧
    (channel { txq := [0x42] }).txFree 0 = true ∧ ((channel { txq := [0x42] }).trOf 1).out = [] ∧
    s.regBit 0x300D 0 1 = false ∧ (((channel {}).setTr 1 { out := [9] }).trOf 1).out = [9] := by decide

theorem witness_frames : let s := fun x : UartSt => (channel x).setReg 0x3020 0 3
    (s {}).linMode 0 = true ∧ (s {}).isRunning 0x30 = true ∧ ((s {}).uartOf 0).lin = .hunt ∧ (s {}).regBit 0x300D 0 4 = false ∧
    ((s { inChar := true }).uartOf 0).inChar = true ∧
    ((s { lin := .subscribe, linGot := [1] }).uartOf 0).lin = .subscribe ∧ (s { lin := .publish }).txFree 0 = true ∧
    ((s { lin := .publish }).uartOf 0).lin = .publish ∧ (s { txq := [0x10] }).regBit 0x3020 0 1 = true ∧
    (s { txq := [0x10] }).txFree 0 = true ∧ (s { txq := [0x10] }).regBit 0x300D 0 1 = false ∧
    (let z := (s { txq := [0x10] }).popTx 0
     let y := z.reach (z.txEnd 0 40)
     ((y.setUart 0 { y.uartOf 0 with txT := y.now, linT := y.now }).bumpBy 0x3011 0 2).regBit 0x3020 0 2 = false) := by decide

/-- Samples that alternate, of which no test fails, and a source that is stuck. -/
def alternating : List Bool := (List.range 1024).map fun i => i % 2 == 0
def stuck : List Bool := List.replicate 1024 true

theorem witness_rng : random.isRunning 0x05 = true ∧ random.isActive 0x05 = true ∧ random.rng.stopped = false ∧
    random.rng.live = true ∧ random.rng.calls < 4096 ∧ random.rng.buf.length + 64 ≤ 256 ∧
    (random.findJob fun k => match k with
      | .random .. => true
      | _ => false) = none ∧ random.tr = [] ∧ random.regsWf = true ∧
    ({ live with rng := { retest := 3 } } : State).rng.seeding = false ∧
    ({ live with rng := { seeding := true } } : State).rng.stopped = false := by decide

theorem witness_health : continuousFail [[], [], [true], []] [[true, false], stuck, [true], [false]] = some (1, false) := by
  decide +kernel

theorem witness_retest : startFail (List.replicate 4 alternating) = none ∧ alternating.length = 1024 ∧
    startFail [alternating, alternating, stuck, alternating] = some (81, 2, false) := by decide +kernel

theorem witness_background : (stored.setReg 0x3C00 0 1).scrubs = true ∧ stored.isRunning 0x3C = true ∧
    (let s := (((up [0x39] stored).setReg 0x3982 0 1).setReg 0x3981 0 256).setQueue 1 { words := List.replicate 64 (0, 0) }
     s.isRunning 0x39 = true ∧ s.isRunning 0x3B = true ∧ s.regBit 0x3982 0 0 = true ∧
     s.regN 0x3981 ≤ 4 * (s.queue 1).words.length ∧ (s.queue 1).burst = none) ∧
    (let s := described.setReg 0x3804 0 0x6F
     s.isRunning 0x38 = true ∧ (s.dmaCfg 4).bit 0 = true ∧ (s.dmaCfg 4).bit 3 = true ∧ (s.dmaCfg 4).bits 1 2 = 3 ∧
     s.dmaPending (fun a b => s.reg a b) 4 ≠ 0 ∧ (s.dmaOf 4).burst = none ∧ s.isRunning 0x3C = true ∧
     s.descStatus 4 = 0 ∧ (s.setSramWord 0x1008 7).descStatus 4 ≠ 0) := by decide +kernel

theorem witness_pattern : let s := stored.setReg 0x3B07 0 1
    let m := s.addMover { who := 40, cls := 3, lane := false
                          legs := [{ port := 1, addr := s.psramBytes, rem := 128, unit := 64 }] }
    s.reg 0x3B07 ≠ 0 ∧ s.patternDue = true ∧ s.dozeTick = false ∧ (m.moverEnd 40).1 ≤ m.tickEnd := by decide +kernel

theorem witness_tap : live.tapHeld = false ∧ State.reset.tapHeld = true ∧ live.debugOpen = true ∧
    ({ live with sec := { life := 2 } } : State).debugOpen = false ∧
    ({ live with sec := { life := 2 } } : State).tapHeld = false := by decide

theorem witness_functions : State.reset.counterBit 1 0 = true ∧ (counterShape 1).2 = 8 ∧
    (∀ q < 8, 0 < q → State.reset.counterBit 1 q = false) ∧
    (let x : MacSt := { a := 0x1FFFF, b := 0x1FFFF, p := 0x7FFFFFFFFFFF }
     x.p.toInt + x.a.toInt * x.b.toInt ≥ 2 ^ 47) := by decide

/-- Steps from sound states: the queue's front, and the invariants. -/
theorem witness_steps : let s : State := { State.reset with pending := [.tapReset true, .bypass] }
    s.logOk = true ∧ s.jobsOk = true ∧ s.formsWf = true ∧ s.fusesWf = true ∧ (State.reset.fuseCopy true 36).bit 0 = true ∧
    (match step s with
      | .next t => t.pending == [.bypass]
      | _ => false) = true := by decide


/-- The frames of the requests that only read and of the commands that store nothing. -/
theorem witness_frame_premises : live.regsWf = true ∧ storesNothing .bypass = true ∧
    (match exec (.nop hd [7]) live with
      | .next t => t.now == live.now + hd.dt
      | _ => false) = true ∧
    (match exec .bypass live with
      | .next t => t.tap.ir == 0xFF
      | _ => false) = true := by decide

/-! ### What WellFormed refuses -/

/-- Slice terms with one field in range or out of it. -/
def meas (o : Int) (r : Nat) : SliceMeas := ⟨o, 0, 0, r⟩

theorem test_wellformed_accepts : (Instr.echo hd [1, 2]).wellFormed = true ∧
    (Instr.requestCommit .spi 0 [0xC5, 0x05, 0x7F, 0x00, 0, 0, 0, 0]).wellFormed = true ∧
    (Instr.sinterDelivery none (some [0, 0, 0, 0]) none).wellFormed = true ∧
    (Instr.coldStep .a ⟨-32768, 0, 0⟩ 4095).wellFormed = true ∧
    (Instr.sramEccUncorr 0x7FFFFF).wellFormed = true ∧ (Instr.privateDebug 0xFE).wellFormed = true ∧
    Instr.idcode.wellFormed = true := by decide

theorem test_wellformed_refuses : (Instr.echo hd (List.replicate 256 0)).wellFormed = false ∧
    (Instr.debugUnlockResponse hd false 1 []).wellFormed = false ∧
    (Instr.requestCommit .spi 0 [0xC5, 0x05, 0x7F, 0x01, 0, 0, 0, 0]).wellFormed = false ∧
    (Instr.requestCommit .spi 0 [0xC5]).wellFormed = false ∧
    (Instr.requestCommit .spi 0 (List.replicate 1032 0)).wellFormed = false ∧
    (Instr.sinterDelivery (some [0]) none none).wellFormed = false ∧
    (Instr.sinterDelivery none (some [0]) none).wellFormed = false ∧
    (Instr.sinterDelivery none none (some [(0, 0)])).wellFormed = false ∧
    (Instr.trimReread .option (some [0])).wellFormed = false ∧
    (Instr.wireCheck 0 (List.replicate 25 ⟨0, 0, 0, 0, 0⟩)).wellFormed = false ∧
    (Instr.calRotate 0 (meas 32768 0)).wellFormed = false ∧ (Instr.calRotate 0 (meas 0 4096)).wellFormed = false ∧
    (Instr.calRotate 0 ⟨0, -32769, 0, 0⟩).wellFormed = false ∧ (Instr.calRotate 0 ⟨0, 0, 2048, 0⟩).wellFormed = false ∧
    (Instr.resultWordDelivery .a 0 true ⟨32768, none, 0, 0⟩).wellFormed = false ∧
    (Instr.resultWordDelivery .a 0 true ⟨0, none, -32769, 0⟩).wellFormed = false ∧
    (Instr.resultWordDelivery .a 0 true ⟨0, none, 0, 32768⟩).wellFormed = false ∧
    (Instr.fabricSramRequest 0 0x800000 none ⟨.clean, 0⟩).wellFormed = false ∧
    (Instr.fabPortInputWord 0 .seq 2 0).wellFormed = false ∧ (Instr.fabPortInputWord 0 .uart 4 0).wellFormed = false ∧
    (Instr.coldStep .a ⟨0, 0, 2048⟩ 0).wellFormed = false ∧
    (Instr.sramEccUncorr 0x800000).wellFormed = false ∧
    (Instr.linPublishResponse 0 (List.replicate 10 0)).wellFormed = false ∧
    (Instr.uartStartBit 0 [5, 3]).wellFormed = false ∧ (Instr.uartCharComplete 0 [5, 5]).wellFormed = false ∧
    (Instr.spiFirstByte [] 0).wellFormed = false ∧ (Instr.rngHealthFail [] []).wellFormed = false ∧
    (Instr.rngHealthFail (List.replicate 4 []) (List.replicate 4 [])).wellFormed = false ∧
    (Instr.rngRetestEnd (List.replicate 4 (List.replicate 1025 true))).wellFormed = false ∧
    (Instr.rngRecovered ⟨[], stuck⟩).wellFormed = false ∧ (Instr.drbgReseed ⟨stuck, []⟩).wellFormed = false ∧
    (Instr.privateDebug 0x7F).wellFormed = false ∧ (Instr.privateDebug 0xFF).wellFormed = false := by
  decide +kernel

/-! ### Values that the spec states -/

/-- The table gives no row any bits: no word spells a command. -/
theorem test_decode_none : decodeTableWord 8 0x7F = none ∧ (State.reset.withFetchWord 8 0x7F).pending = [] := by decide

/-- R224: CRC-32C of "123456789" is 0xE3069283. -/
theorem test_crc32c_check : crc32c [0x31, 0x32, 0x33, 0x34, 0x35, 0x36, 0x37, 0x38, 0x39] = 0xE3069283 := by
  decide +kernel

/-- R807: identifier 0x10 has PID 0x50; data 0x12, 0x34 have the enhanced checksum 0x69 and the classic one 0xB9. -/
theorem test_lin_example : linPid 0x10 = 0x50 ∧ (channel {}).linSum 0 0x10 0x50 [0x12, 0x34] = 0xB9 ∧
    ((channel {}).setReg (uartId 0 0x50) 0 0x40).linSum 0 0x10 0x50 [0x12, 0x34] = 0x69 := by decide

/-- R865: IDCODE reads 0x3048096B. -/
theorem test_idcode : (match exec (.tapReset false) live with
    | .next t => t.tap.captured
    | _ => 0) = 0x3048096B := by decide

/-- R608 and R647: −2^47 less one wraps or saturates with OVF; a LOAD in the same cycle leaves OVF low. -/
theorem test_mac_overflow :
    let c : MacCfg := { (default : MacCfg) with mode := 1 }
    let x : MacSt := { a := 1, b := 0x3FFFF, p := 0x800000000000 }
    (macEdge c x 0 0 0 true false).p = 0x7FFFFFFFFFFF ∧ (macEdge c x 0 0 0 true false).ovf = true ∧
    (macEdge { c with sat := true } x 0 0 0 true false).p = 0x800000000000 ∧
    (macEdge c { x with load := true } 0 0 0 true false).ovf = false := by decide

/-- R187 and R188: positions 0 and 5 of LIFECYCLE set: the value is 6, and there is a gap. -/
theorem test_thermometer : let s : State := { State.reset with sint := { copy0 := [(36, 0x21)], copy1 := [] } }
    s.counterValue 1 = 6 ∧ s.counterGap 1 = true := by decide

/-- R360 and R362: with 512 entries held the log overwrites the oldest, and the number goes on. -/
theorem test_log_overwrites : let e : Event := ⟨0, 0, 0, 0, 0, 0, 0⟩
    let s : State := { live with fuma := { log := List.replicate 512 e, buf := [e] } }
    s.takeEvent.fuma.log.length = 512 ∧ s.takeEvent.reg 0x0602 = 1 ∧ s.takeEvent.reg 0x0601 = 1 := by decide +kernel

/-- R112: a pulse on RST_N between 50 ns and 1 µs stops the model. -/
theorem test_rst_pulse : (match exec (.rstNAssert 500) live with
    | .fault .rstPulseUnstated => true
    | _ => false) = true := by decide

/-- R20, R23, R26: a boundary of a released device: the count grows by one. -/
theorem test_boundary : (match exec (.tickBoundary 0) live with
    | .next t => t.tick.count
    | _ => 0) = 8 := by decide +kernel

/-- R534: a ring of 4 words with three unread drops the next under HALT and sets FULL_SEEN. -/
theorem test_ring_full : let s := (ringing.setReg 0x0A58 0 0xC04).setReg 0x0A60 0 3
    (match exec (.ringWrite false) s with
      | .next t => decide (t.reg 0x0A60 = 3 ∧ t.reg 0x0A80 = 1 ∧ t.regBit 0x0A70 0 2 = true ∧ t.mem.sram = [])
      | _ => false) = true := by decide

/-- R600: an L-cell's table entry I3·8 + I2·4 + I1·2 + I0. -/
theorem test_lut : combOut { (default : CellCfg) with init := 0x0400 } 0 [false, true, false, true] = true ∧
    combOut { (default : CellCfg) with kind := 2 } 0 [false, false, true, false, false, true] = true := by decide

end Sys2Proof.Tests
end

section
/-! PROOFS. How a plan item starts (R38, R39, R61). -/

namespace Sys2Proof.Machine

/-- An action that is not aimed at its own item, its own tick or its own time starts nothing. -/
theorem State.startItem_idle {s : State} {i : Nat} (h : i ∈ s.tick.fired ∨ s.tick.noWork = true) (action : Nat) :
    s.startItem i action = (s, none) := by
  unfold State.startItem
  rcases hp : s.tick.plan.bind fun p => p.items[i]? with _ | it
  · rfl
  · have hc : (!s.released || s.tick.noWork || it.action != action || s.tick.fired.contains i ||
        decide (s.tickEnd ≤ s.tickStart + it.offset)) = true := by
      rcases h with h | h <;> simp [h]
    exact if_pos hc

/-- What becomes of an item that comes up: by the unit's state at its offset it waits for the end of a freeze (R61), is
skipped and counted, or starts (R38). -/
theorem State.startItem_comesUp {s : State} {i action : Nat} {it : PlanItem} (h : s.comesUp i action it) :
    s.startItem i action =
      let z := s.reach (s.tickStart + it.offset)
      let k : State := { z with tick := { z.tick with fired := i :: z.tick.fired } }
      if (s.unit it.unit).st = .reloading then
        ({ k with tick := { k.tick with skip := k.tick.skip ++ [i] } }, none)
      else if !s.isRunning it.unit || (action == 2 && !dmaItemOk (fun a b => z.reg a b) it.arg) then
        (k.bump 0x0108, none)
      else (s.started i it, some it) := by
  obtain ⟨hp, ha, hr, hw, hf, -, he⟩ := h
  have hu : ∀ u, (s.reach (s.tickStart + it.offset)).unit u = s.unit u := fun u => by simp [State.unit]
  unfold State.startItem
  simp only [hp]
  rw [if_neg (by simp [ha, hr, hw, hf]; omega)]
  simp only [State.unit, State.isRunning, State.reg, State.started, State.reach_units]

/-- A plan item starts at its offset, where the clock has not passed it. -/
theorem State.started_now {s : State} {i action : Nat} {it : PlanItem} (h : s.comesUp i action it) :
    (s.started i it).now = s.tickStart + it.offset := by
  obtain ⟨-, -, -, -, -, ht, -⟩ := h
  show (s.reach (s.tickStart + it.offset)).now = _
  rw [State.reach_now]
  omega

/-- Settles O25: the three outcomes of an item that comes up, by the state of its unit, and the one of an item that does
not. -/
theorem planItemsStart : Obligations.PlanItemsStart := by
  intro s i action it
  refine ⟨fun ⟨hc, hrun, hdma⟩ => ⟨?_, State.started_now hc⟩, fun hc => ⟨fun hst hrun => ?_, fun hst => ?_⟩,
    fun h => State.startItem_idle h action⟩
  · have hst : (s.unit it.unit).st ≠ .reloading := fun h => by simp [State.isRunning, h] at hrun
    have hok : (action == 2 && !dmaItemOk (fun a b => (s.reach (s.tickStart + it.offset)).reg a b) it.arg) = false := by
      by_cases h2 : action = 2
      · simp [hdma h2]
      · simp [h2]
    rw [State.startItem_comesUp hc]
    simp only [if_neg hst, hrun, hok, Bool.not_true, Bool.or_false, Bool.false_eq_true, if_false]
  · rw [State.startItem_comesUp hc]
    simp [hst, hrun]
  · rw [State.startItem_comesUp hc]
    simp [hst]

end Sys2Proof.Machine
end

section
/-! PROOFS. What parameter access comes to where no check refuses it: GET, SET, SET_NOW, SET_GROUP and CANCEL_PENDING (R24,
R28, R29, R63, R284 to R291). -/

namespace Sys2Proof.Machine

/-! ### GET -/

/-- The GET of a parameter other than UNIT.STATE with no value pending returns its value twice (R284). -/
theorem State.getParam_of {s : State} {id sub : Nat} (hw : writeOnly id = false) (hh : s.notHost id = false)
    (hf : id % 256 ≠ 0xF0) (hu : (s.unit (id / 256)).st ≠ .draining)
    (hp : (s.sets.filter fun x => x.id == id && x.sub == sub) = []) :
    s.getParam id sub = (s.afterGet id, stDone, [Word.of id, s.read id sub, s.read id sub]) := by
  have hf' : (id % 256 == 0xF0) = false := beq_eq_false_iff_ne.2 hf
  unfold State.getParam
  simp [hw, hh, hf', hf, hp, State.unlessDraining_of _ hu]

/-- A ready GET of such a parameter. -/
theorem State.serve_get {s : State} {h : Hdr} (hr : s.ready h = true) (hrel : s.released = true) {ws : List Word}
    {id sub : Nat} (ht : targetOf ws 0 = .inr (id, sub)) (h1 : 1 ≤ ws.length) (h2 : ws.length ≤ 2)
    (hw : writeOnly id = false) (hh : (s.atCommit h).notHost id = false) (hf : id % 256 ≠ 0xF0)
    (hu : ((s.atCommit h).unit (id / 256)).st ≠ .draining)
    (hp : ((s.atCommit h).sets.filter fun x => x.id == id && x.sub == sub) = []) :
    s.serve h 0x10 ws (State.doGet ws) = ((s.atCommit h).afterGet id).replying h 0x10 stDone
      [Word.of id, (s.atCommit h).read id sub, (s.atCommit h).read id sub] := by
  rw [State.serve_run hr hrel (by decide) (by decide) (l := (1, 2)) rfl h1 h2]
  simp only [State.doGet, ht, State.getParam_of hw hh hf hu hp]

/-- Settles O6: a GET whose checks pass, the same GET of TICK.COUNT_LO with its capture, and the reading of TICK.COUNT_HI. -/
theorem getReturnsParameter : Obligations.GetReturnsParameter := by
  intro s h hr hrel
  refine ⟨fun ws id sub ht h2 h1 hw hh hf hu hp => ?_, fun hu hp => ?_, rfl⟩
  · exact congrArg Host.Outcome.next (State.serve_get hr hrel ht h1 h2 hw hh hf hu hp)
  · exact congrArg Host.Outcome.next (State.serve_get (id := 0x0102) (sub := 0) hr hrel (by decide) (by decide) (by decide)
      (by decide) rfl (by decide) hu hp)

/-! ### The checks of a value -/

/-- A value that no check of a SET refuses (R274, R286): `z` and `sets` are the state and the pending settings for which the
rules over several parameters are checked, from the distance `d` on. -/
structure State.Passes (s z : State) (sets : List Setting) (d id sub : Nat) (w : Word) : Prop where
  value  : valueOk id sub w = true
  host   : s.notHost id = false
  action : s.actionOk id w = true
  cross  : z.crossOkFrom sets d id sub = true
  doze   : s.dozeEarly (z.viewAt sets d) id w = false
  unit   : (s.unit (id / 256)).st ≠ .draining

/-- Such a value goes through. -/
theorem State.checkValue_of_passes {s z : State} {sets : List Setting} {d id sub : Nat} {w : Word}
    (h : s.Passes z sets d id sub w) (vi : Nat) (ok : Answer) : s.checkValue z sets d id sub w vi ok = ok := by
  obtain ⟨h1, h2, h3, h4, h5, h6⟩ := h
  simp [State.checkValue, h1, h2, h3, h4, h5, State.unlessDraining_of _ h6]

/-- Whether a SET writes a parameter's register with the value that it gives. -/
def plainly (id : Nat) : Bool := (paramRow id).any fun r => r.acc == .rw

/-- The SET of a value that waits for its boundary (R28, R29, R285). -/
theorem State.setParam_tick {s : State} {id sub : Nat} {w : Word} (hro : readOnly id = false) (he : effectOf id = .tick)
    (vi : Nat) :
    let x : Setting := { id := id, sub := sub, val := w, bound := s.countAt s.commitDist, group := 0, boot := false }
    s.Passes s (s.sets ++ [x]) s.commitDist id sub w →
    s.setParam id sub w vi = ({ s with sets := s.sets ++ [x] }, stDone, [Word.of (s.countAt s.commitDist)]) := by
  intro x hp
  simp only [State.setParam, hro, he, Bool.false_eq_true, if_false, if_true, State.setTick]
  exact State.checkValue_of_passes hp ..

/-- A value that applies on completion takes effect, of a parameter that needs no stopped unit (R18, R285, R287). -/
theorem State.setAtOnce_of {s : State} {sets : List Setting} {id sub : Nat} {w : Word} (he : effectOf id ≠ .stopped)
    (hp : s.Passes (if plainly id then s.setReg id sub w else s) sets 0 id sub w) (vi : Nat) :
    s.setAtOnce sets id sub w vi = (({ s with sets := sets } : State).putNow id sub w, stDone, []) := by
  have hst : ¬(effectOf id = .stopped ∧ s.isRunning (id / 256) = true) := fun h => he h.1
  refine Eq.trans ?_ (State.checkValue_of_passes hp vi _)
  unfold State.setAtOnce plainly
  dsimp only
  rw [if_neg hst]
  rcases paramRow id with _ | r <;> rfl

/-- A SET_NOW of a value that waits for ticks, of a unit without a grid of its own, commits it at once (R287). -/
theorem State.putNow_tick {s : State} {id sub : Nat} {w : Word} (he : effectOf id = .tick) (h8 : id / 256 ≠ 8)
    (h9 : id / 256 ≠ 9) : s.putNow id sub w = (s.applyValues [(id, sub, w)]).refreshHold false := by
  simp [State.putNow, he, h8, h9]

/-! ### Requests -/

/-- The state with a request's answer as the reply in preparation. -/
def Answer.reply (h : Hdr) (op : Nat) (a : Answer) : State := a.1.replying h op a.2.1 a.2.2

/-- A ready SET whose first words name a parameter. -/
theorem State.serve_set {s : State} {h : Hdr} (hr : s.ready h = true) (hrel : s.released = true) {ws : List Word}
    {id sub : Nat} (ht : targetOf ws 1 = .inr (id, sub)) (h1 : 2 ≤ ws.length) (h2 : ws.length ≤ 3) :
    s.serve h 0x11 ws (State.doSet ws) =
      ((s.atCommit h).setParam id sub (ws.getLastD 0) (ws.length - 1)).reply h 0x11 := by
  rw [State.serve_run hr hrel (by decide) (by decide) (l := (2, 3)) rfl h1 h2]
  simp only [State.doSet, ht, Answer.reply]

/-- A ready SET_NOW of a parameter that is neither read only nor one of TICK, TBUS and HOST. -/
theorem State.serve_setNow {s : State} {h : Hdr} (hr : s.ready h = true) (hrel : s.released = true) {ws : List Word}
    {id sub : Nat} (ht : targetOf ws 1 = .inr (id, sub)) (h1 : 2 ≤ ws.length) (h2 : ws.length ≤ 3)
    (hro : readOnly id = false) (hu : id / 256 ≠ 1 ∧ id / 256 ≠ 2 ∧ id / 256 ≠ 0x3D) :
    let k := s.atCommit h
    let drop := k.reached fun x => x.id == id && x.sub == sub
    s.serve h 0x12 ws (State.doSetNow ws) =
      (k.setAtOnce (k.without drop).sets id sub (ws.getLastD 0) (ws.length - 1)).reply h 0x12 := by
  rw [State.serve_run hr hrel (by decide) (by decide) (l := (2, 3)) rfl h1 h2]
  simp [State.doSetNow, ht, hro, hu, Answer.reply]

/-- The work of a SET_GROUP whose entries all pass, by themselves and together (R288, R289). -/
theorem State.doSetGroup_of {s : State} {ws : List Word} {es : List GroupEntry} (h0 : 0 < (ws.getD 0 0).toNat)
    (h63 : (ws.getD 0 0).toNat ≤ 63) (hg : groupEntries (ws.getD 0 0).toNat (ws.drop 1) 1 = some es)
    (hs : s.sortEntries [] es = (es, []))
    (hc : ∀ e ∈ es, s.conflict es (s.countAt s.commitDist) s.commitDist e = none) :
    s.doSetGroup ws = ({ s with
      sets := s.sets ++ groupSettings es (s.countAt s.commitDist) (s.tick.groups + 1)
      tick := { s.tick with groups := s.tick.groups + 1 } }, stDone, [Word.of (s.countAt s.commitDist)]) := by
  have hn : (es.filterMap fun e => s.conflict es (s.countAt s.commitDist) s.commitDist e) = [] :=
    List.filterMap_eq_nil_iff.2 hc
  unfold State.doSetGroup
  simp only [hg, hs, hn, List.append_nil, State.done_eq]
  exact if_neg (by omega)

/-- A CANCEL_PENDING reaches every setting that a later boundary than the next commit point's commits (R63). -/
theorem State.mem_reached {s : State} {pick : Setting → Bool} {x : Setting} (hx : x ∈ s.sets) (hp : pick x = true)
    (hd : s.commitDist ≤ s.dist x.bound) : x ∈ s.reached pick := by
  simp [State.reached, hx, hp, hd]

/-- Settles O7: each request's checks pass by the premises, and what it does is the work of its opcode. -/
theorem settingsRequestsAct : Obligations.SettingsRequestsAct := by
  refine ⟨?_, ?_, ?_, ?_⟩
  · intro s h ws id sub hr hrel k x ht h1 h2 hro he hv hh ha hc hd hu
    refine congrArg Host.Outcome.next ((State.serve_set hr hrel ht h1 h2).trans ?_)
    exact congrArg (Answer.reply h 0x11) (State.setParam_tick hro he _ ⟨hv, hh, ha, hc, hd, hu⟩)
  · intro s h ws id sub hr hrel k w z ht h1 h2 hro he u1 u2 u3D h8 h9 hv hh ha hc hd hu
    refine congrArg Host.Outcome.next ((State.serve_setNow hr hrel ht h1 h2 hro ⟨u1, u2, u3D⟩).trans ?_)
    have hst : effectOf id ≠ .stopped := by simp [he]
    refine (congrArg (Answer.reply h 0x12) (State.setAtOnce_of hst ⟨hv, hh, ha, hc, hd, hu⟩ _)).trans ?_
    rw [State.putNow_tick he h8 h9]
    rfl
  · intro s h ws es hr hrel k n bound h0 h63 h1 h2 hg hs hc
    refine congrArg Host.Outcome.next
      ((State.serve_run hr hrel (by decide) (by decide) (l := (3, 190)) rfl h1 h2 _).trans ?_)
    rw [State.doSetGroup_of h0 h63 hg hs hc]
    rfl
  · intro s h hr hrel k xs
    refine ⟨congrArg Host.Outcome.next ?_, fun x hx hd => State.mem_reached hx rfl hd⟩
    exact State.serve_run hr hrel (by decide) (by decide) (l := (1, 2)) rfl (by decide) (by decide) _

end Sys2Proof.Machine
end

section
/-! PROOFS. Writes that act on completion: counters and bits that clear, the host's end of a serial queue, ring and
descriptor positions, and action writes (R16, R68, R203, R269, R367, R535, R665, R758, R792, R799, R805). -/

namespace Sys2Proof.Machine

/-! ### Parameters whose values apply on completion -/

/-- A parameter of a unit that is not indexed, with its access, whose values apply on completion (R16, R17). -/
def appliesNow (id : Nat) (acc : Access) : Bool :=
  decide (id < 65536) && !indexedUnit (id / 256) && (paramRow id).map (fun r => (r.acc, r.eff)) == some (acc, .now)

/-- What its row of the parameter tables says. -/
theorem appliesNow_iff {id : Nat} {acc : Access} (h : appliesNow id acc = true) :
    id < 65536 ∧ indexedUnit (id / 256) = false ∧ ∃ r, paramRow id = some r ∧ r.acc = acc ∧ r.eff = .now := by
  simp only [appliesNow, Bool.and_eq_true, decide_eq_true_eq, Bool.not_eq_true', beq_iff_eq, Option.map_eq_some_iff,
    Prod.mk.injEq] at h
  obtain ⟨⟨hid, hix⟩, r, hr, ha, he⟩ := h
  exact ⟨hid, hix, r, hr, ha, he⟩

theorem appliesNow_uart : ∀ u : Fin 4, appliesNow (uartId u.val 0x0D) .w1c = true ∧
    appliesNow (uartId u.val 0x0A) .wo = true ∧ appliesNow (uartId u.val 0x0B) .ro = true ∧
    appliesNow (uartId u.val 8) .rw = true := by decide

theorem appliesNow_ring : ∀ r : Fin 16, appliesNow (ringId r.val 0x68) .rw = true := by decide

theorem appliesNow_dmaHead : ∀ ch : Fin 24, appliesNow (0x3840 + ch.val) .rw = true := by decide

/-- The words that name such a parameter, alone and with a value. -/
theorem targetOf_single {id : Nat} {acc : Access} (h : appliesNow id acc = true) (ws : List Word) :
    targetOf (Word.of id :: ws) ws.length = .inr (id, 0) := by
  obtain ⟨hid, hix, r, hr, -, -⟩ := appliesNow_iff h
  have h16 : (Word.of id).bits 0 16 = id := by
    simp only [Word.bits, BitVec.toNat_ofNat]
    omega
  have h0 : (Word.of id).bits 16 16 = 0 := by
    simp only [Word.bits, BitVec.toNat_ofNat]
    omega
  simp [targetOf, h16, h0, hr, hix, Nat.add_comm]

/-- A SET of such a parameter whose checks pass: the value takes effect, and the reply has no words (R285). -/
theorem State.setOne_now {s : State} {h : Hdr} (hr : s.ready h = true) (hrel : s.released = true) {id : Nat}
    {acc : Access} (hn : appliesNow id acc = true) (hacc : acc ≠ .ro) {w : Word}
    (hp : (s.atCommit h).Passes (if acc == .rw then (s.atCommit h).setReg id 0 w else s.atCommit h) (s.atCommit h).sets 0
      id 0 w) :
    s.setOne h id w = ((s.atCommit h).writeNow id 0 w).replying h 0x11 stDone [] := by
  obtain ⟨-, -, r, hrow, ha, he⟩ := appliesNow_iff hn
  have hro : readOnly id = false := by simp [readOnly, hrow, ha, hacc]
  have hef : effectOf id = .now := by simp [effectOf, hrow, he]
  have hpl : plainly id = (acc == .rw) := by simp [plainly, hrow, ha]
  refine (State.serve_set hr hrel (targetOf_single hn [w]) (by simp) (by simp)).trans ?_
  have hset := State.setAtOnce_of (vi := 1) (by simp [hef]) (hpl ▸ hp)
  simp only [State.putNow, hef, if_true] at hset
  have hw : [Word.of id, w].getLastD 0 = w := rfl
  simp only [State.setParam, hro, hef, hw, Bool.false_eq_true, if_false, reduceCtorEq]
  exact congrArg (Answer.reply h 0x11) hset

/-- A GET of such a parameter. -/
theorem State.getOne_now {s : State} {h : Hdr} (hr : s.ready h = true) (hrel : s.released = true) {id : Nat}
    {acc : Access} (hn : appliesNow id acc = true) (hacc : acc ≠ .wo) (hh : (s.atCommit h).notHost id = false)
    (hf : id % 256 ≠ 0xF0) (hu : ((s.atCommit h).unit (id / 256)).st ≠ .draining)
    (hp : ((s.atCommit h).sets.filter fun x => x.id == id && x.sub == 0) = []) :
    s.getOne h id = ((s.atCommit h).afterGet id).replying h 0x10 stDone
      [Word.of id, (s.atCommit h).read id 0, (s.atCommit h).read id 0] := by
  obtain ⟨-, -, r, hrow, ha, -⟩ := appliesNow_iff hn
  have hw : writeOnly id = false := by simp [writeOnly, hrow, ha, hacc]
  exact State.serve_get hr hrel (targetOf_single hn []) (by simp) (by simp) hw hh hf hu hp

/-! ### What a write does, by the parameter's access -/

/-- A write of a write-only parameter. -/
theorem State.writeNow_wo {id : Nat} (hn : appliesNow id .wo = true) (s : State) (w : Word) :
    s.writeNow id 0 w = s.writeAction id w := by
  obtain ⟨-, -, r, hrow, ha, -⟩ := appliesNow_iff hn
  simp [State.writeNow, hrow, ha]

/-- A SET of a write-only parameter does its action. -/
theorem State.setOne_wo {s : State} {h : Hdr} (hr : s.ready h = true) (hrel : s.released = true) {id : Nat}
    (hn : appliesNow id .wo = true) {w : Word} (hp : (s.atCommit h).Passes (s.atCommit h) (s.atCommit h).sets 0 id 0 w) :
    s.setOne h id w = ((s.atCommit h).writeAction id w).replying h 0x11 stDone [] := by
  rw [State.setOne_now hr hrel hn (by decide) hp, State.writeNow_wo hn]

/-- A write of bits that a 1 clears; TX_CONTEND restarts the transmitter (R16, R805). -/
theorem State.writeNow_w1c {id : Nat} (hn : appliesNow id .w1c = true) (s : State) (w : Word) :
    s.writeNow id 0 w = (if 0x30 ≤ id / 256 ∧ id / 256 ≤ 0x33 ∧ id % 256 = 0x0D ∧ w.bit 0 ∧ s.regBit id 0 0 then
        s.resumeTx (id / 256 - 0x30) else s).setReg id 0 (s.reg id 0 &&& ~~~(w &&& Word.of (w1cMask id))) := by
  obtain ⟨-, -, r, hrow, ha, -⟩ := appliesNow_iff hn
  simp [State.writeNow, hrow, ha]

/-- A write of a read-and-write parameter: a read position moves its ring's level, and AUTOBAUD arms the receiver (R535,
R799). -/
theorem State.writeNow_rw {id : Nat} (hn : appliesNow id .rw = true) (s : State) (w : Word) :
    s.writeNow id 0 w =
      if (id / 256 = 0x0A ∨ id / 256 = 0x0B) ∧ 0x68 ≤ id % 256 ∧ id % 256 ≤ 0x6F then
        (s.setReg id 0 w).refreshThresh (8 * (id / 256 - 0x0A) + id % 256 - 0x68)
      else if 0x30 ≤ id / 256 ∧ id / 256 ≤ 0x33 ∧ id % 256 = 8 then s.armAutobaud (id / 256 - 0x30) w
      else s.setReg id 0 w := by
  obtain ⟨-, -, r, hrow, ha, -⟩ := appliesNow_iff hn
  simp [State.writeNow, hrow, ha]

/-- The rules over several parameters bind no value of a parameter that stands in none of them. -/
theorem State.crossOkFrom_of_free {s : State} {id sub : Nat} (h : ∀ v d, s.crossOk v d id sub = true) (sets : List Setting)
    (d : Nat) : s.crossOkFrom sets d id sub = true := by
  simp [State.crossOkFrom, h]

/-- A value of a parameter that stands in no rule over several parameters, and in none of its own, passes where it is in
range and its unit is not DRAINING. -/
theorem State.passes_of {s z : State} {sets : List Setting} {id : Nat} {w : Word} (hv : valueOk id 0 w = true)
    (hh : s.notHost id = false) (ha : s.actionOk id w = true) (hc : ∀ v d, z.crossOk v d id 0 = true) (hd : id ≠ 0x0207)
    (hu : (s.unit (id / 256)).st ≠ .draining) : s.Passes z sets 0 id 0 w :=
  ⟨hv, hh, ha, State.crossOkFrom_of_free hc sets 0, by simp [State.dozeEarly, hd], hu⟩

/-! ### Counters, latched bits and actions -/

/-- A SET of TICK.CNT_CLR clears the counters whose bits are 1 (R68). -/
theorem State.setOne_tickCntClr {s : State} {h : Hdr} {v : Word} (hr : s.ready h = true) (hrel : s.released = true)
    (hv : v.toNat < 64) (hu : ((s.atCommit h).unit 0x01).st ≠ .draining) :
    s.setOne h 0x010F v = ((s.atCommit h).clearCounters 0x0106 6 v).replying h 0x11 stDone [] := by
  have hn : appliesNow 0x010F .wo = true := by decide
  have hval : valueOk 0x010F 0 v = true := by simpa [valueOk, paramRow, unitTable, findRow, tickParams] using hv
  exact State.setOne_wo hr hrel hn (State.passes_of hval rfl rfl (fun _ _ => rfl) (by decide) hu)

/-- A SET of HOST.CNT_CLR clears the counters whose bits are 1 (R269). -/
theorem State.setOne_hostCntClr {s : State} {h : Hdr} {v : Word} (hr : s.ready h = true) (hrel : s.released = true)
    (hv : v.toNat < 128) (hu : ((s.atCommit h).unit 0x3D).st ≠ .draining) :
    s.setOne h 0x3D0D v = ((s.atCommit h).clearCounters 0x3D02 7 v).replying h 0x11 stDone [] := by
  have hn : appliesNow 0x3D0D .wo = true := by decide
  have hval : valueOk 0x3D0D 0 v = true := by simpa [valueOk, paramRow, unitTable, findRow, hostParams] using hv
  exact State.setOne_wo hr hrel hn (State.passes_of hval rfl rfl (fun _ _ => rfl) (by decide) hu)

/-- A SET of FUMA.ALERT_LATCH clears the bits written 1 (R367). -/
theorem State.setOne_alertLatch {s : State} {h : Hdr} {v : Word} (hr : s.ready h = true) (hrel : s.released = true)
    (hv : v.toNat < 16) (hu : ((s.atCommit h).unit 0x06).st ≠ .draining) :
    s.setOne h 0x0605 v = ((s.atCommit h).setReg 0x0605 0
      ((s.atCommit h).reg 0x0605 0 &&& ~~~(v &&& 0xF))).replying h 0x11 stDone [] := by
  have hn : appliesNow 0x0605 .w1c = true := by decide
  have hval : valueOk 0x0605 0 v = true := by simpa [valueOk, paramRow, unitTable, findRow, fumaParams] using hv
  rw [State.setOne_now hr hrel hn (by decide) (State.passes_of hval rfl rfl (fun _ _ => rfl) (by decide) hu),
    State.writeNow_w1c hn]
  rfl

/-- A SET of SINTER.SCAN = 1 starts a scan where none is in progress (R203). -/
theorem State.setOne_scan {s : State} {h : Hdr} (hr : s.ready h = true) (hrel : s.released = true)
    (hs : (s.atCommit h).sint.scan = none) (hu : ((s.atCommit h).unit 0x03).st ≠ .draining) :
    s.setOne h 0x0305 1 = ({ s.atCommit h with sint := { (s.atCommit h).sint with scan := some false } } : State).replying
      h 0x11 stDone [] := by
  have hn : appliesNow 0x0305 .wo = true := by decide
  rw [State.setOne_wo hr hrel hn (State.passes_of (by decide) rfl rfl (fun _ _ => rfl) (by decide) hu)]
  simp [State.writeAction, hs, Word.bit]

/-- A SET of SEC.RELOCK = 1 ends the unlock (R665). -/
theorem State.setOne_relock {s : State} {h : Hdr} (hr : s.ready h = true) (hrel : s.released = true)
    (hu : ((s.atCommit h).unit 0x04).st ≠ .draining) :
    s.setOne h 0x0403 1 = ((s.atCommit h).relock 1).replying h 0x11 stDone [] := by
  have hn : appliesNow 0x0403 .wo = true := by decide
  rw [State.setOne_wo hr hrel hn (State.passes_of (by decide) rfl rfl (fun _ _ => rfl) (by decide) hu)]
  simp [State.writeAction, Word.bit]

/-! ### Serial channels -/

theorem uartId_div (u : Nat) {i : Nat} (hi : i < 256) : uartId u i / 256 = 0x30 + u := by
  unfold uartId
  omega

theorem uartId_mod (u : Nat) {i : Nat} (hi : i < 256) : uartId u i % 256 = i := by
  unfold uartId
  omega

/-- Only RX_POP and TX_PUSH belong to the consumer of a channel's queues (R792). -/
theorem State.notHost_uart (s : State) (u : Fin 4) {i : Nat} (hi : i < 256) :
    s.notHost (uartId u.val i) = ((i == 0x0A || i == 0x0B) && !s.hostQueue u.val) := by
  have hu := u.isLt
  simp [State.notHost, uartId_div u.val hi, uartId_mod u.val hi, show 0x30 + u.val ≤ 0x33 by omega]

/-- The rules of UART parameters that apply on completion: room in the transmit queue, and no auto-baud in frame mode
(R792, R822). -/
theorem State.actionOk_uart (s : State) (u : Fin 4) {i : Nat} (hi : i < 256) (w : Word) :
    s.actionOk (uartId u.val i) w =
      if i = 0x0A then decide ((s.uartOf u.val).txq.length < (s.depths u.val).2)
      else if i = 8 then !(w.bit 0 && s.linMode u.val) else true := by
  have hu := u.isLt
  unfold State.actionOk
  simp only [uartId_div u.val hi, uartId_mod u.val hi]
  rw [if_neg (by omega), if_neg (by omega), if_pos (by omega), Nat.add_sub_cancel_left]

/-- The UART parameters of which no rule binds several: those but QUEUES, TRIG, FC_CFG, AB_CHAR and LIN_CFG. -/
theorem State.crossOk_uart (s : State) (u : Fin 4) {i : Nat} (hi : i < 256)
    (hf : i ≠ 3 ∧ i ≠ 4 ∧ i ≠ 6 ∧ i ≠ 9 ∧ i ≠ 0x20) (v : View) (d : Nat) :
    s.crossOk v d (uartId u.val i) 0 = true := by
  have hu := u.isLt
  obtain ⟨h3, h4, h6, h9, h20⟩ := hf
  have hid : uartId u.val i ≠ 0x0306 := by unfold uartId; omega
  have hok : uartOk v u.val (uartId u.val i) = true := by
    unfold uartOk uartId
    simp only
    rw [if_neg (by omega), if_neg (by omega), if_neg (by omega)]
  unfold State.crossOk
  simp only [uartId_div u.val hi, hid, if_false]
  iterate 7 rw [if_neg (by omega)]
  rw [if_pos (by omega), Nat.add_sub_cancel_left, hok]

/-- A SET of UART.STATUS clears the bits written 1; TX_CONTEND restarts the transmitter (R805). -/
theorem State.setOne_uartStatus {s : State} {h : Hdr} {u : Fin 4} {v : Word} (hr : s.ready h = true)
    (hrel : s.released = true) (hv : valueOk (uartId u.val 0x0D) 0 v = true)
    (hu : ((s.atCommit h).unit (0x30 + u.val)).st ≠ .draining) :
    s.setOne h (uartId u.val 0x0D) v =
      ((if v.bit 0 && (s.atCommit h).regBit (uartId u.val 0x0D) 0 0 then (s.atCommit h).resumeTx u.val
        else s.atCommit h).setReg (uartId u.val 0x0D) 0
          ((s.atCommit h).reg (uartId u.val 0x0D) 0 &&& ~~~(v &&& 0x3C1))).replying h 0x11 stDone [] := by
  have hlt := u.isLt
  have hn := (appliesNow_uart u).1
  have hdiv := uartId_div u.val (i := 0x0D) (by decide)
  have hmod := uartId_mod u.val (i := 0x0D) (by decide)
  have hmask : w1cMask (uartId u.val 0x0D) = 0x3C1 := (by decide : ∀ u : Fin 4, w1cMask (uartId u.val 0x0D) = 0x3C1) u
  rw [State.setOne_now hr hrel hn (by decide) (State.passes_of hv (by simp [State.notHost_uart])
    (by simp [State.actionOk_uart]) (State.crossOk_uart _ u (by decide) (by decide)) (by unfold uartId; omega) (by rwa [hdiv])),
    State.writeNow_w1c hn]
  simp [hdiv, hmod, hmask, show 0x30 + u.val ≤ 0x33 by omega]

/-- A GET of UART.RX_POP returns and removes the oldest entry (R792). -/
theorem State.getOne_rxPop {s : State} {h : Hdr} {u : Fin 4} (hr : s.ready h = true) (hrel : s.released = true)
    (hq : (s.atCommit h).hostQueue u.val = true) (hu : ((s.atCommit h).unit (0x30 + u.val)).st ≠ .draining)
    (hp : ((s.atCommit h).sets.filter fun x => x.id == uartId u.val 0x0B && x.sub == 0) = []) :
    s.getOne h (uartId u.val 0x0B) = ((s.atCommit h).popRx u.val).replying h 0x10 stDone
      [Word.of (uartId u.val 0x0B), (s.atCommit h).read (uartId u.val 0x0B) 0, (s.atCommit h).read (uartId u.val 0x0B) 0] := by
  have hlt := u.isLt
  have hdiv := uartId_div u.val (i := 0x0B) (by decide)
  have hmod := uartId_mod u.val (i := 0x0B) (by decide)
  have hpop : (s.atCommit h).afterGet (uartId u.val 0x0B) = (s.atCommit h).popRx u.val := by
    unfold State.afterGet
    simp only [hdiv, hmod]
    rw [if_neg (by unfold uartId; omega), if_pos ⟨by omega, by omega, trivial⟩, Nat.add_sub_cancel_left]
  rw [State.getOne_now hr hrel (appliesNow_uart u).2.2.1 (by decide) (by simp [State.notHost_uart, hq]) (by simp [hmod])
    (by rwa [hdiv]) hp, hpop]

/-- UART.RX_POP reads the oldest entry with bit 12 set, and 0 while the queue is empty (R792). -/
theorem State.read_rxPop (s : State) (u : Fin 4) : s.read (uartId u.val 0x0B) 0 = match (s.uartOf u.val).rxq with
    | [] => 0
    | e :: _ => Word.of (e.toNat + 2 ^ 12) := by
  fin_cases u <;> rfl

/-- A SET of UART.TX_PUSH appends a byte where the transmit queue has room (R792). -/
theorem State.setOne_txPush {s : State} {h : Hdr} {u : Fin 4} {b : Nat} (hr : s.ready h = true) (hrel : s.released = true)
    (hq : (s.atCommit h).hostQueue u.val = true) (hu : ((s.atCommit h).unit (0x30 + u.val)).st ≠ .draining) (hb : b < 256)
    (hroom : ((s.atCommit h).uartOf u.val).txq.length < ((s.atCommit h).depths u.val).2) :
    s.setOne h (uartId u.val 0x0A) (Word.of b) =
      ((s.atCommit h).pushTx u.val (BitVec.ofNat 8 b)).replying h 0x11 stDone [] := by
  have hlt := u.isLt
  have hn := (appliesNow_uart u).2.1
  have hdiv := uartId_div u.val (i := 0x0A) (by decide)
  have hval : valueOk (uartId u.val 0x0A) 0 (Word.of b) = true := by
    have hw : (Word.of b).toNat = b := by
      rw [BitVec.toNat_ofNat]
      omega
    fin_cases u <;> simpa [valueOk, paramRow, unitTable, findRow, uartParams, uartId, hw] using hb
  have hact : (s.atCommit h).writeAction (uartId u.val 0x0A) (Word.of b) =
      (s.atCommit h).pushTx u.val (BitVec.ofNat 8 b) := by
    have hb8 : (Word.of b).setWidth 8 = BitVec.ofNat 8 b := by
      apply BitVec.eq_of_toNat_eq
      simp
    unfold State.writeAction
    simp only [hdiv, hb8]
    iterate 4 rw [if_neg (by unfold uartId; omega)]
    rw [if_pos (by omega), Nat.add_sub_cancel_left]
  rw [State.setOne_wo hr hrel hn (State.passes_of hval (by simp [State.notHost_uart, hq])
    (by simp [State.actionOk_uart, hroom]) (State.crossOk_uart _ u (by decide) (by decide)) (by unfold uartId; omega)
    (by rwa [hdiv])), hact]

/-- A SET of UART.AUTOBAUD = 1 outside frame mode arms auto-baud and ends the character in progress (R799). -/
theorem State.setOne_autobaud {s : State} {h : Hdr} {u : Fin 4} (hr : s.ready h = true) (hrel : s.released = true)
    (hl : (s.atCommit h).linMode u.val = false) (hu : ((s.atCommit h).unit (0x30 + u.val)).st ≠ .draining) :
    s.setOne h (uartId u.val 8) 1 = ((s.atCommit h).armAutobaud u.val 1).replying h 0x11 stDone [] := by
  have hlt := u.isLt
  have hn := (appliesNow_uart u).2.2.2
  have hdiv := uartId_div u.val (i := 8) (by decide)
  have hmod := uartId_mod u.val (i := 8) (by decide)
  have hval : valueOk (uartId u.val 8) 0 1 = true := (by decide : ∀ u : Fin 4, valueOk (uartId u.val 8) 0 1 = true) u
  have harm : (s.atCommit h).writeNow (uartId u.val 8) 0 1 = (s.atCommit h).armAutobaud u.val 1 := by
    rw [State.writeNow_rw hn, hdiv, hmod, if_neg (by omega), if_pos (by omega), Nat.add_sub_cancel_left]
  rw [State.setOne_now hr hrel hn (by decide) (State.passes_of hval (by simp [State.notHost_uart])
    (by simp [State.actionOk_uart, hl]) (State.crossOk_uart _ u (by decide) (by decide)) (by unfold uartId; omega)
    (by rwa [hdiv])), harm]

/-! ### Positions of rings and descriptors -/

/-- The unit and the index of a ring's parameters. -/
theorem ringId_div (r : Fin 16) {i : Nat} (hi : i ≤ 0xF0) :
    ringId r.val i / 256 = ringUnit r.val ∧ ringId r.val i % 256 = i + r.val % 8 ∧ ringUnit r.val = 0x0A + r.val / 8 := by
  have hlt := r.isLt
  simp only [ringId, ringUnit, seqUnit]
  omega

/-- A SET of SEQ.RING_RD that moves the read position forward by no more than the level takes effect at once (R535). -/
theorem State.setOne_ringRd {s : State} {h : Hdr} {r : Fin 16} {v : Word} (hr : s.ready h = true) (hrel : s.released = true)
    (hn : v.toNat < ringSize ((s.atCommit h).reg (ringId r.val 0x58)))
    (hl : (v.toNat + ringSize ((s.atCommit h).reg (ringId r.val 0x58)) - (s.atCommit h).regN (ringId r.val 0x68)) %
      ringSize ((s.atCommit h).reg (ringId r.val 0x58)) ≤ (s.atCommit h).ringLevel r.val)
    (hv : valueOk (ringId r.val 0x68) 0 v = true)
    (hc : ((s.atCommit h).setReg (ringId r.val 0x68) 0 v).crossOkFrom (s.atCommit h).sets 0 (ringId r.val 0x68) 0 = true)
    (hu : ((s.atCommit h).unit (ringUnit r.val)).st ≠ .draining) :
    s.setOne h (ringId r.val 0x68) v =
      (((s.atCommit h).setReg (ringId r.val 0x68) 0 v).refreshThresh r.val).replying h 0x11 stDone [] := by
  have hlt := r.isLt
  obtain ⟨hdiv, hmod, hru⟩ := ringId_div r (i := 0x68) (by decide)
  have hno := appliesNow_ring r
  have hring : 8 * (ringUnit r.val - 0x0A) + (0x68 + r.val % 8) - 0x68 = r.val := by omega
  have hhost : (s.atCommit h).notHost (ringId r.val 0x68) = false := by
    simp [State.notHost, hdiv, show ¬ 0x30 ≤ ringUnit r.val by omega]
  have hact : (s.atCommit h).actionOk (ringId r.val 0x68) v = true := by
    unfold State.actionOk
    simp only [hdiv, hmod, hring]
    rw [if_pos (by omega)]
    simp [hn, hl]
  have hdoze : ringId r.val 0x68 ≠ 0x0207 := by omega
  rw [State.setOne_now hr hrel hno (by decide) ⟨hv, hhost, hact, hc, by simp [State.dozeEarly, hdoze], by rwa [hdiv]⟩,
    State.writeNow_rw hno, hdiv, hmod, if_pos (by omega), hring]

/-- A SET of DMA.HEAD that keeps every pending descriptor takes effect at once (R758). -/
theorem State.setOne_dmaHead {s : State} {h : Hdr} {ch : Fin 24} {v : Word} (hr : s.ready h = true) (hrel : s.released = true)
    (hm : v.toNat < 2 ^ ((s.atCommit h).dmaCfg ch.val).bits 5 4)
    (hk : (s.atCommit h).dmaPending (fun a b => (s.atCommit h).reg a b) ch.val ≤
      (v.toNat + 2 ^ ((s.atCommit h).dmaCfg ch.val).bits 5 4 - (s.atCommit h).regN (0x3860 + ch.val)) %
        2 ^ ((s.atCommit h).dmaCfg ch.val).bits 5 4)
    (hv : valueOk (0x3840 + ch.val) 0 v = true) (hu : ((s.atCommit h).unit 0x38).st ≠ .draining) :
    s.setOne h (0x3840 + ch.val) v = ((s.atCommit h).setReg (0x3840 + ch.val) 0 v).replying h 0x11 stDone [] := by
  have hlt := ch.isLt
  have hdiv : (0x3840 + ch.val) / 256 = 0x38 := by omega
  have hmod : (0x3840 + ch.val) % 256 = 0x40 + ch.val := by omega
  have hn := appliesNow_dmaHead ch
  have hact : (s.atCommit h).actionOk (0x3840 + ch.val) v = true := by
    simp [State.actionOk, hdiv, hmod, hm, hk]
  have hcross : ∀ w d, ((s.atCommit h).setReg (0x3840 + ch.val) 0 v).crossOk w d (0x3840 + ch.val) 0 = true := by
    intro w d
    unfold State.crossOk
    simp only [hdiv, hmod]
    rw [if_neg (by omega), if_neg (by omega)]
    simp [show ¬ 0x40 + ch.val < 0x40 by omega, show ¬ 0x80 ≤ 0x40 + ch.val by omega]
  rw [State.setOne_now hr hrel hn (by decide) (State.passes_of hv (by simp [State.notHost, hdiv]) hact hcross (by omega)
    (by rwa [hdiv])), State.writeNow_rw hn, hdiv, hmod, if_neg (by omega), if_neg (by omega)]

/-- Settles O9: each row is a GET or a SET of one parameter whose checks pass by the premises. -/
theorem immediateWritesAct : Obligations.ImmediateWritesAct := by
  refine ⟨fun s h v hr hrel => ⟨fun hv hu => ?_, fun hv hu => ?_, fun hv hu => ?_, fun u hv hu _ => ?_⟩, ?_,
    fun s h v hr hrel => ⟨fun r => ?_, fun ch => ?_⟩,
    fun s h hr hrel => ⟨fun hs hu => ?_, fun hu => ?_, fun u hl hu => ?_⟩⟩
  · exact congrArg Host.Outcome.next (State.setOne_tickCntClr hr hrel hv hu)
  · exact congrArg Host.Outcome.next (State.setOne_hostCntClr hr hrel hv hu)
  · exact congrArg Host.Outcome.next (State.setOne_alertLatch hr hrel hv hu)
  · exact congrArg Host.Outcome.next (State.setOne_uartStatus hr hrel hv hu)
  · intro s h u hr hrel k id hq hu hp
    have hget := State.getOne_rxPop hr hrel hq hu hp
    rw [State.read_rxPop] at hget
    refine ⟨fun e rest he => ?_, fun he => ⟨k.popRx u.val, ?_⟩, fun b hb hroom => ?_⟩
    · exact congrArg Host.Outcome.next (hget.trans (by rw [he]))
    · exact congrArg Host.Outcome.next (hget.trans (by rw [he]))
    · exact congrArg Host.Outcome.next (State.setOne_txPush hr hrel hq hu hb hroom)
  · intro id n hn hl hv hc hu
    exact congrArg Host.Outcome.next (State.setOne_ringRd hr hrel hn hl hv hc hu)
  · intro id m hm hk hv hu
    exact congrArg Host.Outcome.next (State.setOne_dmaHead hr hrel hm hk hv hu)
  · exact congrArg Host.Outcome.next (State.setOne_scan hr hrel hs hu)
  · exact congrArg Host.Outcome.next (State.setOne_relock hr hrel hu)
  · exact congrArg Host.Outcome.next (State.setOne_autobaud hr hrel hl hu)

end Sys2Proof.Machine
end

section
/-! PROOFS. The boundary (R19, R23, R26, R28, R94): every operation of a boundary but the passing of time, the count itself and
the commit keeps the clock, the count, the queue and the pending settings. One lemma for each operation says so; what a boundary
does to them follows. -/

namespace Sys2Proof.Machine

/-- Two states stand at the same cycle of the same tick, with the same commands waiting and the same settings pending. -/
@[reducible, simp] def State.SameTime (t s : State) : Prop :=
  t.now = s.now ∧ t.cyc = s.cyc ∧ t.pending = s.pending ∧ t.tick.count = s.tick.count ∧ t.sets = s.sets

/-- The fields of a state that one of two ways of going on leads to. -/
@[simp] theorem State.ite_clock (c : Prop) [Decidable c] (a b : State) :
    (if c then a else b).now = (if c then a.now else b.now) ∧ (if c then a else b).cyc = (if c then a.cyc else b.cyc) ∧
    (if c then a else b).pending = (if c then a.pending else b.pending) ∧
    (if c then a else b).tick.count = (if c then a.tick.count else b.tick.count) ∧
    (if c then a else b).sets = (if c then a.sets else b.sets) := by
  split <;> simp

@[simp] theorem State.foldl_sameTime {α : Type} {f : State → α → State} (hf : ∀ z a, State.SameTime (f z a) z) (l : List α)
    (s : State) : State.SameTime (l.foldl f s) s := by
  have h : ∀ z a, State.SameTime z s → State.SameTime (f z a) s := fun z a hz => by
    simpa [hf z a] using hz
  exact State.each_keeps (P := fun z => State.SameTime z s) h l s (by simp)

@[simp] theorem State.each_sameTime {α : Type} {f : State → α → State} (hf : ∀ z a, State.SameTime (f z a) z) (l : List α)
    (s : State) : State.SameTime (s.each l f) s := State.foldl_sameTime hf l s

@[simp] theorem State.writeBytes_sameTime {f : State → Nat → Byte → State} (hf : ∀ z a b, State.SameTime (f z a b) z)
    (s : State) (a : Nat) (bs : List Byte) : State.SameTime (s.writeBytes f a bs) s :=
  State.writeBytes_keeps (P := fun z => State.SameTime z s) (fun z a b hz => by simpa [hf z a b] using hz) bs s a (by simp)

variable (s : State)

/-! ### Counters and the tick bus -/

@[simp] theorem State.bumpBy_sameTime (id sub n : Nat) : State.SameTime (s.bumpBy id sub n) s := by simp [State.bumpBy]
@[simp] theorem State.setLocked_sameTime (b : Bool) : State.SameTime (s.setLocked b) s := by simp [State.setLocked]
@[simp] theorem State.missEdge_sameTime : State.SameTime s.missEdge s := by simp [State.missEdge]
@[simp] theorem State.closeWindow_sameTime (e : Nat) : State.SameTime (s.closeWindow e) s := by
  unfold State.closeWindow
  split <;> simp
@[simp] theorem State.expire_sameTime : State.SameTime s.expire s := by simp [State.expire]

/-! ### Replies on their way -/

@[simp] theorem State.discard_sameTime (u : Nat) : State.SameTime (s.discard u) s := by simp [State.discard]
@[simp] theorem State.sramReply_sameTime (port : Nat) (err : Bool) (data : BitVec 64) :
    State.SameTime (s.sramReply port err data) s := by
  simp [State.sramReply]
@[simp] theorem State.landReply_sameTime (f : Flight) : State.SameTime (s.landReply f) s := by simp [State.landReply]
@[simp] theorem State.landReplies_sameTime (before : Nat) : State.SameTime (s.landReplies before) s := by
  simp [State.landReplies]

/-! ### The cut -/

@[simp] theorem State.prune_sameTime (from_ : Nat) : State.SameTime (s.prune from_) s := by simp [State.prune]
@[simp] theorem State.countUnreached_sameTime : State.SameTime s.countUnreached s := by
  unfold State.countUnreached
  split
  · simp
  · split <;> simp
@[simp] theorem State.dropRun_sameTime (n : Nat) : State.SameTime (s.dropRun n) s := by simp [State.dropRun]
@[simp] theorem State.dropRunA_sameTime (n : Nat) : State.SameTime (s.dropRunA n) s := by simp [State.dropRunA]
@[simp] theorem State.dropSeqItem_sameTime (n idx : Nat) : State.SameTime (s.dropSeqItem n idx) s := by
  simp [State.dropSeqItem]
@[simp] theorem State.setPsramByte_sameTime (a : Nat) (b : Byte) : State.SameTime (s.setPsramByte a b) s := by
  simp [State.setPsramByte]
@[simp] theorem State.setPsramWord_sameTime (a : Nat) (w : Word) : State.SameTime (s.setPsramWord a w) s := by
  simp [State.setPsramWord]
@[simp] theorem State.setSramByte_sameTime (a : Nat) (b : Byte) : State.SameTime (s.setSramByte a b) s := by
  simp [State.setSramByte]
@[simp] theorem State.setSramWord_sameTime (a : Nat) (w : Word) : State.SameTime (s.setSramWord a w) s := by
  simp [State.setSramWord]
@[simp] theorem State.spaceWrite_sameTime (xspi : Bool) (a : Nat) (w : Word) :
    State.SameTime (s.spaceWrite xspi a w) s := by
  simp [State.spaceWrite]
@[simp] theorem State.unpoison_sameTime (k : Nat) : State.SameTime (s.unpoison k) s := by simp [State.unpoison]
@[simp] theorem State.writeBurst_sameTime (n : Nat) (ws : List Word) : State.SameTime (s.writeBurst n ws) s := by
  simp [State.writeBurst]
@[simp] theorem State.cutBurst_sameTime (n : Nat) : State.SameTime (s.cutBurst n) s := by simp [State.cutBurst]
@[simp] theorem State.dropWireRuns_sameTime (f : WireRun → Bool) : State.SameTime (s.dropWireRuns f) s := by
  simp [State.dropWireRuns]
@[simp] theorem State.writeDrain_sameTime (ws : List (Nat × Word)) : State.SameTime (s.writeDrain ws) s := by
  simp [State.writeDrain]
@[simp] theorem State.cutDrain_sameTime (q : Nat) : State.SameTime (s.cutDrain q) s := by
  unfold State.cutDrain
  dsimp only
  split <;> simp
@[simp] theorem State.dropItem_sameTime (r : RunItem) : State.SameTime (s.dropItem r) s := by
  unfold State.dropItem
  dsimp only
  repeat' split
  all_goals simp
@[simp] theorem State.freeTriggers_sameTime (n : Nat) : State.SameTime (s.freeTriggers n) s := by
  simp [State.freeTriggers]
@[simp] theorem State.cut_sameTime : State.SameTime s.cut s := by
  simp [State.cut]

/-! ### Stream words -/

@[simp] theorem State.countRefs_sameTime (b : Nat) : State.SameTime (s.countRefs b) s := by simp [State.countRefs]
@[simp] theorem State.addMover_sameTime (m : Mover) : State.SameTime (s.addMover m) s := by simp [State.addMover]
@[simp] theorem State.advanceDring_sameTime (n bytes : Nat) : State.SameTime (s.advanceDring n bytes) s := by
  simp [State.advanceDring]
@[simp] theorem State.countBytes_sameTime (x1 : Bool) (n : Nat) : State.SameTime (s.countBytes x1 n) s := by
  simp [State.countBytes]
@[simp] theorem State.writeStream_sameTime (n : Nat) (w : Word) : State.SameTime (s.writeStream n w) s := by
  simp [State.writeStream]
@[simp] theorem State.putStream_sameTime (n : Nat) (ws : List Word) : State.SameTime (s.putStream n ws) s := by
  simp [State.putStream]
@[simp] theorem State.flushStream_sameTime (n : Nat) : State.SameTime (s.flushStream n) s := by simp [State.flushStream]

/-! ### The new tick begins -/

@[simp] theorem State.takeTemp_sameTime (temp : BitVec 16) : State.SameTime (s.takeTemp temp) s := by
  simp [State.takeTemp]
@[simp] theorem State.steer_sameTime (e : Int) : State.SameTime (s.steer e) s := by simp [State.steer]
@[simp] theorem State.tbusTurn_sameTime (b : Nat × Bool) (checked : Bool) : State.SameTime (s.tbusTurn b checked) s := by
  unfold State.tbusTurn
  dsimp only
  split <;> simp
@[simp] theorem State.markEpoch_sameTime (u : Nat) : State.SameTime (s.markEpoch u) s := by simp [State.markEpoch]

/-! ### Doze and the clocks -/

@[simp] theorem State.dozeCell_sameTime (ahead : Nat) (c : Nat) : State.SameTime (State.dozeCell ahead s c) s := by
  simp [State.dozeCell]
@[simp] theorem State.dozeUart_sameTime (u : Nat) : State.SameTime (s.dozeUart u) s := by simp [State.dozeUart]
@[simp] theorem State.beginDoze_sameTime : State.SameTime s.beginDoze s := by simp [State.beginDoze]
@[simp] theorem State.powerCell_sameTime (c : Nat) : State.SameTime (s.powerCell c) s := by simp [State.powerCell]
@[simp] theorem State.refreshHold_sameTime (boundary : Bool) : State.SameTime (s.refreshHold boundary) s := by
  simp [State.refreshHold]
@[simp] theorem State.loseLock_sameTime : State.SameTime s.loseLock s := by simp [State.loseLock]
@[simp] theorem State.shiftGrid_sameTime (from_ : Nat) (n : Nat) : State.SameTime (State.shiftGrid from_ s n) s := by
  simp [State.shiftGrid]
@[simp] theorem State.holdOff_sameTime (u : Nat) : State.SameTime (s.holdOff u) s := by simp [State.holdOff]
@[simp] theorem State.restartLine_sameTime (k : Nat) : State.SameTime (s.restartLine k) s := by simp [State.restartLine]
@[simp] theorem State.clocksResume_sameTime : State.SameTime s.clocksResume s := by simp [State.clocksResume]
@[simp] theorem State.endDoze_sameTime : State.SameTime s.endDoze s := by simp [State.endDoze]

/-! ### The release, and jobs that end -/

@[simp] theorem State.release_sameTime : State.SameTime s.release s := by simp [State.release]
@[simp] theorem State.endJob_sameTime (num status : Nat) (words : List Word) : State.SameTime (s.endJob num status words) s := by
  unfold State.endJob
  split <;> simp
@[simp] theorem State.endDrained_sameTime (j : Job) : State.SameTime (s.endDrained j) s := by
  unfold State.endDrained
  split
  · simp
  · split
    · simp
    · dsimp only
      split <;> simp
@[simp] theorem State.endCapture_sameTime (j : Job) : State.SameTime (s.endCapture j) s := by
  unfold State.endCapture
  split <;> simp

/-! ### The fabric -/

@[simp] theorem State.scrambleMacs_sameTime (r : Nat) (f : MacCfg → Bool) : State.SameTime (s.scrambleMacs r f) s := by
  unfold State.scrambleMacs
  split <;> simp
@[simp] theorem State.scramble_sameTime (r : Nat) (f : CellCfg → Bool) : State.SameTime (s.scramble r f) s := by
  unfold State.scramble
  split <;> simp
@[simp] theorem State.fromPin_sameTime (v : Nat → Nat → Word) (k : Nat) : State.SameTime (State.fromPin v s k) s := by
  simp [State.fromPin]
@[simp] theorem State.holdLine_sameTime (v : Nat → Nat → Word) (k : Nat) : State.SameTime (State.holdLine v s k) s := by
  simp [State.holdLine]

/-! ### Units that leave a state or enter one -/

@[simp] theorem State.abandonRuns_sameTime (n : Nat) : State.SameTime (s.abandonRuns n) s := by simp [State.abandonRuns]
@[simp] theorem State.discardPort_sameTime (port : Nat) : State.SameTime (s.discardPort port) s := by
  simp [State.discardPort]
@[simp] theorem State.dropOuts_sameTime (f : Nat) : State.SameTime (s.dropOuts f) s := by simp [State.dropOuts]
@[simp] theorem State.flipBank_sameTime (f : Nat) : State.SameTime (s.flipBank f) s := by simp [State.flipBank]
@[simp] theorem State.endFade_sameTime (f : Nat) : State.SameTime (s.endFade f) s := by simp [State.endFade]
@[simp] theorem State.dropFlights_sameTime (p : Flight → Bool) : State.SameTime (s.dropFlights p) s := by
  simp [State.dropFlights]
@[simp] theorem State.leaveReplies_sameTime (r : Nat) : State.SameTime (s.leaveReplies r) s := by
  simp [State.leaveReplies]
@[simp] theorem State.stopSeq_sameTime (n : Nat) : State.SameTime (s.stopSeq n) s := by simp [State.stopSeq]
@[simp] theorem State.onLeave_sameTime (u : Nat) (dst : UState) : State.SameTime (s.onLeave u dst) s := by
  simp [State.onLeave]
@[simp] theorem State.onAwake_sameTime (u : Nat) : State.SameTime (s.onAwake u) s := by simp [State.onAwake]
@[simp] theorem State.stopConv_sameTime (n : Nat) : State.SameTime (s.stopConv n) s := by simp [State.stopConv]
@[simp] theorem State.powerLost_sameTime (r : Nat) : State.SameTime (s.powerLost r) s := by simp [State.powerLost]
@[simp] theorem State.setClosed_sameTime (at_ : Nat) (l : List (Nat × Nat)) : State.SameTime (s.setClosed at_ l) s := by
  simp [State.setClosed]
@[simp] theorem State.closeSwitches_sameTime : State.SameTime s.closeSwitches s := by simp [State.closeSwitches]
@[simp] theorem State.clearChain_sameTime (f : Nat) : State.SameTime (s.clearChain f) s := by simp [State.clearChain]
@[simp] theorem State.startUart_sameTime (k : Nat) : State.SameTime (s.startUart k) s := by simp [State.startUart]
@[simp] theorem State.onRun_sameTime (u : Nat) : State.SameTime (s.onRun u) s := by simp [State.onRun]
@[simp] theorem State.refreshStalled_sameTime (n : Nat) : State.SameTime (s.refreshStalled n) s := by
  simp [State.refreshStalled]
@[simp] theorem State.startCold_sameTime (n : Nat) : State.SameTime (s.startCold n) s := by
  unfold State.startCold
  dsimp only
  split
  · simp
  · split <;> simp
@[simp] theorem State.refreshHealth_sameTime (n : Nat) : State.SameTime (s.refreshHealth n) s := by
  simp [State.refreshHealth]
@[simp] theorem State.onWake_sameTime (u : Nat) : State.SameTime (s.onWake u) s := by simp [State.onWake]
@[simp] theorem State.goState_sameTime (u : Nat) (dst : UState) (cause : Nat) :
    State.SameTime (s.goState u dst cause) s := by
  simp [State.goState]
@[simp] theorem State.discardRun_sameTime (n : Nat) (r : Option Run) : State.SameTime (s.discardRun n r) s := by
  unfold State.discardRun
  split <;> simp
@[simp] theorem State.endSwap_sameTime (f status : Nat) : State.SameTime (s.endSwap f status) s := by
  unfold State.endSwap
  split <;> simp
@[simp] theorem State.disarm_sameTime (f : Nat) : State.SameTime (s.disarm f) s := by simp [State.disarm]
@[simp] theorem State.absentDrop_sameTime (u : Nat) : State.SameTime (s.absentDrop u) s := by simp [State.absentDrop]
@[simp] theorem State.dropInbox_sameTime (r : Nat) : State.SameTime (s.dropInbox r) s := by simp [State.dropInbox]
@[simp] theorem State.uartStop_sameTime (k : Nat) : State.SameTime (s.uartStop k) s := by simp [State.uartStop]
@[simp] theorem State.onStop_sameTime (u : Nat) : State.SameTime (s.onStop u) s := by simp [State.onStop]
@[simp] theorem State.clearRegs_sameTime (u : Nat) (keep : Nat → Bool) : State.SameTime (s.clearRegs u keep) s := by
  simp [State.clearRegs]
@[simp] theorem State.fabricReset_sameTime (r : Nat) (ram : Bool) : State.SameTime (s.fabricReset r ram) s := by
  unfold State.fabricReset
  dsimp only
  split <;> simp
@[simp] theorem State.onReset_sameTime (u : Nat) : State.SameTime (s.onReset u) s := by simp [State.onReset]
@[simp] theorem State.unitBoundary_sameTime (v : View) (u : Nat) : State.SameTime (State.unitBoundary v s u) s := by
  unfold State.unitBoundary
  dsimp only
  repeat' split
  all_goals simp

/-! ### Swaps -/

@[simp] theorem State.saveGate_sameTime (r : Nat) : State.SameTime (s.saveGate r) s := by
  unfold State.saveGate
  split <;> simp
@[simp] theorem State.swapJob_sameTime (j : Job) : State.SameTime (s.swapJob j) s := by
  unfold State.swapJob
  split <;> simp
@[simp] theorem State.planJob_sameTime (j : Job) : State.SameTime (s.planJob j) s := by
  unfold State.planJob
  split <;> simp
@[simp] theorem State.swaps_sameTime : State.SameTime s.swaps s := by simp [State.swaps]
@[simp] theorem State.rearm_sameTime (r : Nat) : State.SameTime (s.rearm r) s := by simp [State.rearm]

/-! ### Values that take effect -/

@[simp] theorem State.keepUp_sameTime : State.SameTime s.keepUp s := by
  unfold State.keepUp
  split <;> simp
@[simp] theorem State.mapRun_sameTime (f : WireRun → WireRun) : State.SameTime (s.mapRun f) s := by
  unfold State.mapRun
  split <;> simp
@[simp] theorem State.withdrawStep_sameTime (ch : Nat) : State.SameTime (s.withdrawStep ch) s := by
  simp [State.withdrawStep]
@[simp] theorem State.latchDac_sameTime (ch : Nat) (code : Word) (at_ : Nat) :
    State.SameTime (s.latchDac ch code at_) s := by
  simp [State.latchDac]
@[simp] theorem State.dueHeld_sameTime (by_ : Nat) (ch : Nat) : State.SameTime (State.dueHeld by_ s ch) s := by
  unfold State.dueHeld
  dsimp only
  split <;> simp
@[simp] theorem State.keepEntries_sameTime (old : View) (n : Nat) : State.SameTime (s.keepEntries old n) s := by
  simp [State.keepEntries]
@[simp] theorem State.afterCell_sameTime (old : View) (c : Nat) : State.SameTime (State.afterCell old s c) s := by
  simp [State.afterCell]
@[simp] theorem State.openSwitches_sameTime (old : View) : State.SameTime (s.openSwitches old) s := by
  simp [State.openSwitches]
@[simp] theorem State.afterDac_sameTime (old : View) (touched : Nat → Bool) (ch : Nat) :
    State.SameTime (State.afterDac old touched s ch) s := by
  simp [State.afterDac]
@[simp] theorem State.refreshThresh_sameTime (ring : Nat) : State.SameTime (s.refreshThresh ring) s := by
  simp [State.refreshThresh]
@[simp] theorem State.restartRing_sameTime (ring : Nat) : State.SameTime (s.restartRing ring) s := by
  simp [State.restartRing]
@[simp] theorem State.afterRing_sameTime (old : View) (ring : Nat) : State.SameTime (State.afterRing old s ring) s := by
  simp [State.afterRing]
@[simp] theorem State.finishItem_sameTime (idx : Nat) : State.SameTime (s.finishItem idx) s := by
  simp [State.finishItem]
@[simp] theorem State.afterSegment_sameTime (old : View) (q : Nat) : State.SameTime (State.afterSegment old s q) s := by
  unfold State.afterSegment
  split
  · simp
  · dsimp only
    split <;> simp
@[simp] theorem State.setSus_sameTime (pin : Nat) (on : Bool) : State.SameTime (s.setSus pin on) s := by
  simp [State.setSus]
@[simp] theorem State.afterPin_sameTime (old : View) (p : Nat) : State.SameTime (State.afterPin old s p) s := by
  simp [State.afterPin]
@[simp] theorem State.transportError_sameTime (n kind : Nat) (seq : Byte) :
    State.SameTime (s.transportError n kind seq) s := by
  simp [State.transportError]
@[simp] theorem State.discardRx_sameTime (n kind : Nat) : State.SameTime (s.discardRx n kind) s := by
  simp [State.discardRx]
@[simp] theorem State.afterUart_sameTime (old : View) (u : Nat) : State.SameTime (State.afterUart old s u) s := by
  simp [State.afterUart]
@[simp] theorem State.hunt_sameTime : State.SameTime s.hunt s := by simp [State.hunt]
@[simp] theorem State.afterRole_sameTime (old : View) (roleSet : Bool) :
    State.SameTime (State.afterRole old roleSet s) s := by
  simp [State.afterRole]
@[simp] theorem State.applyValues_sameTime (ws : List (Nat × Nat × Word)) : State.SameTime (s.applyValues ws) s := by
  simp [State.applyValues]

/-! ### Triggers -/

@[simp] theorem State.gone_sameTime (u : Nat) : State.SameTime (s.gone u) s := by simp [State.gone]
@[simp] theorem State.ignoreTrig_sameTime (n : Nat) : State.SameTime (s.ignoreTrig n) s := by simp [State.ignoreTrig]
@[simp] theorem State.issueTrig_sameTime (n order first delay : Nat) (item : Option Nat) (at_ : Nat) :
    State.SameTime (s.issueTrig n order first delay item at_).1 s := by
  unfold State.issueTrig
  dsimp only
  repeat' split
  all_goals simp
@[simp] theorem State.slotTrigs_sameTime (srcs : List Nat) (edge : Word → Bool) (at_ : Nat) :
    State.SameTime (s.slotTrigs srcs edge at_) s := by
  simp [State.slotTrigs]
@[simp] theorem State.holdCell_sameTime (src at_ : Nat) (c : Nat) : State.SameTime (State.holdCell src at_ s c) s := by
  simp [State.holdCell]
@[simp] theorem State.holdCells_sameTime (src at_ : Nat) : State.SameTime (s.holdCells src at_) s := by
  simp [State.holdCells]
@[simp] theorem State.timerPulses_sameTime (ks : List Nat) (at_ : Nat) : State.SameTime (s.timerPulses ks at_) s := by
  simp [State.timerPulses]
@[simp] theorem State.earlyPulses_sameTime : State.SameTime s.earlyPulses s := by simp [State.earlyPulses]

/-! ### After the commit -/

@[simp] theorem State.commitRelease_sameTime : State.SameTime s.commitRelease s := by simp [State.commitRelease]
@[simp] theorem State.checkFit_sameTime : State.SameTime s.checkFit s := by
  unfold State.checkFit
  split <;> simp
@[simp] theorem State.startLine_sameTime (k : Nat) : State.SameTime (s.startLine k) s := by simp [State.startLine]
@[simp] theorem State.fallDue_sameTime (p : Nat) : State.SameTime (s.fallDue p) s := by simp [State.fallDue]
@[simp] theorem State.leaveReset_sameTime (r : Nat) : State.SameTime (s.leaveReset r) s := by simp [State.leaveReset]
@[simp] theorem State.dropHunted_sameTime (was : Bool) : State.SameTime (s.dropHunted was) s := by
  simp [State.dropHunted]

/-! ### The boundary and its commit -/

/-- A commit changes neither the clock nor the queue nor the count. -/
@[simp] theorem State.commit_clock : s.commit.now = s.now ∧ s.commit.cyc = s.cyc ∧ s.commit.pending = s.pending ∧
    s.commit.tick.count = s.tick.count := by
  simp [State.commit]

/-- A commit takes the settings of this boundary from the list of pending ones, and no others (R28). -/
@[simp] theorem State.commit_sets : s.commit.sets = s.sets.filter fun x => x.boot || s.dist x.bound != 0 := by
  simp [State.commit]

/-- A device that follows no master has its boundary where its own tick generator puts it (R23, R94). -/
theorem State.boundary_own {s : State} (h : s.tracking = false) : s.boundary = (s.generated, false) := by
  simp [State.boundary, h]

/-- Outside doze the tick generator puts the boundary one period after the one before (R19). -/
theorem State.generated_next {s : State} (hs : s.pwr.stopped = false) (hl : s.pwr.lag = 0) :
    s.generated = s.tickStart + s.period := by
  simp [State.generated, State.exactEnd, hs, hl]

/-- Cycle 0 of the tick that a boundary begins on a device that follows no master: the clock stands at the boundary, and the
count has grown by one (R23, R26). -/
theorem State.cycleZero_own {s : State} (h : s.tracking = false) (temp : BitVec 16) :
    (s.cycleZero temp).now = max s.now s.generated ∧ (s.cycleZero temp).cyc = 0 ∧
      (s.cycleZero temp).pending = s.pending ∧ (s.cycleZero temp).tick.count = s.tick.count + 1 := by
  have hu : s.unplaced = false := by simp [State.unplaced, h]
  simp [State.cycleZero, hu, State.boundary_own h, State.reach_now]

/-- The commit point of cycle 128 (R28): 128 cycles later, in the same tick. -/
theorem State.cycle128_clock (fresh : Bool) :
    (s.cycle128 fresh).now = s.now + 128 ∧ (s.cycle128 fresh).cyc = s.cyc + 128 ∧
      (s.cycle128 fresh).pending = s.pending ∧ (s.cycle128 fresh).tick.count = s.tick.count := by
  simp [State.cycle128]

/-- TICK_BOUNDARY while the tick generator runs: cycle 0 of the new tick, then its cycle 128 (log 2). -/
theorem exec_tickBoundary {s : State} (h : s.tick.running = true) (temp : BitVec 16) :
    exec (.tickBoundary temp) s =
      .next ((s.cycleZero temp).cycle128 ((s.cycleZero temp).released && !s.released)) := by
  show execTickBoundary temp s = _
  simp [execTickBoundary, h]

/-- Settles O24: cycle 0 and then cycle 128 of the new tick, and what the commit there takes from the pending settings. -/
theorem boundaryAdvancesAndCommits : Obligations.BoundaryAdvancesAndCommits := by
  refine ⟨fun s temp hrun htr => ?_, fun s => ⟨s.commit_sets, fun x hx => ?_⟩⟩
  · obtain ⟨h0now, h0cyc, h0pend, h0count⟩ := State.cycleZero_own htr temp
    obtain ⟨hnow, hcyc, hpend, hcount⟩ :=
      (s.cycleZero temp).cycle128_clock ((s.cycleZero temp).released && !s.released)
    refine ⟨_, exec_tickBoundary hrun temp, hcount.trans h0count, by rw [hnow, h0now],
      by rw [hcyc, h0cyc], hpend.trans h0pend, fun hs hl hp hc => ?_⟩
    rw [hnow, h0now, State.generated_next hs hl, State.tickStart]
    omega
  · rw [State.commit_sets, List.mem_filter]
    by_cases h : (x.boot || s.dist x.bound != 0) = true
    · exact .inl ⟨hx, h⟩
    · exact .inr (by simpa using h)

end Sys2Proof.Machine
end

section
/-! PROOFS. The tick bus (R73, R78, R81, R85): what the passing of time leaves of a follower's prediction, and what a pulse, an
edge, the end of a guard window and the end of a search window do. -/

namespace Sys2Proof.Machine

/-! ### Registers while time passes -/

/-- A register file in canonical form that reads, outside the parameters of one unit, as that of another state. -/
def State.ReadsBut (u : Nat) (t s : State) : Prop :=
  t.regsWf = true ∧ ∀ id sub, id / 256 ≠ u → sub < 256 → t.reg id sub = s.reg id sub

theorem State.readsBut_refl {s : State} (hs : s.regsWf = true) (u : Nat) : State.ReadsBut u s s :=
  ⟨hs, fun _ _ _ _ => rfl⟩

theorem State.readsBut_setReg {t s : State} {u : Nat} (h : State.ReadsBut u t s) {id : Nat} (hid : id / 256 = u) (v : Word) :
    State.ReadsBut u (t.setReg id 0 v) s := by
  obtain ⟨hwf, hreg⟩ := h
  refine ⟨State.regsWf_setReg hwf id 0 v, fun jd jsub hj hsub => ?_⟩
  have hkey : regKey jd jsub ≠ regKey id 0 := by
    unfold regKey
    omega
  rw [State.reg_setReg hwf, if_neg hkey, hreg jd jsub hj hsub]

theorem State.readsBut_ite {c : Prop} [Decidable c] {a b s : State} {u : Nat} (ha : State.ReadsBut u a s)
    (hb : State.ReadsBut u b s) : State.ReadsBut u (if c then a else b) s := by
  split
  · exact ha
  · exact hb

/-- The log's intake writes registers of FUMA alone (R359, R360, R366): its count, its count of overwritten entries, and the
latch of a severity. -/
theorem State.readsBut_takeEvent {t s : State} (h : State.ReadsBut 6 t s) : State.ReadsBut 6 t.takeEvent s := by
  unfold State.takeEvent
  split
  · exact h
  · refine State.readsBut_ite ?taken (State.readsBut_ite (State.readsBut_setReg ?taken rfl _) ?taken)
    refine State.readsBut_ite (State.readsBut_setReg ?count rfl _) ?count
    exact State.readsBut_setReg h rfl _

theorem State.readsBut_takeEvents {s : State} : ∀ (n : Nat) {t : State}, State.ReadsBut 6 t s →
    State.ReadsBut 6 (State.takeEvents n t) s
  | 0, _, h => h
  | n + 1, _, h => State.readsBut_takeEvents n (State.readsBut_takeEvent h)

/-- While time passes, no register changes but those of the log (R362). -/
theorem State.readsBut_elapse {s : State} (hs : s.regsWf = true) (n : Nat) : State.ReadsBut 6 (s.elapse n) s := by
  refine State.readsBut_takeEvents _ ?_
  rw [State.fabricRun_eq]
  exact State.readsBut_refl hs 6

theorem State.reg_elapse {s : State} (hs : s.regsWf = true) (n : Nat) {id : Nat} (hid : id / 256 ≠ 6) :
    (s.elapse n).reg id = s.reg id :=
  (State.readsBut_elapse hs n).2 id 0 hid (by decide)

/-! ### A follower's prediction while time passes -/

theorem State.guard_elapse {s : State} (hs : s.regsWf = true) (n : Nat) : (s.elapse n).guard = s.guard := by
  simp [State.guard, State.regN, State.reg_elapse hs]

theorem State.tickStart_elapse (s : State) (n : Nat) : (s.elapse n).tickStart = s.tickStart := by
  simp [State.tickStart, Nat.add_sub_add_right]

theorem State.period_elapse {s : State} (hs : s.regsWf = true) (n : Nat) : (s.elapse n).period = s.period := by
  simp [State.period, State.regN, State.reg_elapse hs]

theorem State.refMhz_elapse {s : State} (hs : s.regsWf = true) (n : Nat) : (s.elapse n).refMhz = s.refMhz := by
  simp [State.refMhz, State.regN, State.reg_elapse hs]

/-- The predicted instant T does not depend on how much of the tick has passed. -/
theorem State.predicted_elapse {s : State} (hs : s.regsWf = true) (n : Nat) : (s.elapse n).predicted = s.predicted := by
  unfold State.predicted State.generated State.exactEnd State.refCycles
  rw [State.tickStart_elapse, State.period_elapse hs, State.refMhz_elapse hs, State.elapse_pwr, State.elapse_tbus]

/-! ### Edges and windows -/

variable (s : State)

/-- A missed edge changes the tick bus by its counter of consecutive ones, and its window is closed (R85). -/
theorem State.missEdge_tbus :
    s.missEdge.tbus = { s.tbus with missed := s.tbus.missed + 1, expired := none } := by
  unfold State.missEdge
  dsimp only
  split <;> simp

theorem State.expire_tbus : s.expire.tbus.place = some (s.predicted + s.guard, true) ∧
    s.expire.tbus.aim = some s.predicted := ⟨rfl, rfl⟩

@[simp] theorem State.setLocked_tbus (b : Bool) : (s.setLocked b).tbus = s.tbus := by
  cases b <;> rfl

/-- The boundary that an edge places, and the count of missed edges that it ends (R78, R85). -/
theorem State.placeEdge_tbus (e : Nat) (marked : Bool) :
    (s.placeEdge e marked).tbus.place = some (e, false) ∧ (s.placeEdge e marked).tbus.missed = 0 ∧
      (s.placeEdge e marked).now = s.now := by
  unfold State.placeEdge
  dsimp only
  split <;> simp

variable {s}

theorem State.closeWindow_closed (h : s.tbus.expired = none) (e : Nat) : s.closeWindow e = s := by
  simp [State.closeWindow, h]

/-- The first edge of a boundary that nothing has placed yet places it where it lies inside the guard window (R78). -/
theorem State.nextEdge_inGuard {e : Nat} (hplace : s.tbus.place = none) (haim : s.tbus.aim = none)
    (hedged : s.tbus.edged = false) (hearly : s.tbus.early = none) (hlo : s.predicted ≤ e + s.guard)
    (hhi : e ≤ s.predicted + s.guard) (marked : Bool) : s.nextEdge e marked = s.placeEdge e marked := by
  have haimed : s.aimed = s.predicted := by simp [State.aimed, hplace, haim]
  have hnear : ((e : Int) - s.predicted).natAbs ≤ s.guard := by omega
  simp [State.nextEdge, haimed, hnear, hplace, hedged, hearly]

/-- An edge that finds no search window open belongs to the coming boundary, unless the follower hunts or is without its
master. -/
theorem State.meetEdge_next (hhunt : s.hunting = false) (habsent : s.absent = false) (hexp : s.tbus.expired = none) (e : Nat)
    (marked : Bool) : s.meetEdge e marked = s.nextEdge e marked := by
  simp [State.meetEdge, State.closeWindow_closed hexp, hhunt, habsent, hexp]

/-! ### Commands -/

/-- TICK_PULSE of an active master whose pulse meets no other master: its balls are driven from 16 cycles before the boundary
(R73). -/
theorem exec_tickPulse (hrole : s.reg 0x0200 = 1) (hact : s.isActive 0x02 = true) (hquiet : s.tbus.quiet = false)
    (hio : s.tbus.io = false) :
    exec (.tickPulse false) s = .next
      { s.reach (s.tickEnd - 16) with tbus := { s.tbus with io := true, aux := s.countAt 1 % 256 == 0 } } := by
  show execTickPulse false s = _
  simp [execTickPulse, hrole, hact, hquiet, hio, State.countAt]

/-- TICK_EDGE at a follower in an awake tick. -/
theorem exec_tickEdge {dt : Nat} (htrack : (s.elapse dt).tracking = true) (hdoze : (s.elapse dt).dozeNext = false)
    (marked : Bool) : exec (.tickEdge dt marked) s =
      .next ((s.elapse dt).meetEdge ((s.elapse dt).now + 16 - (s.elapse dt).regN 0x0206) marked) := by
  show execTickEdge dt marked s = _
  simp only [execTickEdge, htrack, hdoze, Bool.not_true, Bool.false_and, Bool.false_eq_true, if_false]

/-- GUARD_EXPIRY while no edge has placed the coming boundary (R81). -/
theorem exec_guardExpiry (h : s.unplaced = true) :
    exec .guardExpiry s = .next (s.reach (s.predicted + s.guard)).expire := by
  show execGuardExpiry s = _
  simp [execGuardExpiry, h]

/-- MISSED_EDGE while a search window is open (R85). -/
theorem exec_missedEdge {t : Nat} (h : s.tbus.expired = some t) :
    exec .missedEdge s = .next (s.reach (t + s.search)).missEdge := by
  show execMissedEdge s = _
  simp [execMissedEdge, h]

/-- Settles O29: each command by its case above; the end of a guard window reads the prediction after time has passed. -/
theorem tickBusCommands : Obligations.TickBusCommands := by
  intro s
  refine ⟨fun hrole hact hquiet hio => ?_, fun dt marked => ?_, fun hun => ?_, fun t0 ht0 => ?_⟩
  · exact ⟨_, exec_tickPulse hrole hact hquiet hio, rfl, rfl, s.reach_now _⟩
  · intro z e htrack hdoze hhunt hplace haim hedged hearly hexp habsent hlo hhi
    obtain ⟨hput, hmiss, hnow⟩ := z.placeEdge_tbus e marked
    refine ⟨z.placeEdge e marked, ?_, hput, hmiss, hnow.trans (s.elapse_now dt)⟩
    rw [exec_tickEdge htrack hdoze, State.meetEdge_next hhunt habsent hexp,
      State.nextEdge_inGuard hplace haim hedged hearly hlo hhi]
  · refine ⟨_, exec_guardExpiry hun, ?_, fun hs => ?_⟩
    · rw [(s.reach _).expire_sameTime.1, s.reach_now]
    · have hplaced := (s.reach (s.predicted + s.guard)).expire_tbus
      rwa [State.reach_eq, State.predicted_elapse hs, State.guard_elapse hs] at hplaced
  · refine ⟨_, exec_missedEdge ht0, ?_, ?_⟩
    · rw [(s.reach _).missEdge_sameTime.1, s.reach_now]
    · simp [State.missEdge_tbus]

end Sys2Proof.Machine
end

section
/-! PROOFS. Requests that only read: IDENT, STATUS, POLL, UNIT_STATE, FUSE_READ, COUNTER_READ and IMAGE_INFO (R133, R280, R281,
R294, R308, R310, R318). -/

namespace Sys2Proof.Machine

/-! ### Request words -/

theorem Word.toNat_of_lt {n : Nat} (h : n < 2 ^ 32) : (Word.of n).toNat = n := by
  rw [BitVec.toNat_ofNat, Nat.mod_eq_of_lt h]

/-- A set bit of a number below a power of two lies below its exponent. -/
theorem bitIndex_lt {n k i : Nat} (hn : n < 2 ^ k) (h : n.testBit i = true) : i < k :=
  (Nat.pow_lt_pow_iff_right (by decide)).1 (lt_of_le_of_lt (Nat.ge_two_pow_of_testBit h) hn)

/-- A word whose set bits are all in the mask has no stray bit. -/
theorem stray_eq_false {w : Word} {mask : Nat} (h : ∀ i < 32, w.getLsbD i = true → mask.testBit i = true) :
    stray w mask = false := by
  refine bne_eq_false_iff_eq.2 (BitVec.eq_of_getLsbD_eq fun i hi => ?_)
  by_cases hw : w.getLsbD i = true
  · rw [BitVec.getLsbD_and, BitVec.getLsbD_not, Word.of, BitVec.getLsbD_ofNat, h i hi hw]
    simp [hi]
  · rw [BitVec.getLsbD_and, Bool.eq_false_of_not_eq_true hw]
    simp

/-- The word of UNIT_STATE: the unit number, and no stray bit. -/
theorem unitStateWord_fields {u : Nat} (hu : u < 256) : (Word.of u).bits 0 8 = u ∧ stray (Word.of u) 0xFF = false := by
  have hw : (Word.of u).toNat = u := Word.toNat_of_lt (by omega)
  have hmask : ∀ i < 8, Nat.testBit 0xFF i = true := by decide
  refine ⟨by rw [Word.bits, hw]; omega, stray_eq_false fun i _ hbit => hmask i ?_⟩
  rw [← BitVec.testBit_toNat, hw] at hbit
  exact bitIndex_lt hu hbit

/-- The word of FUSE_READ: its first row, its count of rows and its view, and no stray bit. -/
theorem fuseReadWord_fields {row n view : Nat} (hrow : row < 64) (hn : n < 64) (hview : view < 4) :
    let w := Word.of (row + n * 2 ^ 8 + view * 2 ^ 16)
    w.bits 0 6 = row ∧ w.bits 8 6 = n ∧ w.bits 16 2 = view ∧ stray w 0x33F3F = false := by
  intro w
  have hw : w.toNat = row + n * 2 ^ 8 + view * 2 ^ 16 := Word.toNat_of_lt (by omega)
  simp only [Word.bits, hw]
  refine ⟨by omega, by omega, by omega, stray_eq_false fun i hi hbit => ?_⟩
  have hmask : ∀ i < 32, i < 6 ∨ 8 ≤ i ∧ i < 14 ∨ 16 ≤ i ∧ i < 18 → Nat.testBit 0x33F3F i = true := by decide
  have hsum : row + n * 2 ^ 8 + view * 2 ^ 16 = 2 ^ 16 * view + (2 ^ 8 * n + row) := by ring
  rw [← BitVec.testBit_toNat, hw, hsum, Nat.testBit_two_pow_mul_add _ (by omega),
    Nat.testBit_two_pow_mul_add _ (by omega)] at hbit
  refine hmask i hi ?_
  split_ifs at hbit
  · exact .inl (bitIndex_lt (k := 6) hrow hbit)
  · have := bitIndex_lt (k := 6) hn hbit
    omega
  · have := bitIndex_lt (k := 2) hview hbit
    omega

/-! ### The work of each request -/

variable {s : State}

/-- A request of any opcode but RANDOM and LOG_READ whose LEN its opcode allows and whose work changes nothing: its answer is
the reply in preparation, on the state at the commit point. -/
theorem State.serve_reads {h : Hdr} (hr : s.ready h = true) (hrel : s.released = true) {op : Nat} {ws : List Word}
    (hop : (op != 0x48 && op != 0x60 &&
      (opcodeLen op).any fun l => decide (l.1 ≤ ws.length) && decide (ws.length ≤ l.2)) = true)
    {run : State → Answer} {status : Nat} {rs : List Word} (hrun : run (s.atCommit h) = (s.atCommit h, status, rs)) :
    (Host.Outcome.next (s.serve h op ws run) : Host.Outcome State Fault Refusal) =
      .next ((s.atCommit h).replying h op status rs) := by
  simp only [Bool.and_eq_true, bne_iff_ne, Option.any_eq_true, decide_eq_true_eq] at hop
  obtain ⟨⟨h48, h60⟩, l, hl, h1, h2⟩ := hop
  rw [State.serve_run hr hrel h48 h60 hl h1 h2, hrun]

theorem State.identWords_fixed (s : State) : s.identWords.length = 12 ∧ s.identWords[0]? = some 0x00300480 ∧
    ∀ i < 4, s.identWords[1 + i]? = some (s.dlvRow (20 + i)) := by
  refine ⟨rfl, rfl, fun i hi => ?_⟩
  match i, hi with
  | 0, _ | 1, _ | 2, _ | 3, _ => rfl

section Poll

variable {n : Nat} (h0 : 0 < n) (h256 : n < 256)
include h0 h256

/-- The word of POLL names a job by its number (R281). -/
theorem pollNumber (latest : Nat) : (if Word.of n = 0 then latest else (Word.of n).toNat) = n := by
  have hw : (Word.of n).toNat = n := Word.toNat_of_lt (by omega)
  have hne : Word.of n ≠ 0 := fun h => h0.ne' (hw.symm.trans (congrArg BitVec.toNat h))
  rw [if_neg hne, hw]

theorem State.doPoll_running {j : Job} (hj : (s.jobs.running.find? fun j => j.num == n) = some j) :
    State.doPoll [Word.of n] s =
      (s, stDone, [Word.of (n + j.op * 2 ^ 8 + 0x01 * 2 ^ 16 + j.kind.percent * 2 ^ 24)]) := by
  simp only [State.doPoll, List.getD_cons_zero, pollNumber h0 h256, hj]
  rfl

theorem State.doPoll_ended {e : Ended} (hj : (s.jobs.running.find? fun j => j.num == n) = none)
    (he : (s.jobs.ended.find? fun e => e.num == n) = some e) :
    State.doPoll [Word.of n] s =
      (s, stDone, Word.of (n + e.op * 2 ^ 8 + e.status * 2 ^ 16 + e.pct * 2 ^ 24) :: e.words) := by
  simp only [State.doPoll, List.getD_cons_zero, pollNumber h0 h256, hj, he]
  rfl

theorem State.doPoll_unknown (hj : (s.jobs.running.find? fun j => j.num == n) = none)
    (he : (s.jobs.ended.find? fun e => e.num == n) = none) :
    State.doPoll [Word.of n] s = (s, stParamBad, [0]) := by
  simp only [State.doPoll, List.getD_cons_zero, pollNumber h0 h256, hj, he]
  rfl

end Poll

theorem State.doState_of {u : Nat} (hu : u < 256) (hunit : isUnit u = true) : State.doState [Word.of u] s =
    (s, stDone, [Word.of (s.stateCode u + (s.changePending u).toNat * 8 + s.stateAfter u * 16 +
      (s.unit u).epoch.toNat * 256)]) := by
  obtain ⟨hbits, hstray⟩ := unitStateWord_fields hu
  simp [State.doState, hbits, hstray, hunit]

theorem State.doFuseRead_of {row n view : Nat} (h0 : 0 < n) (h64 : n < 64) (hrow : row + n ≤ 64) (hview : view < 3) :
    State.doFuseRead [Word.of (row + n * 2 ^ 8 + view * 2 ^ 16)] s =
      (s, stDone, (List.range n).map fun i => if view = 0 then s.fuseCopy false (row + i) ||| s.fuseCopy true (row + i)
        else s.fuseCopy (view == 2) (row + i)) := by
  obtain ⟨hfirst, hcount, hsel, hstray⟩ := fuseReadWord_fields (row := row) (n := n) (view := view) (by omega) h64 (by omega)
  have hok : ¬(stray (Word.of (row + n * 2 ^ 8 + view * 2 ^ 16)) 0x33F3F = true ∨ view = 3 ∨ 64 < row + n) :=
    not_or.2 ⟨by rw [hstray]; decide, by omega⟩
  simp only [State.doFuseRead, List.getD_cons_zero, hfirst, hcount, hsel, if_neg h0.ne', if_neg hok]
  rfl

/-- Settles O5: each request's work leaves the state at the commit point as it is, and its words are those of its table. -/
theorem readRequestsReply : Obligations.ReadRequestsReply := by
  refine ⟨fun s h hr hrel => ⟨?ident, ?status⟩, fun s h n hr hrel h0 h256 => ⟨?running, ?ended, ?unknown⟩,
    fun s h hr hrel => ⟨?unit, ?fuses, ?counters, ?image⟩⟩
  case ident => exact ⟨_, State.serve_reads hr hrel rfl rfl, (s.atCommit h).identWords_fixed⟩
  case status => exact ⟨_, State.serve_reads hr hrel rfl rfl, rfl, rfl, rfl⟩
  case running => exact fun j hj => State.serve_reads hr hrel rfl (State.doPoll_running h0 h256 hj)
  case ended => exact fun e hj he => State.serve_reads hr hrel rfl (State.doPoll_ended h0 h256 hj he)
  case unknown => exact fun hj he => State.serve_reads hr hrel rfl (State.doPoll_unknown h0 h256 hj he)
  case unit => exact fun u hu hunit => State.serve_reads hr hrel rfl (State.doState_of hu hunit)
  case fuses =>
    exact fun row n view h0 h64 hrow hview => State.serve_reads hr hrel rfl (State.doFuseRead_of h0 h64 hrow hview)
  case counters => exact State.serve_reads hr hrel rfl rfl
  case image =>
    intro t ht
    have hw : (Word.of t).toNat = t := Word.toNat_of_lt (by omega)
    refine State.serve_reads hr hrel rfl ?_
    simp only [List.getD_cons_zero, hw, if_neg (show ¬1 < t by omega), State.done_eq]

end Sys2Proof.Machine
end

section
/-! PROOFS. Resets and starts: RST_N low, its release, a restart that is due, a supply that comes up (R112 to R114, R150, R151,
R238, R830). -/

namespace Sys2Proof.Machine

/-! ### What a reset interrupts -/

/-- Two states differ in the fuses, in what belongs to the boot flash and in the counter of free values alone. -/
@[reducible] def State.SameButStored (t s : State) : Prop :=
  t = { s with free := t.free, sint := t.sint, img := t.img }

variable {s t : State}

theorem State.SameButStored.eraseFlash (h : State.SameButStored t s) (a n : Nat) :
    State.SameButStored (t.eraseFlash a n) s := by
  rw [State.SameButStored, h]
  rfl

theorem State.SameButStored.writeFlash (h : State.SameButStored t s) (a : Nat) (ws : List Word) :
    State.SameButStored (t.writeFlash a ws) s :=
  State.writeBytes_keeps (P := fun z => State.SameButStored z s) (fun z _ _ hz => by rw [State.SameButStored, hz]; rfl) _ t a h

theorem State.SameButStored.burnCopy (h : State.SameButStored t s) (c : Nat) (p : Nat × Nat) :
    State.SameButStored (t.burnCopy c p) s := by
  unfold State.burnCopy
  dsimp only
  split <;> rw [State.SameButStored, h]

theorem State.SameButStored.useFree (h : State.SameButStored t s) (n : Nat) : State.SameButStored (t.useFree n) s := by
  rw [State.SameButStored, h]
  rfl

/-- What the work on fuses and flash that a reset interrupts leaves: fuses and flash alone can change (R209, R716). -/
theorem State.interrupt_sameButStored (s : State) (hard : Bool) : State.SameButStored (s.interrupt hard) s := by
  unfold State.interrupt
  extract_lets k s1 s2
  have himage : State.SameButStored s1 s := by
    simp only [s1]
    split
    · rfl
    · split
      · exact State.SameButStored.eraseFlash rfl _ _
      · exact State.SameButStored.writeFlash rfl _ _
      · rfl
  have hfuse : State.SameButStored s2 s := by
    simp only [s2]
    split
    · exact himage
    · split
      · exact himage
      · split
        · exact himage.burnCopy _ _
        · exact himage
  exact hfuse.useFree 1

@[simp] theorem State.interrupt_pending (s : State) (hard : Bool) : (s.interrupt hard).pending = s.pending := by
  rw [s.interrupt_sameButStored hard]
@[simp] theorem State.interrupt_now (s : State) (hard : Bool) : (s.interrupt hard).now = s.now := by
  rw [s.interrupt_sameButStored hard]
@[simp] theorem State.interrupt_regs (s : State) (hard : Bool) : (s.interrupt hard).regs = s.regs := by
  rw [s.interrupt_sameButStored hard]
@[simp] theorem State.interrupt_fuma (s : State) (hard : Bool) : (s.interrupt hard).fuma = s.fuma := by
  rw [s.interrupt_sameButStored hard]
@[simp] theorem State.interrupt_tr (s : State) (hard : Bool) : (s.interrupt hard).tr = s.tr := by
  rw [s.interrupt_sameButStored hard]
@[simp] theorem State.interrupt_mem (s : State) (hard : Bool) : (s.interrupt hard).mem = s.mem := by
  rw [s.interrupt_sameButStored hard]

/-- Without a job there is nothing to interrupt. -/
theorem State.interrupt_idle (h : s.jobs.running = []) (hard : Bool) : s.interrupt hard = s.useFree 1 := by
  simp [State.interrupt, State.imageJob, State.fuseRun, h]

/-! ### What a start finds -/

/-- What a start takes over: the commands that wait, the clock, the external memory, and the registers that it keeps. -/
theorem State.freshStart_kept (s : State) (hard : Bool) : (s.freshStart hard).pending = s.pending ∧
    (s.freshStart hard).now = s.now ∧ (s.freshStart hard).mem.psram = s.mem.psram ∧
    (s.freshStart hard).regs = s.regs.filter (keptRegister hard) := by
  simp [State.freshStart]

/-- With no job running a start finds fuses and flash as they were. -/
theorem State.freshStart_idle (h : s.jobs.running = []) (hard : Bool) :
    (s.freshStart hard).sint.copy0 = s.sint.copy0 ∧ (s.freshStart hard).sint.copy1 = s.sint.copy1 ∧
      (s.freshStart hard).img.flash = s.img.flash := by
  simp [State.freshStart, State.interrupt_idle h]

/-- A reset by RST_N keeps the clamp flags alone of the register file (R151, R424). -/
theorem keptRegister_hard : keptRegister true = fun p => p.1 / 256 == 0x1B17 := by
  funext p
  simp [keptRegister]

/-! ### RST_N low -/

theorem exec_rstNAssert_ignored {ns : Nat} (h : ns < 50) : exec (.rstNAssert ns) s = .next s := if_pos h

theorem exec_rstNAssert_unstated {ns : Nat} (h50 : 50 ≤ ns) (h1000 : ns < 1000) :
    exec (.rstNAssert ns) s = .fault .rstPulseUnstated :=
  (if_neg (not_lt.2 h50)).trans (if_pos h1000)

theorem exec_rstNAssert_reset {ns : Nat} (h : 1000 ≤ ns) : exec (.rstNAssert ns) s = .next (s.freshStart true) :=
  (if_neg (by omega)).trans (if_neg (not_lt.2 h))

/-- Settles O20: the three ranges of the pulse are the branches of RST_N_ASSERT, and a reset is a fresh start. -/
theorem resetPinRanges : Obligations.ResetPinRanges := by
  intro s
  refine ⟨fun ns h => exec_rstNAssert_ignored h, fun ns h50 h1000 => exec_rstNAssert_unstated h50 h1000, fun ns h => ?_⟩
  obtain ⟨hpending, hnow, hpsram, hregs⟩ := s.freshStart_kept true
  exact ⟨_, exec_rstNAssert_reset h, rfl, rfl, rfl, rfl, rfl, rfl, rfl, rfl, hpsram, hpending, hnow,
    hregs.trans (by rw [keptRegister_hard]), fun hidle => State.freshStart_idle hidle true⟩

/-! ### Transports over a restart -/

section Maps

variable {α : Type} [DecidableEq α] {d : α}

/-- Entries put into a canonical map in rising order of their keys: what they list is read from them, the rest from the map. -/
theorem lookup_foldl_insert {f : α → α} : ∀ {l : List (Nat × α)} {lo : Nat} {m : List (Nat × α)},
    wfFrom d lo l = true → wfMap d m = true → ∀ j,
    lookup d ((l.map fun p => (p.1, f p.2)).foldl (fun m p => insert d m p.1 p.2) m) j =
      if lookup d l j = d then lookup d m j else f (lookup d l j)
  | [], _, _, _, _, j => by simp [lookup]
  | (a, x) :: l, lo, m, hl, hm, j => by
    simp only [wfFrom, Bool.and_eq_true, decide_eq_true_eq] at hl
    obtain ⟨⟨_, hx⟩, hrest⟩ := hl
    have hlow : j ≤ a → lookup d l j = d := fun h => lookup_low (by omega) hrest
    simp only [List.map_cons, List.foldl_cons]
    rw [lookup_foldl_insert hrest (wfMap_insert hm a (f x)), lookup_insert hm]
    rcases lt_trichotomy j a with h | h | h
    · simp [lookup, h, hlow h.le, h.ne]
    · subst h
      simp [lookup, hlow le_rfl, hx]
    · simp [lookup, h.not_gt, h.ne']

/-- A canonical map whose values are replaced by a function that keeps the default. -/
theorem lookup_ofPairs_map {f : α → α} (hf : f d = d) {l : List (Nat × α)} (hl : wfMap d l = true) (j : Nat) :
    lookup d (ofPairs d (l.map fun p => (p.1, f p.2))) j = f (lookup d l j) := by
  rw [ofPairs, lookup_foldl_insert hl rfl]
  split
  · next h => rw [h, hf]; rfl
  · rfl

end Maps

/-- What a restart other than by RST_N leaves of a transport: its last SEQ and its stored reply (R151). -/
def TrSt.kept (t : TrSt) : TrSt := { last := t.last, stored := t.stored }

theorem State.freshStart_trOf (hs : wfMap {} s.tr = true) (m : Nat) : (s.freshStart false).trOf m = (s.trOf m).kept := by
  show lookup {} (ofPairs {} ((s.interrupt false).tr.map fun p => (p.1, p.2.kept))) m = _
  rw [State.interrupt_tr]
  exact lookup_ofPairs_map rfl hs m

/-! ### Phase 1 begins -/

/-- An event on its way to the log leaves the log as it is (R361). -/
@[simp] theorem State.emit_log (s : State) (unit : Nat) (ev : Nat × Nat) (data : Nat) :
    (s.emit unit ev data).fuma.log = s.fuma.log := by
  unfold State.emit State.enter
  dsimp only
  split <;> rfl

/-- SYS.BOOTSEL reads the straps as sampled (R114). -/
theorem State.strap_bootsel (hs : s.regsWf = true) (b : BitVec 2) : (s.strap b).reg 0x0003 = b.setWidth 32 := by
  have h1 := State.regsWf_setReg hs 0x0003 0 (b.setWidth 32)
  unfold State.strap
  rw [State.reg_setReg (State.regsWf_setReg h1 ..), if_neg (by decide), State.reg_setReg h1, if_neg (by decide),
    State.reg_setReg_same hs]

/-- RST_N_RELEASE while RST_N holds the device (R114). -/
theorem exec_rstNRelease (h : s.boot.phase = .held) (b : BitVec 2) :
    exec (.rstNRelease b) s = .next (s.beginPhase1 b) :=
  congrArg Host.Outcome.next (if_pos h)

/-- The state with which a restart begins, for its cause (R150, R151). -/
def State.restarted (s : State) (b : BitVec 2) (cause : Nat) : State :=
  (((s.freshStart false).beginPhase1 b).setReg 0x0002 0 (Word.of cause)).emit 0x00 evSoftReset cause

/-- RESTART once the reply of the request that asked for it is ready (R150, R283). -/
theorem exec_restart {cause n : Nat} (hdue : s.boot.restart = some (cause, n)) (hready : (s.trOf n).exec = none)
    (b : BitVec 2) : exec (.restart b) s = .next (s.restarted b cause) := by
  show execRestart b s = _
  simp [execRestart, hdue, hready, State.restarted]

section Restart

variable (s) (b : BitVec 2) (cause : Nat)

/-- A restart begins phase 1 with the log and the external memory as they were, and with no unit, no pending setting and no
job of the run that it ends (R150, R151, R344). -/
theorem State.restarted_start : (s.restarted b cause).boot = { phase := .phase1, began := s.now } ∧
    (s.restarted b cause).fuma.log = s.fuma.log ∧ (s.restarted b cause).units = [] ∧ (s.restarted b cause).sets = [] ∧
    (s.restarted b cause).jobs.running = [] ∧ (s.restarted b cause).mem.psram = s.mem.psram := by
  simp [State.restarted, State.beginPhase1, State.strap, State.freshStart, State.reset]

theorem State.restarted_trOf (hs : wfMap {} s.tr = true) (m : Nat) :
    (s.restarted b cause).trOf m = (s.trOf m).kept := by
  rw [← State.freshStart_trOf hs, State.trOf, State.restarted, State.emit_tr]
  rfl

end Restart

/-- Settles O21: the release begins phase 1 on the state as it is, a restart on a fresh start that keeps the log and of each
transport what `TrSt.kept` says. -/
theorem startsBegin : Obligations.StartsBegin := by
  intro s
  refine ⟨fun b hheld => ?release, fun b cause n hdue hready => ?restart, rfl, rfl, rfl⟩
  case release =>
    exact ⟨_, exec_rstNRelease hheld b, rfl, rfl, fun hs => State.strap_bootsel hs b, rfl, rfl⟩
  case restart =>
    obtain ⟨hboot, hlog, hunits, hsets, hjobs, hpsram⟩ := s.restarted_start b cause
    refine ⟨_, exec_restart hdue hready b, by rw [hboot], hlog, hunits, hsets, hjobs, hpsram, by rw [hboot],
      fun m hs => ?_⟩
    rw [s.restarted_trOf b cause hs]
    exact ⟨rfl, rfl, rfl⟩

end Sys2Proof.Machine
end

section
/-! PROOFS. Slot attempts and phase 3 (R124, R125, R136 to R140, Table BOOT-5). -/

namespace Sys2Proof.Machine

variable {s : State}

/-! ### Slot attempts -/

section Attempts

variable {slot : Side} (hphase : s.boot.phase = .phase2) (hreread : s.rereadDue = false)
  (hnext : s.nextSlot = some (sideN slot)) (dt : Nat)
include hphase hreread hnext

/-- The slot that is next is tried in phase 2 once no re-read is due (R120, R121, R136). -/
theorem State.attempt_proceeds : (s.boot.phase != .phase2 || s.rereadDue || s.nextSlot != some (sideN slot)) = false := by
  simp [hphase, hreread, hnext]

/-- SLOT_ATTEMPT of a slot that flash can be read of, for the result code of its checks 1 to 5 (Table BOOT-5). -/
theorem exec_slotAttempt : exec (.slotAttempt slot dt false) s = .next
    (let z := s.elapse dt
     let code := z.slotChecks (sideN slot) (decide (s.boot.tryT + 28000000 ≤ s.now + dt)) (z.ratchet 0)
     if code ≠ 1 then z.failSlot (sideN slot) code
     else if !z.setLoads (sideN slot) then z.failSlot (sideN slot) 7
     else z.loadSet (sideN slot)) := by
  show execSlotAttempt slot dt false s = _
  simp only [execSlotAttempt, State.attempt_proceeds hphase hreread hnext, Bool.false_and, Bool.false_or,
    Bool.false_eq_true, if_false, State.elapse_boot, State.elapse_now]

/-- SLOT_ATTEMPT_TIMEOUT of the slot that is next (R140). -/
theorem exec_slotAttemptTimeout : exec (.slotAttemptTimeout slot dt) s = .next
    (let z := (s.elapse dt).reach (s.boot.tryT + 28000000)
     z.failSlot (sideN slot) (if z.regBit 0x0005 0 2 then 8 else 2)) := by
  show execSlotAttemptTimeout slot dt s = _
  simp only [execSlotAttemptTimeout, State.attempt_proceeds hphase hreread hnext, Bool.false_eq_true, if_false]

end Attempts

/-! ### Phase 3 -/

/-- REFERENCES_SETTLED in phase 3 ends it where the set marks early release (R125). -/
theorem exec_referencesSettled (hphase : s.boot.phase = .phase3) (hrefs : s.boot.refs = false) (dt : Nat) :
    ∃ z : State, exec (.referencesSettled dt) s = .next z ∧
      z.boot = { s.boot with refs := true, ended := s.boot.ended || s.boot.early } ∧ z.now = s.now + dt := by
  have hbranch : (s.boot.phase != .phase3 || s.boot.refs) = false := by simp [hphase, hrefs]
  refine ⟨_, congrArg Host.Outcome.next (if_neg (by simp [hbranch])), ?_⟩
  dsimp only
  split <;> simp

/-- PHASE3_TIMEOUT in phase 3: its end comes 40 ms after its beginning (R125). -/
theorem exec_phase3Timeout (hphase : s.boot.phase = .phase3) (dt : Nat) :
    ∃ z : State, exec (.phase3Timeout dt) s = .next { z with boot := { s.boot with ended := true } } ∧
      z.now = max (s.now + dt) (s.boot.began + 16000000) := by
  refine ⟨(s.elapse dt).reach (s.boot.began + 16000000), ?_, ?_⟩
  · show execPhase3Timeout dt s = _
    simp only [execPhase3Timeout, hphase, bne_self_eq_false, Bool.false_eq_true, if_false, State.reach_boot,
      State.elapse_boot]
  · rw [State.reach_now, State.elapse_now]

/-- Settles O23: a slot attempt goes by the result code of its checks, and each end of phase 3 by its command above. -/
theorem attemptsAndPhaseThree : Obligations.AttemptsAndPhaseThree := by
  refine ⟨fun s slot dt hphase hreread hnext => ⟨fun code hcode hfail => ?fails, fun hintime hpass hload => ?loads, ?late⟩,
    fun s hphase => ⟨fun dt hrefs => ?settled, fun dt => ?timeout⟩⟩
  case fails =>
    subst hcode
    rw [exec_slotAttempt hphase hreread hnext]
    exact congrArg Host.Outcome.next (if_pos hfail)
  case loads =>
    refine ⟨?_, rfl⟩
    rw [exec_slotAttempt hphase hreread hnext, decide_eq_false (not_le.2 hintime)]
    simp [hpass, hload]
  case late =>
    have hnow : ((s.elapse dt).reach (s.boot.tryT + 28000000)).now = max (s.now + dt) (s.boot.tryT + 28000000) := by
      rw [State.reach_now, s.elapse_now]
    exact ⟨_, exec_slotAttemptTimeout hphase hreread hnext dt, hnow ▸ le_max_right _ _, hnow⟩
  case settled =>
    obtain ⟨z, hz, hboot, hnow⟩ := exec_referencesSettled hphase hrefs dt
    exact ⟨z, hz, by rw [hboot], by rw [hboot], hnow⟩
  case timeout =>
    obtain ⟨z, hz, hnow⟩ := exec_phase3Timeout hphase dt
    exact ⟨_, hz, rfl, hnow, hphase⟩

end Sys2Proof.Machine
end

section
/-! PROOFS. The thermometer counters (R186, R187): a counter's value by its highest set position, and its headroom. -/

namespace Sys2Proof.Machine

/-- One more than the highest position below `n` that is set, or 0 where none is. -/
def highestSet (f : Nat → Bool) (n : Nat) : Nat := (List.range n).foldl (fun v p => if f p then p + 1 else v) 0

theorem highestSet_succ (f : Nat → Bool) (n : Nat) : highestSet f (n + 1) = if f n then n + 1 else highestSet f n := by
  simp [highestSet, List.range_succ]

theorem highestSet_le (f : Nat → Bool) (n : Nat) : highestSet f n ≤ n := by
  induction n with
  | zero => exact Nat.le_refl 0
  | succ n ih =>
    rw [highestSet_succ]
    split <;> omega

theorem highestSet_none {f : Nat → Bool} {n : Nat} (h : ∀ p < n, f p = false) : highestSet f n = 0 := by
  induction n with
  | zero => rfl
  | succ n ih =>
    rw [highestSet_succ, if_neg (by simp [h n]), ih fun p hp => h p (by omega)]

theorem highestSet_top {f : Nat → Bool} {n p : Nat} (hp : p < n) (hset : f p = true)
    (habove : ∀ q < n, p < q → f q = false) : highestSet f n = p + 1 := by
  induction n with
  | zero => omega
  | succ n ih =>
    rw [highestSet_succ]
    obtain rfl | hlt := Nat.eq_or_lt_of_le (Nat.le_of_lt_succ hp)
    · rw [if_pos hset]
    · rw [if_neg (by simp [habove n (by omega) hlt]), ih hlt fun q hq => habove q (by omega)]

theorem State.counterValue_eq (s : State) (c : Nat) :
    s.counterValue c = highestSet (s.counterBit c) (counterShape c).2 := rfl

/-- A counter's value never passes its number of steps. -/
theorem State.counterValue_le (s : State) (c : Nat) : s.counterValue c ≤ (counterShape c).2 := highestSet_le ..

/-- No counter has more than 128 steps (Table SINT-4). -/
theorem counterShape_steps_le (c : Nat) : (counterShape c).2 ≤ 128 := by
  unfold counterShape
  split_ifs <;> decide

/-- Three fields side by side, the two low ones a byte wide. -/
theorem Word.bits_byteFields {a b c : Nat} (ha : a < 256) (hb : b < 256) (hc : c < 65536) :
    (Word.of (a + b * 256 + c * 65536)).bits 0 8 = a ∧ (Word.of (a + b * 256 + c * 65536)).bits 8 8 = b := by
  have hword : (Word.of (a + b * 256 + c * 65536)).toNat = a + b * 256 + c * 65536 := Word.toNat_of_lt (by omega)
  have hhigh : (a + b * 256 + c * 65536) / 2 ^ 8 = b + c * 256 := by omega
  rw [Word.bits, Word.bits, hword, hhigh]
  omega

/-- The two byte fields of a counter's register: value and headroom. -/
theorem State.counterWord_fields (s : State) (c : Nat) : (s.counterWord c).bits 0 8 = s.counterValue c ∧
    (s.counterWord c).bits 8 8 = (counterShape c).2 - s.counterValue c := by
  have hvalue := s.counterValue_le c
  have hsteps := counterShape_steps_le c
  have hgap : (s.counterGap c).toNat ≤ 1 := Bool.toNat_le _
  exact Word.bits_byteFields (by omega) (by omega) (by omega)

/-- Settles O53: the value is `highestSet` of the counter's positions, and its register holds it beside the headroom. -/
theorem counterValueIsHighestPosition : Obligations.CounterValueIsHighestPosition := by
  intro s c
  obtain ⟨hvalue, hheadroom⟩ := s.counterWord_fields c
  exact ⟨fun hnone => highestSet_none hnone, fun p hp hset habove => highestSet_top hp hset habove,
    fun _ => ⟨hvalue, hheadroom, s.counterValue_le c⟩⟩

end Sys2Proof.Machine
end

section
/-! PROOFS. What the device stores for good: the bytes of its three memories and its fuses (R157, R158, R533, R738). One
lemma for each operation says that it stores nothing (`SameStored`), or, where it can write to a memory, that it leaves the
fuses (`SameFuses`); an operation that another one alone uses is unfolded there. First the relations, and the operations
that all parts share. -/

namespace Sys2Proof.Machine

/-! ### States that hold the same -/

/-- Two states hold the same fuses. -/
@[reducible, simp] def State.SameFuses (t s : State) : Prop :=
  t.sint.copy0 = s.sint.copy0 ∧ t.sint.copy1 = s.sint.copy1

/-- Two states hold the same bytes in SRAM, in XSPI1 and in the boot flash. -/
@[reducible, simp] def State.SameBytes (t s : State) : Prop :=
  t.mem.sram = s.mem.sram ∧ t.mem.psram = s.mem.psram ∧ t.img.flash = s.img.flash

/-- Two states hold the same bytes and the same fuses. -/
@[reducible, simp] def State.SameStored (t s : State) : Prop := State.SameBytes t s ∧ State.SameFuses t s

/-- The state that a command leads to, if it leads to one, is in a relation to the state before. -/
def State.Leads (R : State → State → Prop) (s : State) (o : Host.Outcome State Fault Refusal) : Prop :=
  ∀ t, o = .next t → R t s

@[simp] theorem State.leads_next (R : State → State → Prop) (s t : State) : s.Leads R (.next t) ↔ R t s := by
  simp [State.Leads]
@[simp] theorem State.leads_refused (R : State → State → Prop) (s : State) (r : Refusal) :
    s.Leads R (.refused r) := by
  simp [State.Leads]

/-- What is stored after one of two ways of going on. -/
@[simp] theorem State.ite_stored (c : Prop) [Decidable c] (a b : State) :
    (if c then a else b).mem.sram = (if c then a.mem.sram else b.mem.sram) ∧
    (if c then a else b).mem.psram = (if c then a.mem.psram else b.mem.psram) ∧
    (if c then a else b).img.flash = (if c then a.img.flash else b.img.flash) ∧
    (if c then a else b).sint.copy0 = (if c then a.sint.copy0 else b.sint.copy0) ∧
    (if c then a else b).sint.copy1 = (if c then a.sint.copy1 else b.sint.copy1) := by
  split <;> simp

/-- The state of one of two answers. -/
@[simp] theorem State.ite_fst {β : Type} (c : Prop) [Decidable c] (a b : State × β) :
    (if c then a else b).1 = if c then a.1 else b.1 := apply_ite Prod.fst c a b

/-! ### Repeated operations -/

section Repeated

variable {α : Type} {f : State → α → State}

@[simp] theorem State.foldl_sameStored (hf : ∀ z a, State.SameStored (f z a) z) (l : List α) (s : State) :
    State.SameStored (l.foldl f s) s :=
  State.each_keeps (P := fun z => State.SameStored z s) (fun z a hz => by simpa [hf z a] using hz) l s (by simp)

@[simp] theorem State.each_sameStored (hf : ∀ z a, State.SameStored (f z a) z) (l : List α) (s : State) :
    State.SameStored (s.each l f) s := State.foldl_sameStored hf l s

@[simp] theorem State.foldl_sameFuses (hf : ∀ z a, State.SameFuses (f z a) z) (l : List α) (s : State) :
    State.SameFuses (l.foldl f s) s :=
  State.each_keeps (P := fun z => State.SameFuses z s) (fun z a hz => by simpa [hf z a] using hz) l s (by simp)

@[simp] theorem State.each_sameFuses (hf : ∀ z a, State.SameFuses (f z a) z) (l : List α) (s : State) :
    State.SameFuses (s.each l f) s := State.foldl_sameFuses hf l s

@[simp] theorem State.writeBytes_sameFuses {g : State → Nat → Byte → State}
    (hg : ∀ z a b, State.SameFuses (g z a b) z) (s : State) (a : Nat) (bs : List Byte) :
    State.SameFuses (s.writeBytes g a bs) s :=
  State.writeBytes_keeps (P := fun z => State.SameFuses z s) (fun z a b hz => by simpa [hg z a b] using hz) bs s a
    (by simp)

end Repeated

variable (s : State)

/-! ### Registers, memories and counters -/

@[simp] theorem State.bumpBy_sameStored (id sub n : Nat) : State.SameStored (s.bumpBy id sub n) s := by
  simp [State.bumpBy]
@[simp] theorem State.setSramByte_sameFuses (a : Nat) (b : Byte) : State.SameFuses (s.setSramByte a b) s := by
  simp [State.setSramByte]
@[simp] theorem State.setFlashByte_sameFuses (a : Nat) (b : Byte) : State.SameFuses (s.setFlashByte a b) s := by
  simp [State.setFlashByte]
@[simp] theorem State.setSramWord_sameFuses (a : Nat) (w : Word) : State.SameFuses (s.setSramWord a w) s := by
  simp [State.setSramWord]
@[simp] theorem State.setPsramWord_sameFuses (a : Nat) (w : Word) : State.SameFuses (s.setPsramWord a w) s := by
  simp [State.setPsramWord, State.setPsramByte]
@[simp] theorem State.absentDrop_sameStored (u : Nat) : State.SameStored (s.absentDrop u) s := by
  simp [State.absentDrop]
@[simp] theorem State.gone_sameStored (u : Nat) : State.SameStored (s.gone u) s := by simp [State.gone]

/-! ### The fabric as a netlist -/

@[simp] theorem State.saveGate_sameFuses (r : Nat) : State.SameFuses (s.saveGate r) s := by
  unfold State.saveGate
  split <;> simp
@[simp] theorem State.scramble_sameFuses (r : Nat) (f : CellCfg → Bool) : State.SameFuses (s.scramble r f) s := by
  unfold State.scramble
  split <;> simp
@[simp] theorem State.scrambleMacs_sameFuses (r : Nat) (f : MacCfg → Bool) :
    State.SameFuses (s.scrambleMacs r f) s := by
  unfold State.scrambleMacs
  split <;> simp

/-! ### Flags that follow the state -/

@[simp] theorem State.refreshHold_sameStored (boundary : Bool) : State.SameStored (s.refreshHold boundary) s := by
  simp [State.refreshHold]
@[simp] theorem State.refreshThresh_sameFuses (ring : Nat) : State.SameFuses (s.refreshThresh ring) s := by
  simp [State.refreshThresh]
@[simp] theorem State.setClosed_sameStored (at_ : Nat) (l : List (Nat × Nat)) :
    State.SameStored (s.setClosed at_ l) s := by
  simp [State.setClosed]

/-! ### Wire checks -/

@[simp] theorem State.keepUp_sameStored : State.SameStored s.keepUp s := by
  unfold State.keepUp
  split <;> simp
@[simp] theorem State.mapRun_sameStored (f : WireRun → WireRun) : State.SameStored (s.mapRun f) s := by
  unfold State.mapRun
  split <;> simp
@[simp] theorem State.withdrawStep_sameStored (ch : Nat) : State.SameStored (s.withdrawStep ch) s := by
  simp [State.withdrawStep]
@[simp] theorem State.dropWireRuns_sameFuses (f : WireRun → Bool) : State.SameFuses (s.dropWireRuns f) s := by
  simp [State.dropWireRuns]

/-! ### Converters -/

@[simp] theorem State.refreshStalled_sameStored (n : Nat) : State.SameStored (s.refreshStalled n) s := by
  simp [State.refreshStalled]
@[simp] theorem State.refreshHealth_sameStored (n : Nat) : State.SameStored (s.refreshHealth n) s := by
  simp [State.refreshHealth]
@[simp] theorem State.startCold_sameStored (n : Nat) : State.SameStored (s.startCold n) s := by
  unfold State.startCold
  dsimp only
  repeat' split
  all_goals simp
@[simp] theorem State.stopConv_sameFuses (n : Nat) : State.SameFuses (s.stopConv n) s := by simp [State.stopConv]

/-! ### Bursts and drains -/

@[simp] theorem State.spaceWrite_sameFuses (xspi : Bool) (a : Nat) (w : Word) :
    State.SameFuses (s.spaceWrite xspi a w) s := by
  simp [State.spaceWrite]
@[simp] theorem State.countBytes_sameFuses (x1 : Bool) (n : Nat) : State.SameFuses (s.countBytes x1 n) s := by
  simp [State.countBytes]
@[simp] theorem State.unpoison_sameFuses (k : Nat) : State.SameFuses (s.unpoison k) s := by simp [State.unpoison]
@[simp] theorem State.writeBurst_sameFuses (n : Nat) (ws : List Word) : State.SameFuses (s.writeBurst n ws) s := by
  simp [State.writeBurst]
@[simp] theorem State.eccUncorr_sameStored (w : Nat) : State.SameStored (s.eccUncorr w) s := by simp [State.eccUncorr]
@[simp] theorem State.readSram_sameFuses (src n : Nat) (ecc : Ecc) : State.SameFuses (s.readSram src n ecc).1 s := by
  unfold State.readSram
  split <;> simp
@[simp] theorem State.cutBurst_sameFuses (n : Nat) : State.SameFuses (s.cutBurst n) s := by simp [State.cutBurst]
@[simp] theorem State.writeDrain_sameFuses (ws : List (Nat × Word)) : State.SameFuses (s.writeDrain ws) s := by
  simp [State.writeDrain]
@[simp] theorem State.cutDrain_sameFuses (q : Nat) : State.SameFuses (s.cutDrain q) s := by
  unfold State.cutDrain
  dsimp only
  split <;> simp

end Sys2Proof.Machine
end

section
/-! PROOFS. What units, their runs, plan items, filter chains and sequences store: nothing but ring words and bursts,
and no fuse. -/

namespace Sys2Proof.Machine

variable (s : State)

/-! ### Units -/

@[simp] theorem State.startJob_sameStored (op : Nat) (kind : JobKind) : State.SameStored (s.startJob op kind).1 s := by
  simp [State.startJob]
@[simp] theorem State.endJob_sameStored (num status : Nat) (words : List Word) :
    State.SameStored (s.endJob num status words) s := by
  unfold State.endJob
  split <;> simp
@[simp] theorem State.setJob_sameStored (num : Nat) (kind : JobKind) : State.SameStored (s.setJob num kind) s := by
  simp [State.setJob]
@[simp] theorem State.endCapture_sameStored (j : Job) : State.SameStored (s.endCapture j) s := by
  unfold State.endCapture
  split <;> simp
@[simp] theorem State.discard_sameStored (u : Nat) : State.SameStored (s.discard u) s := by simp [State.discard]
@[simp] theorem State.feedPort_sameStored (port prod : Nat) (w : Word) (tags : List Tag) :
    State.SameStored (s.feedPort port prod w tags) s := by
  simp [State.feedPort]
@[simp] theorem State.discardPort_sameFuses (port : Nat) : State.SameFuses (s.discardPort port) s := by
  simp [State.discardPort]
@[simp] theorem State.landReplies_sameFuses (before : Nat) : State.SameFuses (s.landReplies before) s := by
  simp [State.landReplies, State.landReply, State.sramReply]
@[simp] theorem State.dropFlights_sameFuses (p : Flight → Bool) : State.SameFuses (s.dropFlights p) s := by
  simp [State.dropFlights]
@[simp] theorem State.discardRun_sameFuses (n : Nat) (r : Option Run) : State.SameFuses (s.discardRun n r) s := by
  unfold State.discardRun
  split <;> simp
@[simp] theorem State.abandonRuns_sameFuses (n : Nat) : State.SameFuses (s.abandonRuns n) s := by
  simp [State.abandonRuns]
@[simp] theorem State.dropRun_sameFuses (n : Nat) : State.SameFuses (s.dropRun n) s := by simp [State.dropRun]
@[simp] theorem State.dropSeqItem_sameFuses (n idx : Nat) : State.SameFuses (s.dropSeqItem n idx) s := by
  simp [State.dropSeqItem, State.dropRunA]
@[simp] theorem State.dropOuts_sameFuses (f : Nat) : State.SameFuses (s.dropOuts f) s := by simp [State.dropOuts]
@[simp] theorem State.dropItem_sameFuses (r : RunItem) : State.SameFuses (s.dropItem r) s := by
  unfold State.dropItem
  dsimp only
  repeat' split
  all_goals simp
@[simp] theorem State.endSwap_sameStored (f status : Nat) : State.SameStored (s.endSwap f status) s := by
  unfold State.endSwap
  split <;> simp
@[simp] theorem State.flipBank_sameStored (f : Nat) : State.SameStored (s.flipBank f) s := by simp [State.flipBank]
@[simp] theorem State.endFade_sameStored (f : Nat) : State.SameStored (s.endFade f) s := by simp [State.endFade]
@[simp] theorem State.onLeave_sameFuses (u : Nat) (dst : UState) : State.SameFuses (s.onLeave u dst) s := by
  simp [State.onLeave, State.leaveReplies, State.stopSeq]
@[simp] theorem State.onStop_sameFuses (u : Nat) : State.SameFuses (s.onStop u) s := by
  simp [State.onStop, State.dropInbox, State.disarm, State.uartStop]
@[simp] theorem State.fabricReset_sameFuses (r : Nat) (ram : Bool) : State.SameFuses (s.fabricReset r ram) s := by
  unfold State.fabricReset
  split <;> simp
@[simp] theorem State.fabricInit_sameFuses (r : Nat) : State.SameFuses (s.fabricInit r) s := by simp [State.fabricInit]
@[simp] theorem State.onReset_sameFuses (u : Nat) : State.SameFuses (s.onReset u) s := by simp [State.onReset]
@[simp] theorem State.onWake_sameFuses (u : Nat) : State.SameFuses (s.onWake u) s := by simp [State.onWake]
@[simp] theorem State.clearChain_sameFuses (f : Nat) : State.SameFuses (s.clearChain f) s := by simp [State.clearChain]
@[simp] theorem State.closeSwitches_sameStored : State.SameStored s.closeSwitches s := by simp [State.closeSwitches]
@[simp] theorem State.goState_sameFuses (u : Nat) (dst : UState) (cause : Nat) :
    State.SameFuses (s.goState u dst cause) s := by
  simp [State.goState, State.powerLost, State.onAwake, State.onRun, State.startUart]
@[simp] theorem State.drainUnit_sameFuses (u : Nat) (off : Bool) : State.SameFuses (s.drainUnit u off) s := by
  unfold State.drainUnit
  dsimp only
  repeat' split
  all_goals simp
@[simp] theorem State.unitBoundary_sameFuses (v : View) (u : Nat) : State.SameFuses (State.unitBoundary v s u) s := by
  unfold State.unitBoundary
  dsimp only
  repeat' split
  all_goals simp
@[simp] theorem State.forceFault_sameFuses (u : Nat) : State.SameFuses (s.forceFault u) s := by simp [State.forceFault]
@[simp] theorem execWakeFail_sameFuses (unit : Fin 64) : s.Leads State.SameFuses (execWakeFail unit s) := by
  unfold execWakeFail
  dsimp only
  split <;> simp

/-! ### Analog cells -/

@[simp] theorem State.powerCell_sameStored (c : Nat) : State.SameStored (s.powerCell c) s := by simp [State.powerCell]
@[simp] theorem State.holdCell_sameStored (src at_ : Nat) (c : Nat) :
    State.SameStored (State.holdCell src at_ s c) s := by
  simp [State.holdCell]
@[simp] theorem State.holdCells_sameStored (src at_ : Nat) : State.SameStored (s.holdCells src at_) s := by
  simp [State.holdCells]

/-! ### Lanes and ports -/

@[simp] theorem State.grant_sameFuses (bank cls : Nat) (rmw : Bool) : State.SameFuses (s.grant bank cls rmw) s := by
  simp [State.grant]
@[simp] theorem State.addMover_sameFuses (m : Mover) : State.SameFuses (s.addMover m) s := by simp [State.addMover]
@[simp] theorem State.endMover_sameFuses (who : Nat) : State.SameFuses (s.endMover who) s := by simp [State.endMover]
@[simp] theorem State.moveDrain_sameFuses (q cls k : Nat) (item : Option Nat) :
    State.SameFuses (s.moveDrain q cls k item) s := by
  simp [State.moveDrain]

/-! ### Plan items -/

@[simp] theorem State.finishItem_sameStored (idx : Nat) : State.SameStored (s.finishItem idx) s := by
  simp [State.finishItem]
@[simp] theorem State.startItem_sameFuses (i action : Nat) : State.SameFuses (s.startItem i action).1 s := by
  unfold State.startItem
  split
  · simp
  · dsimp only
    repeat' split
    all_goals simp

/-- A plan item starts or does not, and either way the fuses stay. -/
theorem State.startItem_cases (i action : Nat) :
    (∃ z, s.startItem i action = (z, none) ∧ State.SameFuses z s) ∨
      ∃ z it, s.startItem i action = (z, some it) ∧ State.SameFuses z s := by
  have h := s.startItem_sameFuses i action
  rcases hitem : s.startItem i action with ⟨z, _ | it⟩
  · exact .inl ⟨z, rfl, by simpa [hitem] using h⟩
  · exact .inr ⟨z, it, rfl, by simpa [hitem] using h⟩

@[simp] theorem execOverbudget_sameFuses (i : Fin 64) : s.Leads State.SameFuses (execOverbudget i s) := by
  unfold execOverbudget
  split <;> simp

/-! ### Filter chains -/

@[simp] theorem State.acceptWord_sameStored (f n cls : Nat) (w : Word) :
    State.SameStored (s.acceptWord f n cls w) s := by
  simp [State.acceptWord]
@[simp] theorem State.deliverOut_sameStored (f : Nat) (o : ChainOut) (item : Option Nat) (at_ : Nat) :
    State.SameStored (s.deliverOut f o item at_) s := by
  simp [State.deliverOut]
@[simp] theorem State.emitDone_sameStored (f : Nat) : State.SameStored (s.emitDone f) s := by
  unfold State.emitDone
  split <;> simp
@[simp] theorem execFiltEmit_sameFuses (i : Fin 64) : s.Leads State.SameFuses (execFiltEmit i s) := by
  unfold execFiltEmit
  rcases s.startItem_cases i.val 5 with ⟨z, h, hz⟩ | ⟨z, it, h, hz⟩
  · simpa [h] using hz
  · simp [h, hz]
@[simp] theorem execFiltOutput_sameStored (fi : Fin 8) : s.Leads State.SameStored (execFiltOutput fi s) := by
  unfold execFiltOutput
  dsimp only
  split <;> simp

/-! ### Sequences and rings -/

@[simp] theorem State.ignoreTrig_sameStored (n : Nat) : State.SameStored (s.ignoreTrig n) s := by
  simp [State.ignoreTrig]
@[simp] theorem State.issueTrig_sameStored (n order first delay : Nat) (item : Option Nat) (at_ : Nat) :
    State.SameStored (s.issueTrig n order first delay item at_).1 s := by
  simp [State.issueTrig]
@[simp] theorem State.slotTrigs_sameStored (srcs : List Nat) (edge : Word → Bool) (at_ : Nat) :
    State.SameStored (s.slotTrigs srcs edge at_) s := by
  simp [State.slotTrigs]
@[simp] theorem execSeqStart_sameFuses (i : Fin 64) : s.Leads State.SameFuses (execSeqStart i s) := by
  unfold execSeqStart
  rcases s.startItem_cases i.val 1 with ⟨z, h, hz⟩ | ⟨z, it, h, hz⟩
  · simpa [h] using hz
  · simp [h, hz]
@[simp] theorem State.timerPulses_sameStored (ks : List Nat) (at_ : Nat) :
    State.SameStored (s.timerPulses ks at_) s := by
  simp [State.timerPulses]
@[simp] theorem execTtPulse_sameStored (k : Fin 8) : s.Leads State.SameStored (execTtPulse k s) := by
  unfold execTtPulse
  dsimp only
  split <;> simp
@[simp] theorem State.preempt_sameStored (n ready lastA : Nat) : State.SameStored (s.preempt n ready lastA) s := by
  unfold State.preempt
  dsimp only
  repeat' split
  all_goals simp
@[simp] theorem execTriggerReady_sameStored (c : Side) : s.Leads State.SameStored (execTriggerReady c s) := by
  unfold execTriggerReady
  dsimp only
  repeat' split
  all_goals simp
@[simp] theorem State.runDone_sameStored (n : Nat) (isA : Bool) : State.SameStored (s.runDone n isA) s := by
  unfold State.runDone
  dsimp only
  repeat' split
  all_goals simp
@[simp] theorem State.settleRun_sameStored (n : Nat) (isA : Bool) : State.SameStored (s.settleRun n isA) s := by
  unfold State.settleRun
  dsimp only
  split <;> simp
@[simp] theorem execResultWordDelivery_sameStored (c : Side) (dt : Nat) (clsA : Bool) (smp : Sample) :
    s.Leads State.SameStored (execResultWordDelivery c dt clsA smp s) := by
  unfold execResultWordDelivery
  extract_lets n b q put
  rw [State.leads_next]
  split
  · simp
  · split
    · simp
    · extract_lets s1 iv e nextT nx last pv nb v cv closed pins susMap cal w tags s2 m2 s3 s4 m4 s5
      split
      · simp [s1]
      · have h1 : State.SameStored s1 s := by simp [s1]
        have h2 : State.SameStored s2 s1 := by simp [s2]
        have h3 : State.SameStored s3 s2 := by
          simp only [s3, m2]
          split <;> simp
        have h4 : State.SameStored s4 s3 := by simp [s4]
        have h5 : State.SameStored s5 s4 := by simp [s5, m4]
        simp [put, h1, h2, h3, h4, h5]
@[simp] theorem State.advanceWr_sameFuses (ring : Nat) : State.SameFuses (s.advanceWr ring) s := by
  simp [State.advanceWr]
@[simp] theorem State.queueWord_sameFuses (q ring : Nat) (w : Word) : State.SameFuses (s.queueWord q ring w) s := by
  simp [State.queueWord]
@[simp] theorem State.ringStore_sameFuses (r : RingReq) (a : Nat) (uncorr : Bool) :
    State.SameFuses (s.ringStore r a uncorr) s := by
  unfold State.ringStore
  dsimp only
  repeat' split
  all_goals simp
@[simp] theorem State.writeRing_sameFuses (r : RingReq) (uncorr : Bool) : State.SameFuses (s.writeRing r uncorr) s := by
  simp [State.writeRing, State.ringFull, State.advanceRd]
@[simp] theorem State.ringStep_sameFuses (r : RingReq) (uncorr : Bool) : State.SameFuses (s.ringStep r uncorr) s := by
  simp [State.ringStep]
@[simp] theorem execRingWrite_sameFuses (uncorr : Bool) : s.Leads State.SameFuses (execRingWrite uncorr s) := by
  unfold execRingWrite
  split <;> simp
@[simp] theorem execCaptureWord_sameFuses (c : Side) : s.Leads State.SameFuses (execCaptureWord c s) := by
  unfold execCaptureWord
  dsimp only
  repeat' split
  all_goals simp
@[simp] theorem execCaptureTimeout_sameStored (c : Side) : s.Leads State.SameStored (execCaptureTimeout c s) := by
  unfold execCaptureTimeout
  split <;> simp

end Sys2Proof.Machine
end

section
/-! PROOFS. What the analog cells, the converters, the fabric and the movers store: the movers store bytes, and none of
them a fuse. -/

namespace Sys2Proof.Machine

variable (s : State)

/-! ### The analog cells and DACs -/

@[simp] theorem execAcellSat_sameStored (cell : Fin 16) (x : CellInputs) :
    s.Leads State.SameStored (execAcellSat cell x s) := by
  unfold execAcellSat
  dsimp only
  split <;> simp
@[simp] theorem State.latchDac_sameStored (ch : Nat) (code : Word) (at_ : Nat) :
    State.SameStored (s.latchDac ch code at_) s := by
  simp [State.latchDac]
@[simp] theorem State.dueHeld_sameStored (by_ : Nat) (ch : Nat) : State.SameStored (State.dueHeld by_ s ch) s := by
  unfold State.dueHeld
  dsimp only
  split <;> simp
@[simp] theorem execDacUpdate_sameFuses (i : Fin 64) : s.Leads State.SameFuses (execDacUpdate i s) := by
  unfold execDacUpdate
  rcases s.startItem_cases i.val 3 with ⟨z, h, hz⟩ | ⟨z, it, h, hz⟩
  · simpa [h] using hz
  · simp only [h, State.leads_next]
    split
    · exact hz
    · refine State.each_keeps (P := fun z => State.SameFuses (z.finishItem i.val) s) (fun z ch hch => ?_) _ _
        (by simp [hz])
      split <;> simpa using hch
@[simp] theorem execDacPortWrite_sameStored (ch : Fin 8) (dt : Nat) (code : BitVec 16) :
    s.Leads State.SameStored (execDacPortWrite ch dt code s) := by
  unfold execDacPortWrite
  dsimp only
  split <;> simp
@[simp] theorem execDacHeldLatch_sameStored (ch : Fin 8) : s.Leads State.SameStored (execDacHeldLatch ch s) := by
  unfold execDacHeldLatch
  dsimp only
  split <;> simp
@[simp] theorem execDacOutputResume_sameStored (ch : Fin 8) : s.Leads State.SameStored (execDacOutputResume ch s) := by
  unfold execDacOutputResume
  split <;> simp

/-! ### Wire faults -/

@[simp] theorem State.setSus_sameStored (pin : Nat) (on : Bool) : State.SameStored (s.setSus pin on) s := by
  simp [State.setSus]
@[simp] theorem execWireCheck_sameFuses (i : Fin 64) (meas : List WireMeas) :
    s.Leads State.SameFuses (execWireCheck i meas s) := by
  unfold execWireCheck
  rcases s.startItem_cases i.val 4 with ⟨z, h, hz⟩ | ⟨z, it, h, hz⟩
  · simpa [h] using hz
  · simp [h, hz]
@[simp] theorem State.applyVerdict_sameFuses (c : PinFound) : State.SameFuses (s.applyVerdict c) s := by
  simp [State.applyVerdict]
@[simp] theorem execWireCheckFinish_sameFuses : s.Leads State.SameFuses (execWireCheckFinish s) := by
  unfold execWireCheckFinish
  split <;> simp
@[simp] theorem State.recordClamp_sameStored (p : Nat) : State.SameStored (s.recordClamp p) s := by
  simp [State.recordClamp]

/-! ### Calibration -/

@[simp] theorem State.keepConv_sameStored (n : Nat) : State.SameStored (s.keepConv n) s := by simp [State.keepConv]
@[simp] theorem State.setTerms_sameStored (n k : Nat) (m : SliceMeas) : State.SameStored (s.setTerms n k m) s := by
  simp [State.setTerms]
@[simp] theorem State.markSlice_sameStored (n k r warn : Nat) : State.SameStored (s.markSlice n k r warn) s := by
  simp [State.markSlice]
@[simp] theorem State.swapSpare_sameStored (n p : Nat) (w : Waiting) : State.SameStored (s.swapSpare n p w) s := by
  simp [State.swapSpare]
@[simp] theorem State.retireSpare_sameFuses (n r : Nat) : State.SameFuses (s.retireSpare n r) s := by
  simp [State.retireSpare]
@[simp] theorem State.regrid_sameFuses (n : Nat) : State.SameFuses (s.regrid n) s := by simp [State.regrid]
@[simp] theorem execCalRotate_sameFuses (i : Fin 64) (m : SliceMeas) :
    s.Leads State.SameFuses (execCalRotate i m s) := by
  unfold execCalRotate
  rcases s.startItem_cases i.val 8 with ⟨z, h, hz⟩ | ⟨z, it, h, hz⟩
  · simpa [h] using hz
  · simp [h, hz]
@[simp] theorem execCalRotateSwap_sameStored (c : Side) : s.Leads State.SameStored (execCalRotateSwap c s) := by
  unfold execCalRotateSwap
  dsimp only
  repeat' split
  all_goals simp
@[simp] theorem State.countCold_sameStored (n k : Nat) (m : SliceMeas) : State.SameStored (s.countCold n k m) s := by
  simp [State.countCold]
@[simp] theorem State.judgeCold_sameStored (n warn : Nat) : State.SameStored (s.judgeCold n warn) s := by
  simp [State.judgeCold]
@[simp] theorem execColdStep_sameStored (c : Side) (terms : Terms) (resid : Nat) :
    s.Leads State.SameStored (execColdStep c terms resid s) := by
  unfold execColdStep
  dsimp only
  split <;> simp
@[simp] theorem execColdSpareSwap_sameStored (c : Side) : s.Leads State.SameStored (execColdSpareSwap c s) := by
  unfold execColdSpareSwap
  dsimp only
  split <;> simp
@[simp] theorem execConvCalTimeout_sameStored (c : Side) : s.Leads State.SameStored (execConvCalTimeout c s) := by
  unfold execConvCalTimeout
  extract_lets n b x s1
  have hturn : ∀ t y, State.SameStored (((((s.reach t).setConv n y).setRegBit (b + 6) 0 3 true).refreshHealth n).emit
      (convUnit n) evConvCalTimeout 0) s := fun t y => by simp
  rw [State.leads_next]
  split
  · simp
  · exact hturn _ _

/-! ### The fabric -/

@[simp] theorem State.pulseStrobe_sameFuses (r k : Nat) : State.SameFuses (s.pulseStrobe r k) s := by
  simp [State.pulseStrobe]
@[simp] theorem execFabricStrobe_sameFuses (i : Fin 64) : s.Leads State.SameFuses (execFabricStrobe i s) := by
  unfold execFabricStrobe
  rcases s.startItem_cases i.val 6 with ⟨z, h, hz⟩ | ⟨z, it, h, hz⟩
  · simpa [h] using hz
  · simp [h, hz]
@[simp] theorem execFabricStrobeDone_sameFuses (r strobe : Fin 8) :
    s.Leads State.SameFuses (execFabricStrobeDone r strobe s) := by
  unfold execFabricStrobeDone
  dsimp only
  repeat' split
  all_goals simp
@[simp] theorem State.startWaiting_sameFuses (r : Nat) : State.SameFuses (s.startWaiting r) s := by
  simp [State.startWaiting]
@[simp] theorem execRegionFreezeEnd_sameFuses (r : Fin 8) : s.Leads State.SameFuses (execRegionFreezeEnd r s) := by
  unfold execRegionFreezeEnd
  dsimp only
  repeat' split
  all_goals simp
@[simp] theorem execRegionLoadStep_sameStored (r : Fin 8) : s.Leads State.SameStored (execRegionLoadStep r s) := by
  unfold execRegionLoadStep
  dsimp only
  repeat' split
  all_goals simp
@[simp] theorem execFabPortInputWord_sameStored (r : Fin 8) (kind : StreamPort) (n : Fin 8) (dt : Nat) :
    s.Leads State.SameStored (execFabPortInputWord r kind n dt s) := by
  unfold execFabPortInputWord
  dsimp only
  split <;> simp
@[simp] theorem State.ringsBefore_sameFuses (bank cls : Nat) : ∀ (n : Nat) (s : State),
    State.SameFuses (State.ringsBefore bank cls n s) s
  | 0, s => by simp [State.ringsBefore]
  | n + 1, s => by
    unfold State.ringsBefore
    split
    · simp
    · split
      · simp
      · simp [State.ringsBefore_sameFuses bank cls n]
@[simp] theorem State.launchReply_sameFuses (f : Flight) : State.SameFuses (s.launchReply f) s := by
  simp [State.launchReply]
@[simp] theorem execFabricSramRequest_sameFuses (port : Fin 8) (addr : Word) (wr : Option (BitVec 64))
    (answer : BankAnswer) : s.Leads State.SameFuses (execFabricSramRequest port addr wr answer s) := by
  unfold execFabricSramRequest
  dsimp only
  repeat' split
  all_goals simp

/-! ### SRAM, Geyser and DMA -/

@[simp] theorem State.endDesc_sameFuses (n status : Nat) : State.SameFuses (s.endDesc n status) s := by
  simp [State.endDesc]
@[simp] theorem State.dmaAbsent_sameFuses (n : Nat) : State.SameFuses (s.dmaAbsent n) s := by simp [State.dmaAbsent]
@[simp] theorem State.startBurst_sameFuses (n : Nat) (item : Option Nat) :
    State.SameFuses (s.startBurst n item).1 s := by
  simp [State.startBurst, State.moveBurst]
@[simp] theorem execDmaBurst_sameFuses (i : Fin 64) : s.Leads State.SameFuses (execDmaBurst i s) := by
  unfold execDmaBurst
  rcases s.startItem_cases i.val 2 with ⟨z, h, hz⟩ | ⟨z, it, h, hz⟩
  · simpa [h] using hz
  · simp [h, hz]
@[simp] theorem State.advanceDring_sameFuses (n bytes : Nat) : State.SameFuses (s.advanceDring n bytes) s := by
  simp [State.advanceDring]
@[simp] theorem execDmaBurstComplete_sameFuses (ch : Fin 24) (ecc : Ecc) :
    s.Leads State.SameFuses (execDmaBurstComplete ch ecc s) := by
  unfold execDmaBurstComplete
  extract_lets n z _ s0 len sp src bad strobe tag r s2 s3 s4 s5 s6
  rw [State.leads_next]
  split
  · simp
  · extract_lets fin
    have hfin : ∀ z, State.SameFuses (fin z) z := by
      intro z
      simp only [fin]
      split <;> simp
    split
    · simp
    · have h0 : State.SameFuses s0 s := by simp [s0, z]
      have hr : State.SameFuses r.1 s0 := by simp [r]
      have h2 : State.SameFuses s2 r.1 := by simp [s2]
      have h4 : State.SameFuses s4 s2 := by simp [s4, s3]
      have h6 : State.SameFuses s6 s4 := by simp [s6, s5]
      simp [hfin, h0, hr, h2, h4, h6]
@[simp] theorem State.putStream_sameFuses (n : Nat) (ws : List Word) : State.SameFuses (s.putStream n ws) s := by
  simp [State.putStream, State.writeStream]
@[simp] theorem execDmaStreamWord_sameFuses (ch : Fin 4) (w : Word) (busy : Bool) :
    s.Leads State.SameFuses (execDmaStreamWord ch w busy s) := by
  unfold execDmaStreamWord
  dsimp only
  split <;> simp
@[simp] theorem execGeyserDrain_sameFuses (i : Fin 64) : s.Leads State.SameFuses (execGeyserDrain i s) := by
  unfold execGeyserDrain
  rcases s.startItem_cases i.val 7 with ⟨z, h, hz⟩ | ⟨z, it, h, hz⟩
  · simpa [h] using hz
  · simp [h, hz]
@[simp] theorem execDrainComplete_sameFuses (qi : Fin 16) : s.Leads State.SameFuses (execDrainComplete qi s) := by
  unfold execDrainComplete
  dsimp only
  repeat' split
  all_goals simp

end Sys2Proof.Machine
end

section
/-! PROOFS. What the transports, the serial ports and the random source store: nothing. -/

namespace Sys2Proof.Machine

variable (s : State)

/-! ### Transports -/

@[simp] theorem State.transportError_sameStored (n kind : Nat) (seq : Byte) :
    State.SameStored (s.transportError n kind seq) s := by
  simp [State.transportError]
@[simp] theorem State.errReply_sameStored (n : Nat) (r : Reply) : State.SameStored (s.errReply n r) s := by
  simp [State.errReply]
@[simp] theorem State.frameBad_sameStored (n : Nat) (seq : Byte) : State.SameStored (s.frameBad n seq) s := by
  simp [State.frameBad]
@[simp] theorem State.announce_sameStored (n : Nat) (r : Reply) : State.SameStored (s.announce n r) s := by
  simp [State.announce]
@[simp] theorem State.errorReady_sameStored (n : Nat) : State.SameStored (s.errorReady n) s := by
  unfold State.errorReady
  dsimp only
  split <;> simp
@[simp] theorem State.discardRx_sameStored (n kind : Nat) : State.SameStored (s.discardRx n kind) s := by
  simp [State.discardRx]
@[simp] theorem State.gapCheck_sameStored (u : Nat) : State.SameStored (s.gapCheck u) s := by simp [State.gapCheck]
@[simp] theorem execTransportReplySend_sameStored (u : Fin 4) :
    s.Leads State.SameStored (execTransportReplySend u s) := by
  unfold execTransportReplySend
  dsimp only
  split <;> simp
@[simp] theorem State.transportByte_sameStored (u : Nat) (b : Byte) (bad brk : Bool) :
    State.SameStored (s.transportByte u b bad brk) s := by
  simp [State.transportByte]

/-! ### Serial ports -/

@[simp] theorem State.rxLevelled_sameStored (u old : Nat) : State.SameStored (s.rxLevelled u old) s := by
  simp [State.rxLevelled]
@[simp] theorem State.txLevelled_sameStored (u old : Nat) : State.SameStored (s.txLevelled u old) s := by
  simp [State.txLevelled]
@[simp] theorem State.popTx_sameStored (u : Nat) : State.SameStored (s.popTx u) s := by simp [State.popTx]
@[simp] theorem State.popRx_sameStored (u : Nat) : State.SameStored (s.popRx u) s := by simp [State.popRx]
@[simp] theorem State.countEntry_sameStored (u : Nat) (e : BitVec 12) : State.SameStored (s.countEntry u e) s := by
  simp [State.countEntry]
@[simp] theorem State.storeEntry_sameStored (u : Nat) (e : BitVec 12) : State.SameStored (s.storeEntry u e) s := by
  simp [State.storeEntry]
@[simp] theorem State.deliverEntry_sameStored (u : Nat) (e : BitVec 12) : State.SameStored (s.deliverEntry u e) s := by
  simp [State.deliverEntry]
@[simp] theorem State.linEnd_sameStored (u outcome : Nat) : State.SameStored (s.linEnd u outcome) s := by
  simp [State.linEnd]
@[simp] theorem State.linStart_sameStored (u : Nat) (pid : Byte) (nf : Bool) :
    State.SameStored (s.linStart u pid nf) s := by
  simp [State.linStart]
@[simp] theorem State.linChar_sameStored (u : Nat) (data : Byte) (fe nf : Bool) :
    State.SameStored (s.linChar u data fe nf) s := by
  unfold State.linChar
  dsimp only
  split <;> simp
@[simp] theorem execUartStartBit_sameStored (ui : Fin 4) (edges : List Nat) :
    s.Leads State.SameStored (execUartStartBit ui edges s) := by
  unfold execUartStartBit
  dsimp only
  repeat' split
  all_goals simp
@[simp] theorem State.takeChar_sameStored (u : Nat) (x : UartSt) (c : RxChar) :
    State.SameStored (s.takeChar u x c) s := by
  simp [State.takeChar]
@[simp] theorem State.turnIdle_sameStored (u : Nat) : State.SameStored (s.turnIdle u) s := by simp [State.turnIdle]
@[simp] theorem State.sent_sameStored (u bits : Nat) : State.SameStored (s.sent u bits) s := by simp [State.sent]
@[simp] theorem execXoffSend_sameStored (ui : Fin 4) : s.Leads State.SameStored (execXoffSend ui s) := by
  unfold execXoffSend
  dsimp only
  split <;> simp
@[simp] theorem execUartAutobaud_sameStored (ui : Fin 4) (stamps : List Nat) (stopHigh : Bool) :
    s.Leads State.SameStored (execUartAutobaud ui stamps stopHigh s) := by
  unfold execUartAutobaud
  dsimp only
  repeat' split
  all_goals simp
@[simp] theorem execLinHeader_sameStored (ui : Fin 4) (readBackOk : Bool) :
    s.Leads State.SameStored (execLinHeader ui readBackOk s) := by
  unfold execLinHeader
  dsimp only
  split <;> simp
@[simp] theorem execUartFabricWrite_sameStored (ui : Fin 4) (b : Byte) :
    s.Leads State.SameStored (execUartFabricWrite ui b s) := by
  unfold execUartFabricWrite
  dsimp only
  split <;> simp
@[simp] theorem execUartFabricHandoff_sameStored (ui : Fin 4) (dt : Nat) :
    s.Leads State.SameStored (execUartFabricHandoff ui dt s) := by
  unfold execUartFabricHandoff
  dsimp only
  repeat' split
  all_goals simp

/-! ### The random source -/

@[simp] theorem State.refreshRng_sameStored : State.SameStored s.refreshRng s := by simp [State.refreshRng]
@[simp] theorem State.countRandom_sameStored (n : Nat) : State.SameStored (s.countRandom n) s := by
  simp [State.countRandom]
@[simp] theorem State.feedRequest_sameStored (n : Nat) : State.SameStored (s.feedRequest n) s := by
  unfold State.feedRequest
  dsimp only
  split <;> simp
@[simp] theorem State.feedJob_sameStored : State.SameStored s.feedJob s := by
  unfold State.feedJob
  dsimp only
  repeat' split
  all_goals simp
@[simp] theorem State.feedRandom_sameStored : State.SameStored s.feedRandom s := by simp [State.feedRandom]
@[simp] theorem State.healthEvent_sameStored (source : Nat) (proportion start : Bool) (retest : Nat) :
    State.SameStored (s.healthEvent source proportion start retest) s := by
  simp [State.healthEvent]
@[simp] theorem State.failRandom_sameStored : State.SameStored s.failRandom s := by
  unfold State.failRandom
  extract_lets s1
  have hjob : State.SameStored s1 s := by
    simp only [s1]
    split <;> simp
  refine State.each_keeps (P := fun z => State.SameStored z s) (fun z n hz => ?_) _ _ hjob
  dsimp only
  repeat' split
  all_goals simpa using hz
@[simp] theorem execRngHealthFail_sameStored (before window : List (List Bool)) :
    s.Leads State.SameStored (execRngHealthFail before window s) := by
  unfold execRngHealthFail
  dsimp only
  repeat' split
  all_goals simp
@[simp] theorem execRngRetestEnd_sameStored (sources : List (List Bool)) :
    s.Leads State.SameStored (execRngRetestEnd sources s) := by
  unfold execRngRetestEnd
  split <;> simp
@[simp] theorem State.seedDrbg_sameStored (seed : BitVec 384) : State.SameStored (s.seedDrbg seed) s := by
  simp [State.seedDrbg]

end Sys2Proof.Machine
end

section
/-! PROOFS. What start-up, the boundary with its commit and the tick bus store: no fuse. -/

namespace Sys2Proof.Machine

variable (s : State)

/-! ### Values that take effect -/

@[simp] theorem State.afterCell_sameFuses (old : View) (c : Nat) : State.SameFuses (State.afterCell old s c) s := by
  simp [State.afterCell]
@[simp] theorem State.afterDac_sameFuses (old : View) (touched : Nat → Bool) (ch : Nat) :
    State.SameFuses (State.afterDac old touched s ch) s := by
  simp [State.afterDac]
@[simp] theorem State.restartRing_sameFuses (ring : Nat) : State.SameFuses (s.restartRing ring) s := by
  simp [State.restartRing]
@[simp] theorem State.afterSegment_sameFuses (old : View) (q : Nat) :
    State.SameFuses (State.afterSegment old s q) s := by
  unfold State.afterSegment
  dsimp only
  repeat' split
  all_goals simp
@[simp] theorem State.hunt_sameFuses : State.SameFuses s.hunt s := by simp [State.hunt]
@[simp] theorem State.afterRole_sameFuses (old : View) (roleSet : Bool) :
    State.SameFuses (State.afterRole old roleSet s) s := by
  simp [State.afterRole]
@[simp] theorem State.applyValues_sameFuses (ws : List (Nat × Nat × Word)) : State.SameFuses (s.applyValues ws) s := by
  simp [State.applyValues, State.keepEntries, State.openSwitches, State.afterRing, State.afterPin, State.afterUart]

/-! ### The programming job and scans -/

@[simp] theorem State.closeTap_sameStored : State.SameStored s.closeTap s := by simp [State.closeTap]
@[simp] theorem State.relock_sameStored (cause : Nat) : State.SameStored (s.relock cause) s := by simp [State.relock]
@[simp] theorem State.warnHeadroom_sameStored (c : Nat) : State.SameStored (s.warnHeadroom c) s := by
  simp [State.warnHeadroom]
@[simp] theorem State.dropShadows_sameStored (f : RegionCfg → Bool) : State.SameStored (s.dropShadows f) s := by
  simp [State.dropShadows]
@[simp] theorem State.endFuse_sameStored (num : Nat) (f : FuseJob) (status reason : Nat) :
    State.SameStored (s.endFuse num f status reason) s := by
  unfold State.endFuse
  split <;> simp
@[simp] theorem State.burnDone_sameStored (p : Nat × Nat) : State.SameStored (s.burnDone p) s := by
  simp [State.burnDone]
@[simp] theorem State.copyDone_sameStored (num : Nat) (f : FuseJob) (p : Nat × Nat) :
    State.SameStored (s.copyDone num f p) s := by
  unfold State.copyDone
  dsimp only
  repeat' split
  all_goals simp
@[simp] theorem execSinterScanDone_sameStored : s.Leads State.SameStored (execSinterScanDone s) := by
  unfold execSinterScanDone
  split <;> simp

/-! ### Images -/

@[simp] theorem State.setVerify_sameFuses (t : Nat) (v : Verify) : State.SameFuses (s.setVerify t v) s := by
  simp [State.setVerify]
@[simp] theorem State.eraseFlash_sameFuses (a n : Nat) : State.SameFuses (s.eraseFlash a n) s := by
  simp [State.eraseFlash]
@[simp] theorem State.writeFlash_sameFuses (a : Nat) (ws : List Word) : State.SameFuses (s.writeFlash a ws) s := by
  simp [State.writeFlash]
@[simp] theorem execImageEraseDone_sameFuses : s.Leads State.SameFuses (execImageEraseDone s) := by
  unfold execImageEraseDone
  repeat' split
  all_goals simp
@[simp] theorem execImageWriteDone_sameFuses : s.Leads State.SameFuses (execImageWriteDone s) := by
  unfold execImageWriteDone
  repeat' split
  all_goals simp
@[simp] theorem execImageVerifyDone_sameFuses (readErr : Bool) :
    s.Leads State.SameFuses (execImageVerifyDone readErr s) := by
  unfold execImageVerifyDone
  dsimp only
  repeat' split
  all_goals simp

/-! ### Start-up -/

@[simp] theorem State.beginPhase1_sameFuses (b : BitVec 2) : State.SameFuses (s.beginPhase1 b) s := by
  simp [State.beginPhase1, State.strap]
@[simp] theorem State.deliver_sameFuses (first : Nat) (rows : List Word) :
    State.SameFuses (s.deliver first rows) s := by
  simp [State.deliver]
@[simp] theorem State.alarm_sameFuses (region outcome : Nat) : State.SameFuses (s.alarm region outcome) s := by
  simp [State.alarm]
@[simp] theorem State.endPhase2_sameFuses : State.SameFuses s.endPhase2 s := by simp [State.endPhase2]
@[simp] theorem State.enterLimited_sameFuses (reason : Nat) : State.SameFuses (s.enterLimited reason) s := by
  simp [State.enterLimited]
@[simp] theorem State.takeTemp_sameFuses (temp : BitVec 16) : State.SameFuses (s.takeTemp temp) s := by
  simp [State.takeTemp]
@[simp] theorem State.failSlot_sameFuses (slot code : Nat) : State.SameFuses (s.failSlot slot code) s := by
  unfold State.failSlot
  dsimp only
  split <;> simp
@[simp] theorem State.loadSet_sameFuses (slot : Nat) : State.SameFuses (s.loadSet slot) s := by
  simp [State.loadSet, State.loadCoef, State.loadRegion, State.powerAtBoot]

/-! ### Clocks and doze -/

@[simp] theorem State.loseLock_sameStored : State.SameStored s.loseLock s := by simp [State.loseLock]
@[simp] theorem State.shiftGrid_sameStored (from_ : Nat) (n : Nat) :
    State.SameStored (State.shiftGrid from_ s n) s := by
  simp [State.shiftGrid]
@[simp] theorem State.clocksResume_sameStored : State.SameStored s.clocksResume s := by
  simp [State.clocksResume, State.restartLine, State.holdOff]

/-! ### The tick bus -/

@[simp] theorem State.setLocked_sameStored (b : Bool) : State.SameStored (s.setLocked b) s := by simp [State.setLocked]
@[simp] theorem State.missEdge_sameStored : State.SameStored s.missEdge s := by simp [State.missEdge]
@[simp] theorem State.closeWindow_sameStored (e : Nat) : State.SameStored (s.closeWindow e) s := by
  unfold State.closeWindow
  split <;> simp
@[simp] theorem State.loseSync_sameStored (e : Int) : State.SameStored (s.loseSync e) s := by simp [State.loseSync]
@[simp] theorem State.expire_sameStored : State.SameStored s.expire s := by simp [State.expire]
@[simp] theorem State.steer_sameStored (e : Int) : State.SameStored (s.steer e) s := by simp [State.steer]
@[simp] theorem State.placeEdge_sameStored (e : Nat) (marked : Bool) : State.SameStored (s.placeEdge e marked) s := by
  simp [State.placeEdge]
@[simp] theorem State.confirmEdge_sameStored : State.SameStored s.confirmEdge s := by simp [State.confirmEdge]
@[simp] theorem State.offEdge_sameStored (hope : Option Int) (e : Int) : State.SameStored (s.offEdge hope e) s := by
  unfold State.offEdge
  split <;> simp
@[simp] theorem State.lateEdge_sameStored (t e : Nat) : State.SameStored (s.lateEdge t e) s := by simp [State.lateEdge]
@[simp] theorem State.nextEdge_sameStored (e : Nat) (marked : Bool) : State.SameStored (s.nextEdge e marked) s := by
  simp [State.nextEdge]
@[simp] theorem State.meetEdge_sameStored (e : Nat) (marked : Bool) : State.SameStored (s.meetEdge e marked) s := by
  unfold State.meetEdge
  dsimp only
  repeat' split
  all_goals simp
@[simp] theorem execMissedEdge_sameStored : s.Leads State.SameStored (execMissedEdge s) := by
  unfold execMissedEdge
  split <;> simp

/-! ### The boundary -/

@[simp] theorem State.countUnreached_sameFuses : State.SameFuses s.countUnreached s := by
  unfold State.countUnreached
  repeat' split
  all_goals simp
@[simp] theorem State.cut_sameFuses : State.SameFuses s.cut s := by
  simp [State.cut, State.freeTriggers]
@[simp] theorem State.tbusTurn_sameFuses (b : Nat × Bool) (checked : Bool) :
    State.SameFuses (s.tbusTurn b checked) s := by
  unfold State.tbusTurn
  dsimp only
  split <;> simp
@[simp] theorem State.beginDoze_sameFuses : State.SameFuses s.beginDoze s := by
  simp [State.beginDoze, State.dozeCell, State.dozeUart]
@[simp] theorem State.endDrained_sameFuses (j : Job) : State.SameFuses (s.endDrained j) s := by
  unfold State.endDrained
  dsimp only
  repeat' split
  all_goals simp
@[simp] theorem State.swapJob_sameFuses (j : Job) : State.SameFuses (s.swapJob j) s := by
  unfold State.swapJob
  split <;> simp
@[simp] theorem State.planJob_sameFuses (j : Job) : State.SameFuses (s.planJob j) s := by
  unfold State.planJob
  split <;> simp
@[simp] theorem State.checkFit_sameFuses : State.SameFuses s.checkFit s := by
  unfold State.checkFit
  split <;> simp
@[simp] theorem State.cycleZero_sameFuses (temp : BitVec 16) : State.SameFuses (s.cycleZero temp) s := by
  simp [State.cycleZero, State.holdLine, State.fromPin, State.flushStream, State.markEpoch, State.countRefs,
    State.endDoze, State.release, State.swaps, State.rearm, State.prune]
@[simp] theorem State.cycle128_sameFuses (fresh : Bool) : State.SameFuses (s.cycle128 fresh) s := by
  simp [State.cycle128, State.startLine, State.commit, State.commitRelease, State.fallDue, State.leaveReset,
    State.dropHunted, State.earlyPulses]

end Sys2Proof.Machine
end

section
/-! PROOFS. What a request stores while it is served: no fuse. Jobs that burn fuses are only begun here (R192). -/

namespace Sys2Proof.Machine

variable (s : State)

/-! ### How a request is served -/

@[simp] theorem State.refuse_sameStored (status : Nat) : State.SameStored (s.refuse status).1 s := by
  simp [State.refuse]
@[simp] theorem State.refuseAt_sameStored (status i : Nat) : State.SameStored (s.refuseAt status i).1 s := by
  simp [State.refuseAt]
@[simp] theorem State.bad_sameStored (i : Nat) : State.SameStored (s.bad i).1 s := by simp [State.bad]
@[simp] theorem State.done_sameStored (ws : List Word) : State.SameStored (s.done ws).1 s := by simp [State.done]
@[simp] theorem State.queued_sameStored (op : Nat) (kind : JobKind) : State.SameStored (s.queued op kind).1 s := by
  simp [State.queued]
@[simp] theorem State.enqueue_sameStored (op : Nat) (kind : JobKind) (clash : JobKind → Bool) :
    State.SameStored (s.enqueue op kind clash).1 s := by
  simp [State.enqueue]
@[simp] theorem State.answer_sameFuses {run : State → Answer} (hrun : ∀ z, State.SameFuses (run z).1 z) (s : State)
    (op : Nat) (ws : List Word) : State.SameFuses (s.answer op ws run).1 s := by
  unfold State.answer
  split
  · simp
  · split
    · simp
    · split
      · simp
      · exact hrun s
@[simp] theorem State.toCommit_sameFuses (n dt : Nat) : State.SameFuses (s.toCommit n dt) s := by simp [State.toCommit]
@[simp] theorem State.taken_sameFuses (n : Nat) : State.SameFuses (s.taken n) s := by simp [State.taken]
@[simp] theorem State.garbage_sameFuses : State.SameFuses s.garbage s := by simp [State.garbage]
@[simp] theorem State.execute_sameFuses {run : State → Answer} (hrun : ∀ z, State.SameFuses (run z).1 z) (s : State)
    (n : Nat) (seq : Byte) (op : Nat) (ws : List Word) : State.SameFuses (s.execute n seq op ws run) s := by
  simp [State.execute, hrun]
@[simp] theorem State.commitRequest_sameFuses {run : State → Answer} (hrun : ∀ z, State.SameFuses (run z).1 z)
    (s : State) (n : Nat) (seq : Byte) (op : Nat) (ws : List Word) :
    State.SameFuses (s.commitRequest n seq op ws run) s := by
  simp [State.commitRequest, hrun]
@[simp] theorem State.serve_sameFuses {run : State → Answer} (hrun : ∀ z, State.SameFuses (run z).1 z) (s : State)
    (h : Hdr) (op : Nat) (ws : List Word) : State.SameFuses (s.serve h op ws run) s := by
  simp [State.serve, hrun]

/-- A request to a unit that is READY or RUNNING does its work or is refused. -/
theorem State.readyRun_keeps {P : State → Prop} {s : State} {ok : Answer} (hs : P s) (hok : P ok.1) (u i : Nat) :
    P (s.readyRun u i ok).1 := by
  simp only [State.readyRun]
  split
  · exact hs
  · split
    · exact hok
    · exact hs

@[simp] theorem State.readyRun_sameFuses {s : State} {ok : Answer} (hok : State.SameFuses ok.1 s) (u i : Nat) :
    State.SameFuses (s.readyRun u i ok).1 s :=
  State.readyRun_keeps (P := fun z => State.SameFuses z s) (by simp) hok u i
@[simp] theorem State.unlessDraining_sameFuses {s : State} {ok : Answer} (hok : State.SameFuses ok.1 s) (u i : Nat) :
    State.SameFuses (s.unlessDraining u i ok).1 s := by
  unfold State.unlessDraining
  split
  · simp
  · exact hok

/-! ### Housekeeping -/

@[simp] theorem State.doPoll_sameFuses (ws : List Word) : State.SameFuses (State.doPoll ws s).1 s := by
  unfold State.doPoll
  dsimp only
  repeat' split
  all_goals simp
@[simp] theorem State.doPower_sameFuses (ws : List Word) : State.SameFuses (State.doPower ws s).1 s := by
  simp [State.doPower, State.powerUnit]
@[simp] theorem State.doReset_sameFuses (ws : List Word) : State.SameFuses (State.doReset ws s).1 s := by
  simp [State.doReset]
@[simp] theorem State.doState_sameFuses (ws : List Word) : State.SameFuses (State.doState ws s).1 s := by
  simp [State.doState]
@[simp] theorem State.doLogRead_sameStored (ws : List Word) : State.SameStored (State.doLogRead ws s).1 s := by
  simp [State.doLogRead]
@[simp] theorem State.doLogClear_sameFuses (ws : List Word) : State.SameFuses (State.doLogClear ws s).1 s := by
  simp [State.doLogClear]
@[simp] theorem State.dueRestart_sameFuses (cause n : Nat) : State.SameFuses (s.dueRestart cause n) s := by
  simp [State.dueRestart]
@[simp] theorem State.doSoftReset_sameFuses (n : Nat) (ws : List Word) :
    State.SameFuses (State.doSoftReset n ws s).1 s := by
  simp [State.doSoftReset]

/-! ### Jobs -/

@[simp] theorem State.doPlanLoad_sameFuses (ws : List Word) : State.SameFuses (State.doPlanLoad ws s).1 s := by
  unfold State.doPlanLoad
  dsimp only
  repeat' split
  all_goals simp
@[simp] theorem State.doPlanSwap_sameFuses (ws : List Word) : State.SameFuses (State.doPlanSwap ws s).1 s := by
  unfold State.doPlanSwap
  repeat' split
  all_goals simp
@[simp] theorem State.doRegionLoad_sameFuses (ws : List Word) : State.SameFuses (State.doRegionLoad ws s).1 s := by
  simp [State.doRegionLoad]
@[simp] theorem State.doRegionSwap_sameFuses (ws : List Word) : State.SameFuses (State.doRegionSwap ws s).1 s := by
  unfold State.doRegionSwap
  split <;> simp
@[simp] theorem State.doCoefLoad_sameFuses (ws : List Word) : State.SameFuses (State.doCoefLoad ws s).1 s := by
  unfold State.doCoefLoad
  split <;> simp
@[simp] theorem State.doCoefSwap_sameFuses (ws : List Word) : State.SameFuses (State.doCoefSwap ws s).1 s := by
  unfold State.doCoefSwap
  split <;> simp
@[simp] theorem State.doConvert_sameFuses (ws : List Word) : State.SameFuses (State.doConvert ws s).1 s := by
  simp [State.doConvert]
@[simp] theorem State.doArm_sameFuses (ws : List Word) : State.SameFuses (State.doArm ws s).1 s := by simp [State.doArm]
@[simp] theorem State.readSpace_sameFuses (x1 : Bool) (addr n : Nat) (ecc : Ecc) :
    State.SameFuses (s.readSpace x1 addr n ecc).1 s := by
  simp [State.readSpace]
@[simp] theorem State.doRead_sameFuses (ws : List Word) (ecc : Ecc) : State.SameFuses (State.doRead ws ecc s).1 s := by
  simp [State.doRead]
@[simp] theorem State.doCapture_sameFuses (ws : List Word) (ecc : Ecc) :
    State.SameFuses (State.doCapture ws ecc s).1 s := by
  simp [State.doCapture]
@[simp] theorem State.doFuseRead_sameFuses (ws : List Word) : State.SameFuses (State.doFuseRead ws s).1 s := by
  simp [State.doFuseRead]
@[simp] theorem State.program_sameFuses (op : Nat) (counter : Option Nat) (bits : List (Nat × Nat)) :
    State.SameFuses (s.program op counter bits).1 s := by
  unfold State.program
  dsimp only
  repeat' split
  all_goals simp
@[simp] theorem State.doFuseProg_sameFuses (ws : List Word) : State.SameFuses (State.doFuseProg ws s).1 s := by
  simp [State.doFuseProg]
@[simp] theorem State.doAdvance_sameFuses (ws : List Word) : State.SameFuses (State.doAdvance ws s).1 s := by
  simp [State.doAdvance]
@[simp] theorem State.drawRandom_sameFuses (n : Nat) : State.SameFuses (s.drawRandom n) s := by simp [State.drawRandom]
@[simp] theorem State.queueRandom_sameStored (n : Nat) (got : List Byte) : State.SameStored (s.queueRandom n got).1 s :=
  State.readyRun_keeps (P := fun z => State.SameStored z s) (by simp) (by simp) 0x05 0
@[simp] theorem State.doRandom_sameFuses (tr : Nat) (ws : List Word) :
    State.SameFuses (State.doRandom tr ws s).1 s := by
  simp [State.doRandom]

/-! ### Images and unlock -/

@[simp] theorem State.doImageOpen_sameFuses (ws : List Word) : State.SameFuses (State.doImageOpen ws s).1 s := by
  simp [State.doImageOpen]
@[simp] theorem State.doImageWrite_sameFuses (ws : List Word) (slow : Bool) :
    State.SameFuses (State.doImageWrite ws slow s).1 s := by
  simp [State.doImageWrite]
@[simp] theorem State.doImageVerify_sameFuses (ws : List Word) : State.SameFuses (State.doImageVerify ws s).1 s := by
  simp [State.doImageVerify]
@[simp] theorem State.imgRefused_sameFuses (status : Nat) : State.SameFuses (s.imgRefused status).1 s := by
  simp [State.imgRefused]
@[simp] theorem State.doImageActivate_sameFuses (n : Nat) (ws : List Word) :
    State.SameFuses (State.doImageActivate n ws s).1 s := by
  unfold State.doImageActivate
  split <;> simp
@[simp] theorem State.doChallenge_sameFuses : State.SameFuses s.doChallenge.1 s := by
  simp [State.doChallenge, State.topUp]
@[simp] theorem State.doResponse_sameFuses (ws : List Word) : State.SameFuses (State.doResponse ws s).1 s := by
  simp [State.doResponse]
@[simp] theorem State.doUnlock_sameFuses (ws : List Word) : State.SameFuses (State.doUnlock ws s).1 s := by
  simp [State.doUnlock]

/-! ### Parameters -/

@[simp] theorem State.getParam_sameFuses (id sub : Nat) : State.SameFuses (s.getParam id sub).1 s := by
  simp [State.getParam, State.afterGet]
@[simp] theorem State.doGet_sameFuses (ws : List Word) : State.SameFuses (State.doGet ws s).1 s := by
  unfold State.doGet
  split <;> simp
@[simp] theorem State.writeAction_sameFuses (id : Nat) (w : Word) : State.SameFuses (s.writeAction id w) s := by
  simp [State.writeAction, State.clearCounters, State.pushTx]
@[simp] theorem State.armAutobaud_sameFuses (u : Nat) (w : Word) : State.SameFuses (s.armAutobaud u w) s := by
  simp [State.armAutobaud]
@[simp] theorem State.resumeTx_sameFuses (u : Nat) : State.SameFuses (s.resumeTx u) s := by simp [State.resumeTx]
@[simp] theorem State.writeNow_sameFuses (id sub : Nat) (w : Word) : State.SameFuses (s.writeNow id sub w) s := by
  unfold State.writeNow
  dsimp only
  repeat' split
  all_goals simp
@[simp] theorem State.putNow_sameFuses (id sub : Nat) (w : Word) : State.SameFuses (s.putNow id sub w) s := by
  simp [State.putNow]
@[simp] theorem State.without_sameFuses (xs : List Setting) : State.SameFuses (s.without xs) s := by
  simp [State.without]
@[simp] theorem State.checkValue_sameFuses {s : State} {ok : Answer} (hok : State.SameFuses ok.1 s) (z : State)
    (sets : List Setting) (d id sub : Nat) (w : Word) (vi : Nat) :
    State.SameFuses (s.checkValue z sets d id sub w vi ok).1 s := by
  simp [State.checkValue, hok]
@[simp] theorem State.setTick_sameFuses (id sub : Nat) (w : Word) (vi : Nat) :
    State.SameFuses (s.setTick id sub w vi).1 s := by
  simp [State.setTick]
@[simp] theorem State.setAtOnce_sameFuses (sets : List Setting) (id sub : Nat) (w : Word) (vi : Nat) :
    State.SameFuses (s.setAtOnce sets id sub w vi).1 s := by
  simp [State.setAtOnce]
@[simp] theorem State.setParam_sameFuses (id sub : Nat) (w : Word) (vi : Nat) :
    State.SameFuses (s.setParam id sub w vi).1 s := by
  simp [State.setParam]
@[simp] theorem State.doSet_sameFuses (ws : List Word) : State.SameFuses (State.doSet ws s).1 s := by
  unfold State.doSet
  split <;> simp
@[simp] theorem State.doSetNow_sameFuses (ws : List Word) : State.SameFuses (State.doSetNow ws s).1 s := by
  unfold State.doSetNow
  split <;> simp
@[simp] theorem State.doSetGroup_sameFuses (ws : List Word) : State.SameFuses (State.doSetGroup ws s).1 s := by
  unfold State.doSetGroup
  dsimp only
  repeat' split
  all_goals simp
@[simp] theorem State.doCancel_sameFuses (ws : List Word) : State.SameFuses (State.doCancel ws s).1 s := by
  unfold State.doCancel
  dsimp only
  repeat' split
  all_goals simp
@[simp] theorem State.setOne_sameFuses (h : Hdr) (id : Nat) (w : Word) : State.SameFuses (s.setOne h id w) s := by
  simp [State.setOne]
@[simp] theorem State.getOne_sameFuses (h : Hdr) (id : Nat) : State.SameFuses (s.getOne h id) s := by
  simp [State.getOne]

/-! ### Transactions -/

@[simp] theorem runOpcode_sameFuses (n op : Nat) (ws : List Word) : State.SameFuses (runOpcode n op ws s).1 s := by
  simp [runOpcode]
@[simp] theorem State.finalReply_sameStored (n : Nat) (r : Reply) : State.SameStored (s.finalReply n r).1 s := by
  simp [State.finalReply]
@[simp] theorem execReplyReady_sameStored (p : Prepared) : s.Leads State.SameStored (execReplyReady p s) := by
  unfold execReplyReady
  dsimp only
  repeat' split
  all_goals simp

/-! ### The test access port -/

@[simp] theorem State.loadTap_sameStored (code : BitVec 8) (captured : BitVec 164) :
    State.SameStored (s.loadTap code captured) s := by
  simp [State.loadTap]
@[simp] theorem execPrivateDebug_sameStored (code : BitVec 8) : s.Leads State.SameStored (execPrivateDebug code s) := by
  unfold execPrivateDebug
  repeat' split
  all_goals simp

end Sys2Proof.Machine
end

section
/-! PROOFS. The fuses burn and never return to 0 (R157, R158, R193), and the commands that store nothing store nothing. -/

namespace Sys2Proof.Machine

/-! ### A burn -/

/-- From a canonical map of fuse rows one comes to another: it is canonical too, and no bit of a row returned to 0. -/
def RowsBurn (m' m : List (Nat × Word)) : Prop :=
  wfMap 0 m = true → wfMap 0 m' = true ∧ ∀ r b, (lookup 0 m r).bit b = true → (lookup 0 m' r).bit b = true

theorem RowsBurn.refl (m : List (Nat × Word)) : RowsBurn m m := fun hm => ⟨hm, fun _ _ hb => hb⟩

theorem RowsBurn.trans {m'' m' m : List (Nat × Word)} (h : RowsBurn m'' m') (h' : RowsBurn m' m) : RowsBurn m'' m := by
  intro hm
  obtain ⟨hm', hbits'⟩ := h' hm
  obtain ⟨hm'', hbits⟩ := h hm'
  exact ⟨hm'', fun r b hb => hbits r b (hbits' r b hb)⟩

/-- Setting a bit clears none. -/
theorem Word.bit_setBit_true {w : Word} {b : Nat} (hb : w.bit b = true) (i : Nat) : (w.setBit i true).bit b = true := by
  simp only [Word.bit] at hb
  simp [Word.bit, Word.setBit, hb]

/-- A row that gains a bit. -/
theorem RowsBurn.insert_setBit (m : List (Nat × Word)) (k i : Nat) :
    RowsBurn (insert 0 m k ((lookup 0 m k).setBit i true)) m := by
  refine fun hm => ⟨wfMap_insert hm .., fun r b hb => ?_⟩
  rw [lookup_insert hm]
  split
  · next h => exact Word.bit_setBit_true (h ▸ hb) i
  · exact hb

/-- In neither copy a fuse returned to 0 (R158). -/
def State.FusesBurn (t s : State) : Prop :=
  RowsBurn t.sint.copy0 s.sint.copy0 ∧ RowsBurn t.sint.copy1 s.sint.copy1

theorem State.FusesBurn.trans {u t s : State} (h : State.FusesBurn u t) (h' : State.FusesBurn t s) :
    State.FusesBurn u s := ⟨h.1.trans h'.1, h.2.trans h'.2⟩

theorem State.SameFuses.fusesBurn {t s : State} (h : State.SameFuses t s) : State.FusesBurn t s :=
  ⟨h.1 ▸ RowsBurn.refl _, h.2 ▸ RowsBurn.refl _⟩

theorem State.FusesBurn.refl (s : State) : State.FusesBurn s s := ⟨RowsBurn.refl _, RowsBurn.refl _⟩

/-- A pulse that verifies programs one bit of one copy and clears none (R193). -/
theorem State.burnCopy_fusesBurn (s : State) (c : Nat) (p : Nat × Nat) : State.FusesBurn (s.burnCopy c p) s := by
  by_cases hc : c = 1
  · subst hc
    exact ⟨RowsBurn.refl _, RowsBurn.insert_setBit _ p.1 p.2⟩
  · have hcopy : (c == 1) = false := by simpa using hc
    rw [State.burnCopy, hcopy, if_neg hc]
    exact ⟨RowsBurn.insert_setBit _ p.1 p.2, RowsBurn.refl _⟩

@[simp] theorem State.burnCopy_sameBytes (s : State) (c : Nat) (p : Nat × Nat) :
    State.SameBytes (s.burnCopy c p) s := by
  simp [State.burnCopy]

/-! ### The commands that can burn a fuse -/

section Commands

variable (s : State)

/-- What a reset interrupts burns at most the bit of the pulse in progress (R209). -/
theorem State.interrupt_fusesBurn (hard : Bool) : State.FusesBurn (s.interrupt hard) s := by
  unfold State.interrupt
  extract_lets k s1 s2
  have himage : State.SameFuses s1 s := by
    simp only [s1]
    repeat' split
    all_goals simp
  have hfuse : State.FusesBurn s2 s1 := by
    simp only [s2]
    split
    · exact State.FusesBurn.refl _
    · split
      · exact State.FusesBurn.refl _
      · split
        · exact State.burnCopy_fusesBurn ..
        · exact State.FusesBurn.refl _
  exact State.FusesBurn.trans (State.SameFuses.fusesBurn (by simp)) (hfuse.trans himage.fusesBurn)

/-- A start keeps the fuses that what it interrupts leaves (R151). -/
theorem State.freshStart_fusesBurn (hard : Bool) : State.FusesBurn (s.freshStart hard) s :=
  State.FusesBurn.trans (State.SameFuses.fusesBurn (by simp [State.freshStart])) (s.interrupt_fusesBurn hard)

theorem execRstNAssert_fusesBurn (ns : Nat) : s.Leads State.FusesBurn (execRstNAssert ns s) := by
  unfold execRstNAssert
  split
  · exact (State.leads_next ..).2 (State.FusesBurn.refl s)
  · split
    · simp [State.Leads]
    · exact (State.leads_next ..).2 (s.freshStart_fusesBurn true)

theorem execRestart_fusesBurn (bootsel : BitVec 2) : s.Leads State.FusesBurn (execRestart bootsel s) := by
  unfold execRestart
  rw [State.leads_next]
  split
  · exact State.FusesBurn.refl s
  · split
    · exact State.FusesBurn.refl s
    · exact State.FusesBurn.trans (State.SameFuses.fusesBurn (by simp)) (s.freshStart_fusesBurn false)

/-- FUSE_STEP burns the pulsed copy where it verifies, and no other fuse (R192, R193). -/
theorem execFuseStep_fusesBurn (verified : Bool) : s.Leads State.FusesBurn (execFuseStep verified s) := by
  unfold execFuseStep
  rw [State.leads_next]
  split
  · exact State.FusesBurn.refl s
  · split
    · exact State.FusesBurn.refl s
    · extract_lets s1 v s2 same n g
      have h1 : State.SameFuses s1 s := by simp [s1]
      have h2 : State.FusesBurn s2 s := by
        simp only [s2]
        split
        · exact (State.burnCopy_fusesBurn ..).trans h1.fusesBurn
        · exact h1.fusesBurn
      split
      · exact State.FusesBurn.refl s
      · split
        · exact State.SameFuses.fusesBurn (by simp)
        · split <;> exact State.FusesBurn.trans (State.SameFuses.fusesBurn (by simp)) h2

@[simp] theorem execFuseStep_sameBytes (verified : Bool) : s.Leads State.SameBytes (execFuseStep verified s) := by
  unfold execFuseStep
  dsimp only
  repeat' split
  all_goals simp

/-! ### All other commands -/

/-- The commands with which a pulse can reach a fuse: the step of a programming job, and what interrupts one. -/
def mayBurn : Instr → Bool
  | .fuseStep _ | .rstNAssert _ | .restart _ => true
  | _ => false

/-- The commands that store nothing and burn nothing; first those that have a lemma of their own. -/
theorem exec_sameStored (i : Instr) (hi : storesNothing i = true) (hb : mayBurn i = false) :
    s.Leads State.SameStored (exec i s) := by
  unfold exec
  cases i with
  | filtOutput | ttPulse | triggerReady | resultWordDelivery | captureTimeout | acellSat | dacPortWrite | dacHeldLatch
      | dacOutputResume | calRotateSwap | coldStep | coldSpareSwap | convCalTimeout | regionLoadStep | fabPortInputWord
      | transportReplySend | uartStartBit | xoffSend | uartAutobaud | linHeader | uartFabricWrite | uartFabricHandoff
      | rngHealthFail | rngRetestEnd | sinterScanDone | missedEdge | replyReady | privateDebug =>
    simp
  | fumaLogTake => simp [execFumaLogTake]
  | fevEdge => simp [execFevEdge]
  | amtxSwitchClose | cellPowerUp | cellSettled | comparatorEdge | shHold | shTrackReturn | cellDozePowerUp
      | dacCompliance =>
    simp [execAmtxSwitchClose, execCellPowerUp, execCellSettled, execComparatorEdge, execShHold, execShTrackReturn,
      execCellDozePowerUp, execDacCompliance]
  | wireClamp | clampRelease | clampSwitchReturn => simp [execWireClamp, execClampRelease, execClampSwitchReturn]
  | fabScrubFix | fabExtClockLost => simp [execFabScrubFix, execFabExtClockLost]
  | sramScrubStep | sramEccUncorr => simp [execSramScrubStep, execSramEccUncorr]
  | spiFrameStart | spiFirstByte | spiFrameEnd | gapTimeout =>
    simp [execSpiFrameStart, execSpiFirstByte, execSpiFrameEnd, execGapTimeout]
  | uartCharComplete | uartRxIdle | uartTxChar | uartTxContend | autobaudAbandon | linBreak | linResponseTimeout
      | linPublishResponse =>
    simp [execUartCharComplete, execUartRxIdle, execUartTxChar, execUartTxContend, execAutobaudAbandon, execLinBreak,
      execLinResponseTimeout, execLinPublishResponse]
  | rngTake | rngRecovered | drbgReseed | drbgGenerate =>
    simp [execRngTake, execRngRecovered, execDrbgReseed, execDrbgGenerate]
  | powerUp | referencesSettled | phase3Timeout => simp [execPowerUp, execReferencesSettled, execPhase3Timeout]
  | pwrPllUnlock | pwrPllRelock | pllRestart | pllRelock =>
    simp [execPwrPllUnlock, execPwrPllRelock, execPllRestart, execPllRelock]
  | tickPulse | tickEdge | guardExpiry => simp [execTickPulse, execTickEdge, execGuardExpiry]
  | tapReset | extest | idcode | samplePreload | clamp | highz | bypass =>
    simp [execTapReset, execExtest, execIdcode, execSamplePreload, execClamp, execHighz, execBypass]
  | fuseStep => exact absurd hb.symm Bool.false_ne_true
  | _ => exact absurd hi Bool.false_ne_true

/-- The commands that can store to a memory leave the fuses. -/
theorem exec_sameFuses_of_stores (i : Instr) (hi : storesNothing i = false) (hb : mayBurn i = false) :
    s.Leads State.SameFuses (exec i s) := by
  unfold exec
  cases i with
  | wakeFail | overbudget | filtEmit | seqStart | ringWrite | captureWord | dacUpdate | wireCheck | wireCheckFinish
      | calRotate | fabricStrobe | fabricStrobeDone | regionFreezeEnd | fabricSramRequest | dmaBurst | dmaBurstComplete
      | dmaStreamWord | geyserDrain | drainComplete | imageEraseDone | imageWriteDone | imageVerifyDone =>
    simp
  | wakeComplete | stateSkew => simp [execWakeComplete, execStateSkew]
  | fabConfigUpset => simp [execFabConfigUpset]
  | dmaAutoBurst | geyserBackgroundDrain | xspiPattern =>
    simp [execDmaAutoBurst, execGeyserBackgroundDrain, execXspiPattern]
  | markerBlockErase => simp [execMarkerBlockErase]
  | rstNRelease | sinterDelivery | pllLock | trimReread | slotAttempt | slotAttemptTimeout =>
    simp [execRstNRelease, execSinterDelivery, execPllLock, execTrimReread, execSlotAttempt, execSlotAttemptTimeout]
  | tickBoundary => simp [execTickBoundary]
  | ident | status | poll | echo | nop | unitPowerOn | unitPowerOff | unitReset | unitState | logRead | logClear
      | softReset =>
    simp [execIdent, execStatus, execPoll, execEcho, execNop, execUnitPowerOn, execUnitPowerOff, execUnitReset,
      execUnitState, execLogRead, execLogClear, execSoftReset]
  | planLoad | planSwap | regionLoad | regionSwap | coefLoad | coefSwap | convert | captureArm | captureRead | fuseRead
      | fuseProg | counterRead | counterAdvance | random =>
    simp [execPlanLoad, execPlanSwap, execRegionLoad, execRegionSwap, execCoefLoad, execCoefSwap, execConvert,
      execCaptureArm, execCaptureRead, execFuseRead, execFuseProg, execCounterRead, execCounterAdvance, execRandom]
  | imageOpen | imageWrite | imageVerify | imageActivate | imageInfo | debugUnlockChallenge | debugUnlockResponse =>
    simp [execImageOpen, execImageWrite, execImageVerify, execImageActivate, execImageInfo, execDebugUnlockChallenge,
      execDebugUnlockResponse]
  | get | set | setNow | setGroup | cancelPending | tickCountLoRead | tickCntClr | hostCntClr | sinterScan | ringRdWrite
      | dmaHeadWrite | rxPop | txPush | autobaudArm | secRelock | alertLatchClear | txContendClear =>
    simp [execGet, execSet, execSetNow, execSetGroup, execCancelPending, execTickCountLoRead, execTickCntClr,
      execHostCntClr, execSinterScan, execRingRdWrite, execDmaHeadWrite, execRxPop, execTxPush, execAutobaudArm,
      execSecRelock, execAlertLatchClear, execTxContendClear]
  | requestCommit => simp [execRequestCommit]
  | fuseStep | rstNAssert | restart => exact absurd hb.symm Bool.false_ne_true
  | _ => exact absurd hi.symm Bool.false_ne_true

/-- Every command but FUSE_STEP, RST_N_ASSERT and RESTART leaves the fuses. -/
theorem exec_sameFuses (i : Instr) (hb : mayBurn i = false) : s.Leads State.SameFuses (exec i s) := by
  cases hi : storesNothing i with
  | true => exact fun t ht => (exec_sameStored s i hi hb t ht).2
  | false => exact exec_sameFuses_of_stores s i hi hb

/-- No command returns a fuse to 0 (R158). -/
theorem exec_fusesBurn (i : Instr) : s.Leads State.FusesBurn (exec i s) := by
  cases hb : mayBurn i with
  | false => exact fun t ht => State.SameFuses.fusesBurn (exec_sameFuses s i hb t ht)
  | true =>
    cases i with
    | fuseStep verified => exact execFuseStep_fusesBurn s verified
    | rstNAssert ns => exact execRstNAssert_fusesBurn s ns
    | restart bootsel => exact execRestart_fusesBurn s bootsel
    | _ => exact absurd hb Bool.false_ne_true

/-- The commands that store nothing leave every byte: a pulse burns a fuse and writes no memory. -/
theorem exec_sameBytes (i : Instr) (hi : storesNothing i = true) : s.Leads State.SameBytes (exec i s) := by
  cases hb : mayBurn i with
  | false => exact fun t ht => (exec_sameStored s i hi hb t ht).1
  | true =>
    cases i with
    | fuseStep verified => exact execFuseStep_sameBytes s verified
    | rstNAssert | restart => exact absurd hi Bool.false_ne_true
    | _ => exact absurd hb Bool.false_ne_true

/-- The one command that stores nothing and may burn a fuse is FUSE_STEP. -/
theorem mayBurn_eq_false {i : Instr} (hi : storesNothing i = true) (hstep : ∀ b, i ≠ .fuseStep b) :
    mayBurn i = false := by
  cases hb : mayBurn i with
  | false => rfl
  | true =>
    cases i with
    | fuseStep b => exact absurd rfl (hstep b)
    | rstNAssert | restart => exact absurd hi Bool.false_ne_true
    | _ => exact absurd hb Bool.false_ne_true

/-- A step runs a command, or lets one cycle pass. -/
theorem step_fusesBurn : s.Leads State.FusesBurn (step s) := by
  unfold step
  split
  · exact (State.leads_next ..).2 (State.SameFuses.fusesBurn (by simp))
  · next c rest _ => exact exec_fusesBurn { s with pending := rest } c

end Commands

/-- Settles O59: no command returns a fuse to 0, and the passing of a cycle burns none. -/
theorem fusesOnlyBurn : Obligations.FusesOnlyBurn := by
  intro s t hs ht
  obtain ⟨h0, h1⟩ : wfMap 0 s.sint.copy0 = true ∧ wfMap 0 s.sint.copy1 = true := Bool.and_eq_true_iff.1 hs
  obtain ⟨hburn0, hburn1⟩ := step_fusesBurn s t ht
  obtain ⟨hwf0, hbits0⟩ := hburn0 h0
  obtain ⟨hwf1, hbits1⟩ := hburn1 h1
  refine ⟨Bool.and_eq_true_iff.2 ⟨hwf0, hwf1⟩, fun copy r b hb => ?_⟩
  cases copy with
  | false => exact hbits0 r b hb
  | true => exact hbits1 r b hb

/-- Settles O60: each command of the list stores nothing, and FUSE_STEP alone of them can burn a fuse. -/
theorem memoryFrame : Obligations.MemoryFrame := by
  intro s t i hi ht
  obtain ⟨hsram, hpsram, hflash⟩ := exec_sameBytes s i hi t ht
  refine ⟨fun a => ⟨?_, ?_, ?_⟩, fun hstep => exec_sameFuses s i (mayBurn_eq_false hi hstep) t ht⟩
  · rw [State.sramByte, hsram, State.sramByte]
  · rw [State.psramByte, hpsram, State.psramByte]
  · rw [State.flashByte, hflash, State.flashByte]

end Sys2Proof.Machine
end

section
/-! PROOFS. A packet at its commit point: the checks of Table CMD-4 in order (R226 to R231, R242, R265). -/

namespace Sys2Proof.Machine

/-! ### Parameter words -/

theorem wordsOfBytes_length : ∀ bs : List Byte, (wordsOfBytes bs).length = bs.length / 4
  | a :: b :: c :: d :: r => by
    have ih := wordsOfBytes_length r
    simp only [wordsOfBytes, List.length_cons]
    omega
  | [] | [_] | [_, _] | [_, _, _] => by simp [wordsOfBytes]

/-- A framed packet has as many parameter words as its LEN says (R220). -/
theorem packetWords_length {bs : List Byte} (hf : packetFramed bs = true) :
    (packetWords bs).length = (bs.getD 3 0).toNat := by
  have hlen : bs.length = 8 + 4 * (bs.getD 3 0).toNat := of_decide_eq_true (Bool.and_eq_true_iff.1 hf).2
  rw [packetWords, wordsOfBytes_length, List.length_drop, List.length_take]
  omega

/-! ### Checks 1 and 2 -/

section Checks

variable {s : State} {tr : Transport} {dt : Nat} {bs : List Byte}

/-- A transport that does not hear a request only lets the time pass (R242, R265). -/
theorem execRequestCommit_unheard (hh : (s.toCommit (trNum tr) dt).hears (trNum tr) = false) :
    exec (.requestCommit tr dt bs) s = .next (s.toCommit (trNum tr) dt) := by
  simp [exec, execRequestCommit, hh]

/-- A packet that passes checks 1 and 2 is a request of its opcode with its SEQ and its parameter words. -/
theorem execRequestCommit_serve (hf : packetFramed bs = true) (hc : packetCrcOk bs = true) :
    exec (.requestCommit tr dt bs) s = .next (s.serve { tr := tr, seq := bs.getD 1 0, dt := dt } (bs.getD 2 0).toNat
      (packetWords bs) (runOpcode (trNum tr) (bs.getD 2 0).toNat (packetWords bs))) := by
  simp [exec, execRequestCommit, State.serve, hf, hc]

variable (hh : (s.toCommit (trNum tr) dt).hears (trNum tr) = true)
  (hg : (s.toCommit (trNum tr) dt).garbled (trNum tr) = false)
include hh hg

theorem execRequestCommit_misframed (hf : packetFramed bs = false) :
    exec (.requestCommit tr dt bs) s =
      .next (((s.toCommit (trNum tr) dt).taken (trNum tr)).frameBad (trNum tr) (bs.getD 1 0)) := by
  simp [exec, execRequestCommit, hh, hg, hf]

theorem execRequestCommit_crcBad (hf : packetFramed bs = true) (hc : packetCrcOk bs = false) :
    exec (.requestCommit tr dt bs) s =
      .next ((((s.toCommit (trNum tr) dt).taken (trNum tr)).transportError (trNum tr) 2 (bs.getD 1 0)).errReply
        (trNum tr) { seq := bs.getD 1 0, status := stCrcBad, op := 0, words := [] }) := by
  simp [exec, execRequestCommit, hh, hg, hf, hc]

theorem execRequestCommit_intact (hf : packetFramed bs = true) (hc : packetCrcOk bs = true) :
    exec (.requestCommit tr dt bs) s =
      .next (((s.toCommit (trNum tr) dt).taken (trNum tr)).commitRequest (trNum tr) (bs.getD 1 0) (bs.getD 2 0).toNat
        (packetWords bs) (runOpcode (trNum tr) (bs.getD 2 0).toNat (packetWords bs))) := by
  simp [exec, execRequestCommit, hh, hg, hf, hc]

end Checks

/-! ### Checks 3 and 4 -/

section Sequence

variable {z : State} {n op : Nat} {seq : Byte} {ws : List Word} {run : State → Answer}

/-- Check 3: while a request executes, another is discarded and counted (R229). -/
theorem State.commitRequest_overrun (he : (z.trOf n).exec.isSome = true) :
    z.commitRequest n seq op ws run = z.transportError n 5 seq := if_pos he

/-- Check 4: the SEQ of the last executed request earns SEQ_DUP (R231). -/
theorem State.commitRequest_repeated (he : (z.trOf n).exec = none) (hl : (z.trOf n).last = some seq) :
    z.commitRequest n seq op ws run = (z.transportError n 4 seq).errReply n (dupReply seq (z.trOf n).stored) := by
  simp [State.commitRequest, he, hl]

end Sequence

/-- A ready NOP is DONE, whatever its parameter words (R282). -/
theorem execRequestCommit_nop {s : State} {tr : Transport} {dt : Nat} {bs : List Byte} (hf : packetFramed bs = true)
    (hc : packetCrcOk bs = true) (hop : bs.getD 2 0 = 0x7F)
    (hr : s.ready { tr := tr, seq := bs.getD 1 0, dt := dt } = true) (hrel : s.released = true) :
    exec (.requestCommit tr dt bs) s =
      .next ((s.atCommit { tr := tr, seq := bs.getD 1 0, dt := dt }).replying { tr := tr, seq := bs.getD 1 0, dt := dt }
        0x7F stDone []) := by
  have hlen : (packetWords bs).length ≤ 255 := by
    rw [packetWords_length hf]
    exact Nat.le_of_lt_succ (bs.getD 3 0).isLt
  have hcode : (bs.getD 2 0).toNat = 0x7F := by rw [hop]; rfl
  rw [execRequestCommit_serve hf hc, hcode,
    State.serve_run hr hrel (by decide) (by decide) (l := (0, 255)) rfl (Nat.zero_le _) hlen]
  rfl

/-- Settles O19: each check of Table CMD-4 decides where those before it pass. -/
theorem packetsAreCheckedInOrder : Obligations.PacketsAreCheckedInOrder := by
  intro s tr dt bs n h c z
  refine ⟨execRequestCommit_unheard, fun hh hg => ⟨execRequestCommit_misframed hh hg, fun hf => ?_⟩⟩
  refine ⟨?nop, ?crc, ?overrun, ?repeated⟩
  case nop => exact fun hc hop hr hrel => execRequestCommit_nop hf hc hop hr hrel
  case crc => exact fun hc => execRequestCommit_crcBad hh hg hf hc
  case overrun =>
    exact fun hc he => (execRequestCommit_intact hh hg hf hc).trans (congrArg _ (State.commitRequest_overrun he))
  case repeated =>
    exact fun hc he hl => (execRequestCommit_intact hh hg hf hc).trans (congrArg _ (State.commitRequest_repeated he hl))

end Sys2Proof.Machine
end

section
/-! PROOFS. Requests that the phase or a unit's state refuses (R228, R272, R274, Tables CMD-4 and OPS-2). -/

namespace Sys2Proof.Machine

/-! ### Checks 5 and 6 -/

/-- A commit point is no event of start-up. -/
@[simp] theorem State.atCommit_boot (s : State) (h : Hdr) : (s.atCommit h).boot = s.boot := by
  simp only [State.atCommit, State.taken, State.toCommit]
  split <;> simp

/-- In phases 2 and 3 no opcode is answered but IDENT, STATUS and NOP (Table BOOT-3). -/
theorem State.answers_startup {s : State} (hp : s.boot.phase = .phase2 ∨ s.boot.phase = .phase3) {op : Nat}
    (hop : ¬(op = 0x01 ∨ op = 0x02 ∨ op = 0x7F)) : s.answers op = false := by
  have hrel : s.released = false := by rcases hp with hp | hp <;> simp [State.released, hp]
  have hlim : (s.boot.phase == .limited) = false := by rcases hp with hp | hp <;> simp [hp]
  simp [State.answers, hop, hrel, hlim]

section Refused

variable {s : State} {h : Hdr} (hr : s.ready h = true) {op : Nat} {ws : List Word} {run : State → Answer}
include hr

/-- A ready request whose answer is a refusal changes nothing but its transport's SEQ and reply. -/
theorem State.serve_refused {status : Nat} {rs : List Word} (hd : status ≠ stDone) (hq : status ≠ stQueued)
    (ha : (s.atCommit h).answer op ws run = (s.atCommit h, status, rs)) :
    s.serve h op ws run = (s.atCommit h).replying h op status rs := by
  have hk : keepsWords op status = false := by simp [keepsWords, hd, hq]
  rw [State.serve_ready hr]
  simp [ha, hk]

/-- Check 5: the phase does not allow the opcode. -/
theorem State.serve_notNow (ha : (s.atCommit h).answers op = false) :
    s.serve h op ws run = (s.atCommit h).replying h op stNotNow [] :=
  State.serve_refused hr (by decide) (by decide) (by simp [State.answer, ha])

/-- Check 6: the opcode is not defined. -/
theorem State.serve_opcodeUnknown (ha : (s.atCommit h).answers op = true) (hl : opcodeLen op = none) :
    s.serve h op ws run = (s.atCommit h).replying h op stOpcodeUnknown [] :=
  State.serve_refused hr (by decide) (by decide) (by simp [State.answer, ha, hl])

end Refused

/-! ### Unit states -/

/-- The word of UNIT_POWER off: the unit number, and no stray bit. -/
theorem powerWord_off {u : Nat} (hu : u < 256) : powerWord (BitVec.ofNat 8 u) false = [Word.of u] ∧
    stray (Word.of u) 0x1FF = false := by
  have hw : (Word.of u).toNat = u := Word.toNat_of_lt (by omega)
  have hmask : ∀ i < 8, Nat.testBit 0x1FF i = true := by decide
  refine ⟨by simp [powerWord, Nat.mod_eq_of_lt hu], stray_eq_false fun i _ hbit => hmask i ?_⟩
  rw [← BitVec.testBit_toNat, hw] at hbit
  exact bitIndex_lt hu hbit

section Units

variable {s : State} {u : Nat} (hu : u < 256) (hunit : isUnit u = true) (hfix : fixedUnit u = false)
include hu hunit hfix

theorem State.doReset_draining (hst : (s.unit u).st = .draining) :
    State.doReset [Word.of u] s = (s, stUnitGone, [0]) := by
  obtain ⟨hbits, hstray⟩ := unitStateWord_fields hu
  simp [State.doReset, State.unlessDraining, hbits, hstray, hunit, hfix, hst]

theorem State.doReset_off (hst : (s.unit u).st = .off) (hsk : (s.unit u).skewed = false) :
    State.doReset [Word.of u] s = (s, stUnitState, [0]) := by
  obtain ⟨hbits, hstray⟩ := unitStateWord_fields hu
  simp [State.doReset, hbits, hstray, hunit, hfix, hst, hsk]

theorem State.doPower_draining (hst : (s.unit u).st = .draining) :
    State.doPower (powerWord (BitVec.ofNat 8 u) false) s = (s, stUnitGone, [0]) := by
  obtain ⟨hword, hstray⟩ := powerWord_off hu
  obtain ⟨hbits, -⟩ := unitStateWord_fields hu
  simp [State.doPower, State.unlessDraining, hword, hbits, hstray, hunit, hfix, hst]

end Units

/-- A ready request to a unit, of a released device, of one word, whose unit's state refuses it. -/
theorem State.serve_unitRefused {s : State} {h : Hdr} (hr : s.ready h = true) (hrel : s.released = true) {op : Nat}
    (hl : opcodeLen op = some (1, 1)) {ws : List Word} (hws : ws.length = 1) {run : State → Answer} {status : Nat}
    {rs : List Word} (hd : status ≠ stDone) (hq : status ≠ stQueued)
    (hrun : run (s.atCommit h) = (s.atCommit h, status, rs)) :
    s.serve h op ws run = (s.atCommit h).replying h op status rs := by
  have ha : (s.atCommit h).answers op = true := State.answers_released (by simpa using hrel) op
  exact State.serve_refused hr hd hq ((State.answer_run ha hl hws.ge hws.le).trans hrun)

/-- Settles O17: the answer of each request is a refusal, by its phase, its opcode or its unit's state. -/
theorem phaseAndUnitStateRefuse : Obligations.PhaseAndUnitStateRefuse := by
  intro s h ws hr k
  refine ⟨fun hp => ?phase, ?opcode, fun hrel u hu hunit hfix => ?unit⟩
  case phase =>
    have hk : k.boot.phase = .phase2 ∨ k.boot.phase = .phase3 := by simpa [k] using hp
    have refused : ∀ op ws run, ¬(op = 0x01 ∨ op = 0x02 ∨ op = 0x7F) →
        s.serve h op ws run = k.replying h op stNotNow [] :=
      fun op ws run hop => State.serve_notNow hr (State.answers_startup hk hop)
    exact ⟨congrArg _ (refused 0x03 ws _ (by decide)), congrArg _ (refused 0x11 ws _ (by decide)),
      congrArg _ (refused 0x41 ws _ (by decide)), congrArg _ (refused 0x7E ws _ (by decide))⟩
  case opcode =>
    rintro tr dt bs rfl hf hc hrel hl
    have ha := State.answers_released (s := k) (by simpa [k] using hrel) (bs.getD 2 0).toNat
    exact (execRequestCommit_serve hf hc).trans (congrArg _ (State.serve_opcodeUnknown hr ha hl))
  case unit =>
    refine ⟨fun hst => ⟨?reset, ?power⟩, fun hst hsk => ?off⟩
    case reset =>
      exact congrArg _ (State.serve_unitRefused hr hrel rfl rfl (by decide) (by decide)
        (State.doReset_draining hu hunit hfix hst))
    case power =>
      exact congrArg _ (State.serve_unitRefused hr hrel rfl rfl (by decide) (by decide)
        (State.doPower_draining hu hunit hfix hst))
    case off =>
      exact congrArg _ (State.serve_unitRefused hr hrel rfl rfl (by decide) (by decide)
        (State.doReset_off hu hunit hfix hst hsk))

end Sys2Proof.Machine
end

section
/-! PROOFS. The transports: SPI frames and their bits, replies that become ready or are sent, and a gap inside a request
(R227, R231, R240 to R248, R254, R258, R312). -/

namespace Sys2Proof.Machine

/-! ### The first byte of an SPI frame (R241, R243) -/

/-- The kind of a frame by its first byte. -/
def frameKindOf (b : Byte) : FrameKind := if b = 0xC5 then .request else if b = 0x00 ∨ b = 0xFF then .read else .bad

/-- The SPI port once the first byte of a frame is in. -/
def State.withKind (s : State) (k : FrameKind) (hsck : Nat) : State :=
  { s with spi := { s.spi with kind := some k, hsck := hsck } }

theorem execSpiFirstByte_short {s : State} {bits : List Bool} (hl : bits.length < 8) (hsck : Nat) :
    exec (.spiFirstByte bits hsck) s = .next s := by
  simp [exec, execSpiFirstByte, hl]

section FirstByte

variable {s : State} {bits : List Bool} (ho : s.spi.open_ = true) (hk : s.spi.kind = none) (hl : 8 ≤ bits.length)
include ho hk hl

/-- The first whole byte of an open frame decides its kind, and a bad one earns FRAME_BAD where the port is served. -/
theorem execSpiFirstByte_whole (hsck : Nat) :
    let z := s.withKind (frameKindOf (byteOfBits bits)) hsck
    exec (.spiFirstByte bits hsck) s = .next (if frameKindOf (byteOfBits bits) = .bad ∧ z.served 0 then
      z.frameBad 0 (if bits.length < 16 then 0 else byteOfBits (bits.drop 8)) else z) := by
  have hdecides : ¬(!s.spi.open_ || s.spi.kind.isSome || decide (bits.length < 8)) = true := by simp [ho, hk, hl]
  exact congrArg _ (if_neg hdecides)

/-- A first byte that is good decides the kind and nothing else. -/
theorem execSpiFirstByte_good {k : FrameKind} (hb : frameKindOf (byteOfBits bits) = k) (hgood : k ≠ .bad)
    (hsck : Nat) : exec (.spiFirstByte bits hsck) s = .next (s.withKind k hsck) := by
  rw [execSpiFirstByte_whole ho hk hl, hb, if_neg fun h => hgood h.1]

theorem execSpiFirstByte_bad (hb : frameKindOf (byteOfBits bits) = .bad) (hs : s.served 0 = true) (hsck : Nat) :
    exec (.spiFirstByte bits hsck) s = .next ((s.withKind .bad hsck).frameBad 0
      (if bits.length < 16 then 0 else byteOfBits (bits.drop 8))) := by
  have hserved : (s.withKind .bad hsck).served 0 = true := hs
  rw [execSpiFirstByte_whole ho hk hl, hb, if_pos ⟨rfl, hserved⟩]

end FirstByte

/-! ### The end of an SPI frame (R227, R242, R245) -/

/-- A transport error is no event of the SPI port's frame. -/
@[simp] theorem State.transportError_spi (s : State) (n kind : Nat) (seq : Byte) :
    (s.transportError n kind seq).spi = s.spi := rfl

section FrameEnd

variable {s : State} (ho : s.spi.open_ = true)
include ho

/-- A request frame that ends before its commit point is counted as an abort. -/
theorem execSpiFrameEnd_abort (hk : s.spi.kind = some .request) (hc : s.spi.committed = false)
    (hs : s.served 0 = true) (he : s.spi.errAt = false) (seq : Byte) : exec (.spiFrameEnd seq) s =
    .next { s.transportError 0 1 seq with
      spi := { s.spi with open_ := false, kind := none, committed := false, errAt := false } } := by
  simp [exec, execSpiFrameEnd, ho, hk, hc, hs, he]

/-- A frame that is no read frame takes the error reply out of the buffer. -/
theorem execSpiFrameEnd_errTaken
    (hk : (s.spi.kind = some .request ∧ s.spi.committed = true) ∨ s.spi.kind = some .bad) (he : s.spi.errAt = true)
    (seq : Byte) : exec (.spiFrameEnd seq) s =
    .next { s.setTr 0 { s.trOf 0 with up := none } with
      spi := { s.spi with open_ := false, kind := none, committed := false, errAt := false } } := by
  rcases hk with ⟨hk, hc⟩ | hk
  · simp [exec, execSpiFrameEnd, ho, hk, hc, he]
  · simp [exec, execSpiFrameEnd, ho, hk, he]

theorem execSpiFrameEnd_read (hk : s.spi.kind = none ∨ s.spi.kind = some .read) (seq : Byte) :
    exec (.spiFrameEnd seq) s =
      .next { s with spi := { s.spi with open_ := false, kind := none, committed := false, errAt := false } } := by
  rcases hk with hk | hk <;> simp [exec, execSpiFrameEnd, ho, hk]

end FrameEnd

/-! ### HSDO (R240, R246) -/

/-- In an open frame, bit `j` of byte `i`, most significant bit first. -/
theorem SpiSt.level_open {p : SpiSt} (ho : p.open_ = true) {j : Nat} (hj : j < 8) (i : Nat) :
    p.level (8 * i + j) = some ((p.byte i).getLsbD (7 - j)) := by
  have hdiv : (8 * i + j) / 8 = i := by omega
  have hmod : (8 * i + j) % 8 = j := by omega
  rw [SpiSt.level, if_pos ho, hdiv, hmod]

theorem SpiSt.byte_reply {p : SpiSt} {r : Reply} (hr : p.hsdo = some r) {i : Nat} {b : Byte}
    (hb : r.bytes[i]? = some b) : p.byte i = b := by
  simp [SpiSt.byte, hr, hb]

theorem SpiSt.byte_empty {p : SpiSt} (hr : p.hsdo = none) (i : Nat) : p.byte i = 0xFF := by
  simp [SpiSt.byte, hr]

/-! ### Replies that become ready (R230, R231, R245, R248, R258, R312) -/

section Ready

variable {s : State}

/-- A reply whose words stay as they were given is final. -/
theorem State.finalReply_same {n : Nat} {r : Reply} (hk : keepsWords r.op r.status = false) :
    s.finalReply n r = (s, r) := by
  simp only [keepsWords, Bool.or_eq_false_iff, Bool.and_eq_false_iff, beq_eq_false_iff_ne] at hk
  obtain ⟨hrandom, hlog⟩ := hk
  unfold State.finalReply
  rw [if_neg (not_and_or.2 hrandom), if_neg fun h => not_and_or.2 hlog ⟨h.1, h.2.1⟩]

/-- A RANDOM that is short of bytes goes on as a job, and its reply names the job (R312). -/
theorem State.finalReply_random {n : Nat} {r : Reply} (hop : r.op = 0x48) (hst : r.status = stQueued)
    (hu : (s.unit 0x05).st = .ready ∨ (s.unit 0x05).st = .running) (hl : s.jobs.running.length < 8)
    (hc : (s.jobs.running.any fun j => match j.kind with
      | .random .. => true
      | _ => false) = false) :
    let j := s.startJob 0x48 (.random ((s.trOf n).ask.getD 0 0).toNat (s.trOf n).got)
    s.finalReply n r = (j.1, { r with words := [Word.of (j.2 + 0x48 * 2 ^ 8)] }) := by
  have hq : s.queueRandom ((s.trOf n).ask.getD 0 0).toNat (s.trOf n).got =
      s.queued 0x48 (.random ((s.trOf n).ask.getD 0 0).toNat (s.trOf n).got) :=
    (State.readyRun_of s hu _ _).trans (State.enqueue_of s hl hc)
  simp only [State.finalReply, hop, hst, hq]
  rfl

/-- On the SPI port HIRQ_N is pulled low; a serial port has the reply to send. -/
theorem State.announce_trNum (tr : Transport) (r : Reply) : s.announce (trNum tr) r =
    if tr = .spi then { s with spi := { s.spi with hirqLow := true } }
    else s.setTr (trNum tr) { s.trOf (trNum tr) with toSend := (s.trOf (trNum tr)).toSend ++ [r] } := by
  cases tr <;> rfl

theorem execReplyReady_exec {tr : Transport} {r : Reply} (he : (s.trOf (trNum tr)).exec = some r) :
    let f := s.finalReply (trNum tr) r
    exec (.replyReady ⟨tr, false⟩) s = .next ((f.1.setTr (trNum tr)
      { f.1.trOf (trNum tr) with stored := some f.2, exec := none, ask := [], got := [] }).announce (trNum tr) f.2) := by
  simp [exec, execReplyReady, he]

theorem execReplyReady_error {e : Reply} {rest : List Reply} (he : (s.trOf 0).errs = e :: rest) :
    exec (.replyReady ⟨.spi, true⟩) s = .next { s.setTr 0 { s.trOf 0 with errs := rest, up := some e } with
      spi := { s.spi with errAt := false, hirqLow := true } } := by
  simp [exec, execReplyReady, trNum, State.errorReady, State.announce, he]

end Ready

/-! ### Serial transports (R254, R258) -/

section Serial

variable {s : State} {u : Fin 4}

theorem execTransportReplySend_next {r : Reply} {rest : List Reply} (ht : (s.trOf (u.val + 1)).toSend = r :: rest)
    (ho : (s.trOf (u.val + 1)).out = []) (ha : s.isActive (0x30 + u.val) = true) :
    exec (.transportReplySend u) s =
      .next (s.setTr (u.val + 1) { s.trOf (u.val + 1) with toSend := rest, out := r.bytes }) := by
  simp [exec, execTransportReplySend, ht, ho, ha]

theorem State.trOf_reach (t n : Nat) : (s.reach t).trOf n = s.trOf n := by rw [State.trOf, State.reach_tr, State.trOf]

theorem execGapTimeout_partial (hp : rxPartial (s.trOf (u.val + 1)).rx = true) (hi : (s.uartOf u.val).inChar = false) :
    let z := s.reach (s.gapEnd u.val)
    exec (.gapTimeout u) s = .next ((z.setTr (u.val + 1) { z.trOf (u.val + 1) with rx := [] }).transportError
      (u.val + 1) 6 ((s.trOf (u.val + 1)).rx.getD 1 0)) := by
  simp [exec, execGapTimeout, State.discardRx, State.trOf_reach, rxSeq, hp, hi]

end Serial

/-- Settles O18: each command of the transports does what its frame, its reply or its gap calls for. -/
theorem transportCommands : Obligations.TransportCommands := by
  refine ⟨fun s => rfl, ?firstByte, ?frameEnd, ?hsdo, fun s => ⟨?ready, ?random, ?error, ?send, ?gap⟩⟩
  case firstByte =>
    intro s bits hsck ho hk
    refine ⟨fun hl => execSpiFirstByte_short hl hsck, fun hl => ⟨?_, ?_, ?_⟩⟩
    · intro hC5
      exact execSpiFirstByte_good ho hk hl (if_pos hC5) (by decide) hsck
    · intro hb
      have hread : frameKindOf (byteOfBits bits) = .read := by rcases hb with hb | hb <;> simp [frameKindOf, hb]
      exact execSpiFirstByte_good ho hk hl hread (by decide) hsck
    · intro hC5 h00 hFF hs
      have hbad : frameKindOf (byteOfBits bits) = .bad := (if_neg hC5).trans (if_neg (not_or.2 ⟨h00, hFF⟩))
      exact execSpiFirstByte_bad ho hk hl hbad hs hsck
  case frameEnd =>
    intro s seq ho
    refine ⟨fun hk hc hs he => execSpiFrameEnd_abort ho hk hc hs he seq, fun hk he => ?_, fun hk => ?_⟩
    · exact execSpiFrameEnd_errTaken ho hk he seq
    · exact execSpiFrameEnd_read ho hk seq
  case hsdo =>
    intro p i j ho hj
    refine ⟨fun r b hr hb => ?_, fun hr => ?_⟩
    · rw [SpiSt.level_open ho hj, SpiSt.byte_reply hr hb]
    · have hones : ∀ k < 8, (0xFF : Byte).getLsbD k = true := by decide
      rw [SpiSt.level_open ho hj, SpiSt.byte_empty hr, hones _ (by omega)]
  case ready =>
    intro tr r he hk
    rw [execReplyReady_exec he, State.finalReply_same hk, State.announce_trNum]
  case random =>
    intro tr r he hop hst hu hl hc
    rw [execReplyReady_exec he, State.finalReply_random hop hst hu hl hc]
  case error => exact fun e rest he => execReplyReady_error he
  case send => exact fun u r rest ht ho ha => execTransportReplySend_next ht ho ha
  case gap => exact fun u hp hi => execGapTimeout_partial hp hi

end Sys2Proof.Machine
end

section
/-! PROOFS. The bounds of the log, of its buffer and of the jobs (R278, R279, R356, R360, R362). One lemma for each operation
says that it keeps them (`KeepsBounds`); an operation that another one alone uses is unfolded there. First the relations, and
the operations that all parts share: the log takes what enters it, and a job starts where one is free. -/

namespace Sys2Proof.Machine

/-! ### States within the same bounds -/

/-- The log and its buffer are within their bounds (R356, R362). -/
def FumaSt.fits (f : FumaSt) : Prop := f.log.length ≤ 512 ∧ f.buf.length ≤ 32

/-- The running jobs and the outcomes are within their bounds (R278, R279). -/
def JobSt.fits (j : JobSt) : Prop := j.running.length ≤ 8 ∧ j.ended.length ≤ 16

/-- The log `g` is within its bounds if `f` is. -/
def LogKept (g f : FumaSt) : Prop := f.fits → g.fits

/-- The jobs `k` are within their bounds if `j` are. -/
def JobsKept (k j : JobSt) : Prop := j.fits → k.fits

/-- `LogKept` as the side of a rule of `KeepsBounds` that simp leaves alone. -/
def LogEased (g f : FumaSt) : Prop := LogKept g f

/-- `JobsKept` as the side of a rule of `KeepsBounds` that simp leaves alone. -/
def JobsEased (k j : JobSt) : Prop := JobsKept k j

/-- `t` is within every bound that `s` is within. -/
@[reducible, simp] def State.BoundsKept (t s : State) : Prop := LogKept t.fuma s.fuma ∧ JobsKept t.jobs s.jobs

/-- The same as rules for simp: whatever bounds `s` keeps, `t` keeps, so that a goal about `t` becomes one about `s`. A bound
can hold of `t` where it does not hold of `s`, and then the second side holds. -/
@[reducible, simp] def State.KeepsBounds (t s : State) : Prop :=
  (∀ f, LogKept t.fuma f ↔ LogKept s.fuma f ∨ LogEased t.fuma f) ∧
  (∀ j, JobsKept t.jobs j ↔ JobsKept s.jobs j ∨ JobsEased t.jobs j)

theorem LogKept.trans {h g f : FumaSt} (hg : LogKept h g) (hf : LogKept g f) : LogKept h f := fun x => hg (hf x)
theorem JobsKept.trans {l k j : JobSt} (hk : JobsKept l k) (hj : JobsKept k j) : JobsKept l j := fun x => hk (hj x)
@[simp] theorem LogKept.refl (f : FumaSt) : LogKept f f := id
@[simp] theorem JobsKept.refl (j : JobSt) : JobsKept j j := id
@[simp] theorem logKept_ite (c : Prop) [Decidable c] (g h f : FumaSt) :
    LogKept (if c then g else h) f ↔ if c then LogKept g f else LogKept h f := by split <;> rfl
@[simp] theorem jobsKept_ite (c : Prop) [Decidable c] (k l j : JobSt) :
    JobsKept (if c then k else l) j ↔ if c then JobsKept k j else JobsKept l j := by split <;> rfl

/-- The bounds do not speak of the numbers of jobs and of commit points. -/
@[simp] theorem jobsKept_numbers (k j : JobSt) (n l : Nat) (c : Option (Nat × Nat)) :
    JobsKept { running := k.running, ended := k.ended, next := n, latest := l, commit := c } j ↔ JobsKept k j := .rfl

theorem State.KeepsBounds.of {t s : State} (h : State.BoundsKept t s) : State.KeepsBounds t s :=
  ⟨fun _ => ⟨.inr, fun h' => h'.elim h.1.trans id⟩, fun _ => ⟨.inr, fun h' => h'.elim h.2.trans id⟩⟩

theorem State.BoundsKept.trans {u t s : State} (h : State.BoundsKept u t) (h' : State.BoundsKept t s) :
    State.BoundsKept u s :=
  ⟨h.1.trans h'.1, h.2.trans h'.2⟩

theorem State.BoundsKept.refl (s : State) : State.BoundsKept s s := ⟨LogKept.refl _, JobsKept.refl _⟩

@[simp] theorem State.ite_books (c : Prop) [Decidable c] (a b : State) :
    (if c then a else b).fuma = (if c then a.fuma else b.fuma) ∧
    (if c then a else b).jobs = (if c then a.jobs else b.jobs) := by
  split <;> simp

section Repeated

variable {α : Type} {f : State → α → State}

@[simp] theorem State.foldl_keepsBounds (hf : ∀ z a, State.BoundsKept (f z a) z) (l : List α) (s : State) :
    State.KeepsBounds (l.foldl f s) s :=
  .of (State.each_keeps (P := fun z => State.BoundsKept z s) (fun z a hz => (hf z a).trans hz) l s (.refl s))

@[simp] theorem State.each_keepsBounds (hf : ∀ z a, State.BoundsKept (f z a) z) (l : List α) (s : State) :
    State.KeepsBounds (s.each l f) s := State.foldl_keepsBounds hf l s

@[simp] theorem State.writeBytes_keepsBounds {g : State → Nat → Byte → State}
    (hg : ∀ z a x, State.BoundsKept (g z a x) z) (s : State) (a : Nat) (bs : List Byte) :
    State.KeepsBounds (s.writeBytes g a bs) s :=
  .of (State.writeBytes_keeps (P := fun z => State.BoundsKept z s) (fun z a x hz => (hg z a x).trans hz) bs s a
    (.refl s))

end Repeated

variable (s : State)

/-! ### The log -/

theorem State.enter_boundsKept (e : Event) : State.BoundsKept (s.enter e) s := by
  refine ⟨fun ⟨hl, hb⟩ => ?_, by rw [State.enter_eq]; exact .refl _⟩
  unfold State.enter
  dsimp only
  split
  · exact ⟨hl, ‹_›⟩
  · exact ⟨hl, by simp⟩
@[simp] theorem State.enter_keepsBounds (e : Event) : State.KeepsBounds (s.enter e) s := .of (s.enter_boundsKept e)
@[simp] theorem State.emit_keepsBounds (u : Nat) (ev : Nat × Nat) (d : Nat) : State.KeepsBounds (s.emit u ev d) s :=
  .of (s.enter_boundsKept _)

theorem State.takeEvent_fuma {e : Event} {t : List Event} (h : s.fuma.buf = e :: t) : s.takeEvent.fuma =
    { log := (if s.fuma.log.length = 512 then s.fuma.log.drop 1 else s.fuma.log) ++ [e], buf := t } := by
  simp only [State.takeEvent, h]
  by_cases hl : s.fuma.log.length = 512 <;> simp [hl]

theorem State.takeEvent_boundsKept : State.BoundsKept s.takeEvent s := by
  refine ⟨fun ⟨hl, hb⟩ => ?_, by rw [State.takeEvent_eq]; exact .refl _⟩
  rcases hbuf : s.fuma.buf with _ | ⟨e, t⟩
  · simp only [State.takeEvent, hbuf]
    exact ⟨hl, hb⟩
  · rw [State.takeEvent_fuma s hbuf]
    rw [hbuf, List.length_cons] at hb
    refine ⟨?_, by simp only; omega⟩
    simp only [List.length_append, List.length_cons, List.length_nil]
    split
    · simp only [List.length_drop]; omega
    · omega

theorem State.takeEvents_boundsKept : ∀ (n : Nat) (s : State), State.BoundsKept (s.takeEvents n) s
  | 0, s => .refl s
  | n + 1, s => (State.takeEvents_boundsKept n s.takeEvent).trans s.takeEvent_boundsKept

theorem State.elapse_boundsKept (n : Nat) : State.BoundsKept (s.elapse n) s := by
  unfold State.elapse
  refine (State.takeEvents_boundsKept _ _).trans ?_
  rw [State.fabricRun_eq]
  exact .refl s
@[simp] theorem State.elapse_keepsBounds (n : Nat) : State.KeepsBounds (s.elapse n) s := .of (s.elapse_boundsKept n)
@[simp] theorem State.reach_keepsBounds (t : Nat) : State.KeepsBounds (s.reach t) s := .of (s.elapse_boundsKept _)

/-! ### Jobs -/

theorem State.endJob_boundsKept (num status : Nat) (words : List Word) :
    State.BoundsKept (s.endJob num status words) s := by
  unfold State.endJob
  split
  · exact .refl s
  · refine ⟨.refl _, fun ⟨hr, he⟩ => ⟨(List.length_filter_le ..).trans hr, ?_⟩⟩
    exact (List.length_take_le ..)
@[simp] theorem State.endJob_keepsBounds (num status : Nat) (words : List Word) :
    State.KeepsBounds (s.endJob num status words) s :=
  .of (s.endJob_boundsKept ..)
theorem State.setJob_boundsKept (num : Nat) (kind : JobKind) : State.BoundsKept (s.setJob num kind) s :=
  ⟨.refl _, fun ⟨hr, he⟩ => ⟨(s.setJob_length num kind).trans_le hr, he⟩⟩
@[simp] theorem State.setJob_keepsBounds (num : Nat) (kind : JobKind) : State.KeepsBounds (s.setJob num kind) s :=
  .of (s.setJob_boundsKept ..)
theorem State.startJob_boundsKept (hl : s.jobs.running.length < 8) (op : Nat) (kind : JobKind) :
    State.BoundsKept (s.startJob op kind).1 s := by
  refine ⟨.refl _, fun ⟨hr, he⟩ => ⟨?_, (List.length_filter_le ..).trans he⟩⟩
  simpa [State.startJob] using hl
theorem State.enqueue_boundsKept (op : Nat) (kind : JobKind) (clash : JobKind → Bool) :
    State.BoundsKept (s.enqueue op kind clash).1 s := by
  unfold State.enqueue
  split
  · exact .refl s
  · exact s.startJob_boundsKept (by omega) op kind
@[simp] theorem State.enqueue_keepsBounds (op : Nat) (kind : JobKind) (clash : JobKind → Bool) :
    State.KeepsBounds (s.enqueue op kind clash).1 s := .of (s.enqueue_boundsKept ..)

/-! ### Registers, memories and counters -/

@[simp] theorem State.bumpBy_keepsBounds (id sub n : Nat) : State.KeepsBounds (s.bumpBy id sub n) s := .of <| by
  simp [State.bumpBy]
@[simp] theorem State.setSramByte_keepsBounds (a : Nat) (b : Byte) :
    State.KeepsBounds (s.setSramByte a b) s := .of <| by
  simp [State.setSramByte]
@[simp] theorem State.setFlashByte_keepsBounds (a : Nat) (b : Byte) :
    State.KeepsBounds (s.setFlashByte a b) s := .of <| by
  simp [State.setFlashByte]
@[simp] theorem State.setSramWord_keepsBounds (a : Nat) (w : Word) :
    State.KeepsBounds (s.setSramWord a w) s := .of <| by
  simp [State.setSramWord]
@[simp] theorem State.setPsramWord_keepsBounds (a : Nat) (w : Word) :
    State.KeepsBounds (s.setPsramWord a w) s := .of <| by
  simp [State.setPsramWord, State.setPsramByte]
@[simp] theorem State.absentDrop_keepsBounds (u : Nat) : State.KeepsBounds (s.absentDrop u) s := .of <| by
  simp [State.absentDrop]
@[simp] theorem State.gone_keepsBounds (u : Nat) : State.KeepsBounds (s.gone u) s := .of <| by
  simp [State.gone]

/-! ### The fabric as a netlist -/

@[simp] theorem State.saveGate_keepsBounds (r : Nat) : State.KeepsBounds (s.saveGate r) s := .of <| by
  unfold State.saveGate
  split <;> simp
@[simp] theorem State.scramble_keepsBounds (r : Nat) (f : CellCfg → Bool) :
    State.KeepsBounds (s.scramble r f) s := .of <| by
  unfold State.scramble
  split <;> simp
@[simp] theorem State.scrambleMacs_keepsBounds (r : Nat) (f : MacCfg → Bool) :
    State.KeepsBounds (s.scrambleMacs r f) s := .of <| by
  unfold State.scrambleMacs
  split <;> simp

/-! ### Flags that follow the state -/

@[simp] theorem State.refreshHold_keepsBounds (boundary : Bool) :
    State.KeepsBounds (s.refreshHold boundary) s := .of <| by
  simp [State.refreshHold]
@[simp] theorem State.refreshThresh_keepsBounds (ring : Nat) : State.KeepsBounds (s.refreshThresh ring) s := .of <| by
  simp [State.refreshThresh]
@[simp] theorem State.setClosed_keepsBounds (at_ : Nat) (l : List (Nat × Nat)) :
    State.KeepsBounds (s.setClosed at_ l) s := .of <| by
  simp [State.setClosed]

/-! ### Wire checks -/

@[simp] theorem State.keepUp_keepsBounds : State.KeepsBounds s.keepUp s := .of <| by
  unfold State.keepUp
  split <;> simp
@[simp] theorem State.mapRun_keepsBounds (f : WireRun → WireRun) : State.KeepsBounds (s.mapRun f) s := .of <| by
  unfold State.mapRun
  split <;> simp
@[simp] theorem State.withdrawStep_keepsBounds (ch : Nat) : State.KeepsBounds (s.withdrawStep ch) s := .of <| by
  simp [State.withdrawStep]
@[simp] theorem State.dropWireRuns_keepsBounds (f : WireRun → Bool) :
    State.KeepsBounds (s.dropWireRuns f) s := .of <| by
  simp [State.dropWireRuns]

/-! ### Converters -/

@[simp] theorem State.refreshStalled_keepsBounds (n : Nat) : State.KeepsBounds (s.refreshStalled n) s := .of <| by
  simp [State.refreshStalled]
@[simp] theorem State.refreshHealth_keepsBounds (n : Nat) : State.KeepsBounds (s.refreshHealth n) s := .of <| by
  simp [State.refreshHealth]
@[simp] theorem State.startCold_keepsBounds (n : Nat) : State.KeepsBounds (s.startCold n) s := .of <| by
  unfold State.startCold
  dsimp only
  repeat' split
  all_goals simp
@[simp] theorem State.stopConv_keepsBounds (n : Nat) : State.KeepsBounds (s.stopConv n) s := .of <| by
  simp [State.stopConv]

/-! ### Bursts and drains -/

@[simp] theorem State.spaceWrite_keepsBounds (xspi : Bool) (a : Nat) (w : Word) :
    State.KeepsBounds (s.spaceWrite xspi a w) s := .of <| by
  simp [State.spaceWrite]
@[simp] theorem State.countBytes_keepsBounds (x1 : Bool) (n : Nat) :
    State.KeepsBounds (s.countBytes x1 n) s := .of <| by
  simp [State.countBytes]
@[simp] theorem State.unpoison_keepsBounds (k : Nat) : State.KeepsBounds (s.unpoison k) s := .of <| by
  simp [State.unpoison]
@[simp] theorem State.writeBurst_keepsBounds (n : Nat) (ws : List Word) :
    State.KeepsBounds (s.writeBurst n ws) s := .of <| by
  simp [State.writeBurst]
@[simp] theorem State.eccUncorr_keepsBounds (w : Nat) : State.KeepsBounds (s.eccUncorr w) s := .of <| by
  simp [State.eccUncorr]
@[simp] theorem State.readSram_keepsBounds (src n : Nat) (ecc : Ecc) :
    State.KeepsBounds (s.readSram src n ecc).1 s := .of <| by
  unfold State.readSram
  split <;> simp
@[simp] theorem State.cutBurst_keepsBounds (n : Nat) : State.KeepsBounds (s.cutBurst n) s := .of <| by
  simp [State.cutBurst]
@[simp] theorem State.writeDrain_keepsBounds (ws : List (Nat × Word)) :
    State.KeepsBounds (s.writeDrain ws) s := .of <| by
  simp [State.writeDrain]
@[simp] theorem State.cutDrain_keepsBounds (q : Nat) : State.KeepsBounds (s.cutDrain q) s := .of <| by
  unfold State.cutDrain
  dsimp only
  split <;> simp

end Sys2Proof.Machine
end

section
/-! PROOFS. The bounds of the log and the jobs: units, their runs, plan items, filter chains and sequences. -/

namespace Sys2Proof.Machine

variable (s : State)

/-! ### Units -/

@[simp] theorem State.endCapture_keepsBounds (j : Job) : State.KeepsBounds (s.endCapture j) s := .of <| by
  unfold State.endCapture
  split <;> simp
@[simp] theorem State.discard_keepsBounds (u : Nat) : State.KeepsBounds (s.discard u) s := .of <| by
  simp [State.discard]
@[simp] theorem State.feedPort_keepsBounds (port prod : Nat) (w : Word) (tags : List Tag) :
    State.KeepsBounds (s.feedPort port prod w tags) s := .of <| by
  simp [State.feedPort]
@[simp] theorem State.discardPort_keepsBounds (port : Nat) : State.KeepsBounds (s.discardPort port) s := .of <| by
  simp [State.discardPort]
@[simp] theorem State.landReplies_keepsBounds (before : Nat) : State.KeepsBounds (s.landReplies before) s := .of <| by
  simp [State.landReplies, State.landReply, State.sramReply]
@[simp] theorem State.dropFlights_keepsBounds (p : Flight → Bool) : State.KeepsBounds (s.dropFlights p) s := .of <| by
  simp [State.dropFlights]
@[simp] theorem State.discardRun_keepsBounds (n : Nat) (r : Option Run) :
    State.KeepsBounds (s.discardRun n r) s := .of <| by
  unfold State.discardRun
  split <;> simp
@[simp] theorem State.abandonRuns_keepsBounds (n : Nat) : State.KeepsBounds (s.abandonRuns n) s := .of <| by
  simp [State.abandonRuns]
@[simp] theorem State.dropRun_keepsBounds (n : Nat) : State.KeepsBounds (s.dropRun n) s := .of <| by
  simp [State.dropRun]
@[simp] theorem State.dropSeqItem_keepsBounds (n idx : Nat) : State.KeepsBounds (s.dropSeqItem n idx) s := .of <| by
  simp [State.dropSeqItem, State.dropRunA]
@[simp] theorem State.dropOuts_keepsBounds (f : Nat) : State.KeepsBounds (s.dropOuts f) s := .of <| by
  simp [State.dropOuts]
@[simp] theorem State.dropItem_keepsBounds (r : RunItem) : State.KeepsBounds (s.dropItem r) s := .of <| by
  unfold State.dropItem
  dsimp only
  repeat' split
  all_goals simp
@[simp] theorem State.endSwap_keepsBounds (f status : Nat) : State.KeepsBounds (s.endSwap f status) s := .of <| by
  unfold State.endSwap
  split <;> simp
@[simp] theorem State.flipBank_keepsBounds (f : Nat) : State.KeepsBounds (s.flipBank f) s := .of <| by
  simp [State.flipBank]
@[simp] theorem State.endFade_keepsBounds (f : Nat) : State.KeepsBounds (s.endFade f) s := .of <| by
  simp [State.endFade]
@[simp] theorem State.onLeave_keepsBounds (u : Nat) (dst : UState) : State.KeepsBounds (s.onLeave u dst) s := .of <| by
  simp [State.onLeave, State.leaveReplies, State.stopSeq]
@[simp] theorem State.onStop_keepsBounds (u : Nat) : State.KeepsBounds (s.onStop u) s := .of <| by
  simp [State.onStop, State.dropInbox, State.disarm, State.uartStop]
@[simp] theorem State.fabricReset_keepsBounds (r : Nat) (ram : Bool) :
    State.KeepsBounds (s.fabricReset r ram) s := .of <| by
  unfold State.fabricReset
  split <;> simp
@[simp] theorem State.fabricInit_keepsBounds (r : Nat) : State.KeepsBounds (s.fabricInit r) s := .of <| by
  simp [State.fabricInit]
@[simp] theorem State.onReset_keepsBounds (u : Nat) : State.KeepsBounds (s.onReset u) s := .of <| by
  simp [State.onReset]
@[simp] theorem State.onWake_keepsBounds (u : Nat) : State.KeepsBounds (s.onWake u) s := .of <| by
  simp [State.onWake]
@[simp] theorem State.clearChain_keepsBounds (f : Nat) : State.KeepsBounds (s.clearChain f) s := .of <| by
  simp [State.clearChain]
@[simp] theorem State.closeSwitches_keepsBounds : State.KeepsBounds s.closeSwitches s := .of <| by
  simp [State.closeSwitches]
@[simp] theorem State.goState_keepsBounds (u : Nat) (dst : UState) (cause : Nat) :
    State.KeepsBounds (s.goState u dst cause) s := .of <| by
  simp [State.goState, State.powerLost, State.onAwake, State.onRun, State.startUart]
@[simp] theorem State.drainUnit_keepsBounds (u : Nat) (off : Bool) :
    State.KeepsBounds (s.drainUnit u off) s := .of <| by
  unfold State.drainUnit
  dsimp only
  repeat' split
  all_goals simp
@[simp] theorem State.unitBoundary_keepsBounds (v : View) (u : Nat) :
    State.KeepsBounds (State.unitBoundary v s u) s := .of <| by
  unfold State.unitBoundary
  dsimp only
  repeat' split
  all_goals simp
@[simp] theorem State.forceFault_keepsBounds (u : Nat) : State.KeepsBounds (s.forceFault u) s := .of <| by
  simp [State.forceFault]
@[simp] theorem execWakeFail_boundsKept (unit : Fin 64) : s.Leads State.BoundsKept (execWakeFail unit s) := by
  unfold execWakeFail
  dsimp only
  split <;> simp

/-! ### Analog cells -/

@[simp] theorem State.powerCell_keepsBounds (c : Nat) : State.KeepsBounds (s.powerCell c) s := .of <| by
  simp [State.powerCell]
@[simp] theorem State.holdCell_keepsBounds (src at_ : Nat) (c : Nat) :
    State.KeepsBounds (State.holdCell src at_ s c) s := .of <| by
  simp [State.holdCell]
@[simp] theorem State.holdCells_keepsBounds (src at_ : Nat) : State.KeepsBounds (s.holdCells src at_) s := .of <| by
  simp [State.holdCells]

/-! ### Lanes and ports -/

@[simp] theorem State.grant_keepsBounds (bank cls : Nat) (rmw : Bool) :
    State.KeepsBounds (s.grant bank cls rmw) s := .of <| by
  simp [State.grant]
@[simp] theorem State.addMover_keepsBounds (m : Mover) : State.KeepsBounds (s.addMover m) s := .of <| by
  simp [State.addMover]
@[simp] theorem State.endMover_keepsBounds (who : Nat) : State.KeepsBounds (s.endMover who) s := .of <| by
  simp [State.endMover]
@[simp] theorem State.moveDrain_keepsBounds (q cls k : Nat) (item : Option Nat) :
    State.KeepsBounds (s.moveDrain q cls k item) s := .of <| by
  simp [State.moveDrain]

/-! ### Plan items -/

@[simp] theorem State.finishItem_keepsBounds (idx : Nat) : State.KeepsBounds (s.finishItem idx) s := .of <| by
  simp [State.finishItem]
@[simp] theorem State.startItem_keepsBounds (i action : Nat) : State.KeepsBounds (s.startItem i action).1 s := .of <| by
  unfold State.startItem
  split
  · simp
  · dsimp only
    repeat' split
    all_goals simp

/-- A plan item starts or does not, and either way the bounds are kept. -/
theorem State.startItem_boundsCases (i action : Nat) :
    (∃ z, s.startItem i action = (z, none) ∧ State.BoundsKept z s) ∨
      ∃ z it, s.startItem i action = (z, some it) ∧ State.BoundsKept z s := by
  have h : State.BoundsKept (s.startItem i action).1 s := by simp
  rcases hitem : s.startItem i action with ⟨z, _ | it⟩
  · exact .inl ⟨z, rfl, by simpa [hitem] using h⟩
  · exact .inr ⟨z, it, rfl, by simpa [hitem] using h⟩

@[simp] theorem execOverbudget_boundsKept (i : Fin 64) : s.Leads State.BoundsKept (execOverbudget i s) := by
  unfold execOverbudget
  split <;> simp

/-! ### Filter chains -/

@[simp] theorem State.acceptWord_keepsBounds (f n cls : Nat) (w : Word) :
    State.KeepsBounds (s.acceptWord f n cls w) s := .of <| by
  simp [State.acceptWord]
@[simp] theorem State.deliverOut_keepsBounds (f : Nat) (o : ChainOut) (item : Option Nat) (at_ : Nat) :
    State.KeepsBounds (s.deliverOut f o item at_) s := .of <| by
  simp [State.deliverOut]
@[simp] theorem State.emitDone_keepsBounds (f : Nat) : State.KeepsBounds (s.emitDone f) s := .of <| by
  unfold State.emitDone
  split <;> simp
@[simp] theorem execFiltEmit_boundsKept (i : Fin 64) : s.Leads State.BoundsKept (execFiltEmit i s) := by
  unfold execFiltEmit
  rcases s.startItem_boundsCases i.val 5 with ⟨z, h, hz⟩ | ⟨z, it, h, hz⟩
  · simpa [h] using hz
  · simp [h, hz]
@[simp] theorem execFiltOutput_boundsKept (fi : Fin 8) : s.Leads State.BoundsKept (execFiltOutput fi s) := by
  unfold execFiltOutput
  dsimp only
  split <;> simp

/-! ### Sequences and rings -/

@[simp] theorem State.ignoreTrig_keepsBounds (n : Nat) : State.KeepsBounds (s.ignoreTrig n) s := .of <| by
  simp [State.ignoreTrig]
@[simp] theorem State.issueTrig_keepsBounds (n order first delay : Nat) (item : Option Nat) (at_ : Nat) :
    State.KeepsBounds (s.issueTrig n order first delay item at_).1 s := .of <| by
  simp [State.issueTrig]
@[simp] theorem State.slotTrigs_keepsBounds (srcs : List Nat) (edge : Word → Bool) (at_ : Nat) :
    State.KeepsBounds (s.slotTrigs srcs edge at_) s := .of <| by
  simp [State.slotTrigs]
@[simp] theorem execSeqStart_boundsKept (i : Fin 64) : s.Leads State.BoundsKept (execSeqStart i s) := by
  unfold execSeqStart
  rcases s.startItem_boundsCases i.val 1 with ⟨z, h, hz⟩ | ⟨z, it, h, hz⟩
  · simpa [h] using hz
  · simp [h, hz]
@[simp] theorem State.timerPulses_keepsBounds (ks : List Nat) (at_ : Nat) :
    State.KeepsBounds (s.timerPulses ks at_) s := .of <| by
  simp [State.timerPulses]
@[simp] theorem execTtPulse_boundsKept (k : Fin 8) : s.Leads State.BoundsKept (execTtPulse k s) := by
  unfold execTtPulse
  dsimp only
  split <;> simp
@[simp] theorem State.preempt_keepsBounds (n ready lastA : Nat) :
    State.KeepsBounds (s.preempt n ready lastA) s := .of <| by
  unfold State.preempt
  dsimp only
  repeat' split
  all_goals simp
@[simp] theorem execTriggerReady_boundsKept (c : Side) : s.Leads State.BoundsKept (execTriggerReady c s) := by
  unfold execTriggerReady
  dsimp only
  repeat' split
  all_goals simp
@[simp] theorem State.runDone_keepsBounds (n : Nat) (isA : Bool) : State.KeepsBounds (s.runDone n isA) s := .of <| by
  unfold State.runDone
  dsimp only
  repeat' split
  all_goals simp
@[simp] theorem State.settleRun_keepsBounds (n : Nat) (isA : Bool) :
    State.KeepsBounds (s.settleRun n isA) s := .of <| by
  unfold State.settleRun
  dsimp only
  split <;> simp
@[simp] theorem execResultWordDelivery_boundsKept (c : Side) (dt : Nat) (clsA : Bool) (smp : Sample) :
    s.Leads State.BoundsKept (execResultWordDelivery c dt clsA smp s) := by
  unfold execResultWordDelivery
  extract_lets n b q put
  rw [State.leads_next]
  split
  · simp
  · split
    · simp
    · extract_lets s1 iv e nextT nx last pv nb v cv closed pins susMap cal w tags s2 m2 s3 s4 m4 s5
      split
      · simp [s1]
      · have h1 : State.BoundsKept s1 s := by simp [s1]
        have h2 : State.BoundsKept s2 s1 := by simp [s2]
        have h3 : State.BoundsKept s3 s2 := by
          simp only [s3, m2]
          split <;> simp
        have h4 : State.BoundsKept s4 s3 := by simp [s4]
        have h5 : State.BoundsKept s5 s4 := by simp [s5, m4]
        have hput : State.BoundsKept s5 s := (((h5.trans h4).trans h3).trans h2).trans h1
        simp [put, hput]
@[simp] theorem State.advanceWr_keepsBounds (ring : Nat) : State.KeepsBounds (s.advanceWr ring) s := .of <| by
  simp [State.advanceWr]
@[simp] theorem State.queueWord_keepsBounds (q ring : Nat) (w : Word) :
    State.KeepsBounds (s.queueWord q ring w) s := .of <| by
  simp [State.queueWord]
@[simp] theorem State.ringStore_keepsBounds (r : RingReq) (a : Nat) (uncorr : Bool) :
    State.KeepsBounds (s.ringStore r a uncorr) s := .of <| by
  unfold State.ringStore
  dsimp only
  repeat' split
  all_goals simp
@[simp] theorem State.writeRing_keepsBounds (r : RingReq) (uncorr : Bool) :
    State.KeepsBounds (s.writeRing r uncorr) s := .of <| by
  simp [State.writeRing, State.ringFull, State.advanceRd]
@[simp] theorem State.ringStep_keepsBounds (r : RingReq) (uncorr : Bool) :
    State.KeepsBounds (s.ringStep r uncorr) s := .of <| by
  simp [State.ringStep]
@[simp] theorem execRingWrite_boundsKept (uncorr : Bool) : s.Leads State.BoundsKept (execRingWrite uncorr s) := by
  unfold execRingWrite
  split <;> simp
@[simp] theorem execCaptureWord_boundsKept (c : Side) : s.Leads State.BoundsKept (execCaptureWord c s) := by
  unfold execCaptureWord
  dsimp only
  repeat' split
  all_goals simp
@[simp] theorem execCaptureTimeout_boundsKept (c : Side) : s.Leads State.BoundsKept (execCaptureTimeout c s) := by
  unfold execCaptureTimeout
  split <;> simp

end Sys2Proof.Machine
end

section
/-! PROOFS. The bounds of the log and the jobs: the analog cells, the converters, the fabric and the movers. -/

namespace Sys2Proof.Machine

variable (s : State)

/-! ### The analog cells and DACs -/

@[simp] theorem execAcellSat_boundsKept (cell : Fin 16) (x : CellInputs) :
    s.Leads State.BoundsKept (execAcellSat cell x s) := by
  unfold execAcellSat
  dsimp only
  split <;> simp
@[simp] theorem State.latchDac_keepsBounds (ch : Nat) (code : Word) (at_ : Nat) :
    State.KeepsBounds (s.latchDac ch code at_) s := .of <| by
  simp [State.latchDac]
@[simp] theorem State.dueHeld_keepsBounds (by_ : Nat) (ch : Nat) :
    State.KeepsBounds (State.dueHeld by_ s ch) s := .of <| by
  unfold State.dueHeld
  dsimp only
  split <;> simp
@[simp] theorem execDacUpdate_boundsKept (i : Fin 64) : s.Leads State.BoundsKept (execDacUpdate i s) := by
  unfold execDacUpdate
  rcases s.startItem_boundsCases i.val 3 with ⟨z, h, hz⟩ | ⟨z, it, h, hz⟩
  · simpa [h] using hz
  · simp only [h, State.leads_next]
    split
    · exact hz
    · refine State.each_keeps (P := fun z => State.BoundsKept z s) (fun z ch hch => ?_) _ _ (by simp [hz])
      split <;> simp [hch]
@[simp] theorem execDacPortWrite_boundsKept (ch : Fin 8) (dt : Nat) (code : BitVec 16) :
    s.Leads State.BoundsKept (execDacPortWrite ch dt code s) := by
  unfold execDacPortWrite
  dsimp only
  split <;> simp
@[simp] theorem execDacHeldLatch_boundsKept (ch : Fin 8) : s.Leads State.BoundsKept (execDacHeldLatch ch s) := by
  unfold execDacHeldLatch
  dsimp only
  split <;> simp
@[simp] theorem execDacOutputResume_boundsKept (ch : Fin 8) : s.Leads State.BoundsKept (execDacOutputResume ch s) := by
  unfold execDacOutputResume
  split <;> simp

/-! ### Wire faults -/

@[simp] theorem State.setSus_keepsBounds (pin : Nat) (on : Bool) : State.KeepsBounds (s.setSus pin on) s := .of <| by
  simp [State.setSus]
@[simp] theorem execWireCheck_boundsKept (i : Fin 64) (meas : List WireMeas) :
    s.Leads State.BoundsKept (execWireCheck i meas s) := by
  unfold execWireCheck
  rcases s.startItem_boundsCases i.val 4 with ⟨z, h, hz⟩ | ⟨z, it, h, hz⟩
  · simpa [h] using hz
  · simp [h, hz]
@[simp] theorem State.applyVerdict_keepsBounds (c : PinFound) : State.KeepsBounds (s.applyVerdict c) s := .of <| by
  simp [State.applyVerdict]
@[simp] theorem execWireCheckFinish_boundsKept : s.Leads State.BoundsKept (execWireCheckFinish s) := by
  unfold execWireCheckFinish
  split <;> simp
@[simp] theorem State.recordClamp_keepsBounds (p : Nat) : State.KeepsBounds (s.recordClamp p) s := .of <| by
  simp [State.recordClamp]

/-! ### Calibration -/

@[simp] theorem State.keepConv_keepsBounds (n : Nat) : State.KeepsBounds (s.keepConv n) s := .of <| by
  simp [State.keepConv]
@[simp] theorem State.setTerms_keepsBounds (n k : Nat) (m : SliceMeas) :
    State.KeepsBounds (s.setTerms n k m) s := .of <| by
  simp [State.setTerms]
@[simp] theorem State.markSlice_keepsBounds (n k r warn : Nat) :
    State.KeepsBounds (s.markSlice n k r warn) s := .of <| by
  simp [State.markSlice]
@[simp] theorem State.swapSpare_keepsBounds (n p : Nat) (w : Waiting) :
    State.KeepsBounds (s.swapSpare n p w) s := .of <| by
  simp [State.swapSpare]
@[simp] theorem State.retireSpare_keepsBounds (n r : Nat) : State.KeepsBounds (s.retireSpare n r) s := .of <| by
  simp [State.retireSpare]
@[simp] theorem State.regrid_keepsBounds (n : Nat) : State.KeepsBounds (s.regrid n) s := .of <| by
  simp [State.regrid]
@[simp] theorem execCalRotate_boundsKept (i : Fin 64) (m : SliceMeas) :
    s.Leads State.BoundsKept (execCalRotate i m s) := by
  unfold execCalRotate
  rcases s.startItem_boundsCases i.val 8 with ⟨z, h, hz⟩ | ⟨z, it, h, hz⟩
  · simpa [h] using hz
  · simp [h, hz]
@[simp] theorem execCalRotateSwap_boundsKept (c : Side) : s.Leads State.BoundsKept (execCalRotateSwap c s) := by
  unfold execCalRotateSwap
  dsimp only
  repeat' split
  all_goals simp
@[simp] theorem State.countCold_keepsBounds (n k : Nat) (m : SliceMeas) :
    State.KeepsBounds (s.countCold n k m) s := .of <| by
  simp [State.countCold]
@[simp] theorem State.judgeCold_keepsBounds (n warn : Nat) : State.KeepsBounds (s.judgeCold n warn) s := .of <| by
  simp [State.judgeCold]
@[simp] theorem execColdStep_boundsKept (c : Side) (terms : Terms) (resid : Nat) :
    s.Leads State.BoundsKept (execColdStep c terms resid s) := by
  unfold execColdStep
  dsimp only
  split <;> simp
@[simp] theorem execColdSpareSwap_boundsKept (c : Side) : s.Leads State.BoundsKept (execColdSpareSwap c s) := by
  unfold execColdSpareSwap
  dsimp only
  split <;> simp
@[simp] theorem execConvCalTimeout_boundsKept (c : Side) : s.Leads State.BoundsKept (execConvCalTimeout c s) := by
  unfold execConvCalTimeout
  extract_lets n b x s1
  have hturn : ∀ t y, State.BoundsKept (((((s.reach t).setConv n y).setRegBit (b + 6) 0 3 true).refreshHealth n).emit
      (convUnit n) evConvCalTimeout 0) s := fun t y => by simp
  rw [State.leads_next]
  split
  · simp
  · exact hturn _ _

/-! ### The fabric -/

@[simp] theorem State.pulseStrobe_keepsBounds (r k : Nat) : State.KeepsBounds (s.pulseStrobe r k) s := .of <| by
  simp [State.pulseStrobe]
@[simp] theorem execFabricStrobe_boundsKept (i : Fin 64) : s.Leads State.BoundsKept (execFabricStrobe i s) := by
  unfold execFabricStrobe
  rcases s.startItem_boundsCases i.val 6 with ⟨z, h, hz⟩ | ⟨z, it, h, hz⟩
  · simpa [h] using hz
  · simp [h, hz]
@[simp] theorem execFabricStrobeDone_boundsKept (r strobe : Fin 8) :
    s.Leads State.BoundsKept (execFabricStrobeDone r strobe s) := by
  unfold execFabricStrobeDone
  dsimp only
  repeat' split
  all_goals simp
@[simp] theorem State.startWaiting_keepsBounds (r : Nat) : State.KeepsBounds (s.startWaiting r) s := .of <| by
  simp [State.startWaiting]
@[simp] theorem execRegionFreezeEnd_boundsKept (r : Fin 8) : s.Leads State.BoundsKept (execRegionFreezeEnd r s) := by
  unfold execRegionFreezeEnd
  dsimp only
  repeat' split
  all_goals simp
@[simp] theorem execRegionLoadStep_boundsKept (r : Fin 8) : s.Leads State.BoundsKept (execRegionLoadStep r s) := by
  unfold execRegionLoadStep
  dsimp only
  repeat' split
  all_goals simp
@[simp] theorem execFabPortInputWord_boundsKept (r : Fin 8) (kind : StreamPort) (n : Fin 8) (dt : Nat) :
    s.Leads State.BoundsKept (execFabPortInputWord r kind n dt s) := by
  unfold execFabPortInputWord
  dsimp only
  split <;> simp
@[simp] theorem State.ringsBefore_keepsBounds (bank cls : Nat) : ∀ (n : Nat) (s : State),
    State.KeepsBounds (State.ringsBefore bank cls n s) s
  | 0, s => .of (.refl s)
  | n + 1, s => .of <| by
    unfold State.ringsBefore
    split
    · simp
    · split
      · simp
      · simp [State.ringsBefore_keepsBounds bank cls n]
@[simp] theorem State.launchReply_keepsBounds (f : Flight) : State.KeepsBounds (s.launchReply f) s := .of <| by
  simp [State.launchReply]
@[simp] theorem execFabricSramRequest_boundsKept (port : Fin 8) (addr : Word) (wr : Option (BitVec 64))
    (answer : BankAnswer) : s.Leads State.BoundsKept (execFabricSramRequest port addr wr answer s) := by
  unfold execFabricSramRequest
  dsimp only
  repeat' split
  all_goals simp

/-! ### SRAM, Geyser and DMA -/

@[simp] theorem State.endDesc_keepsBounds (n status : Nat) : State.KeepsBounds (s.endDesc n status) s := .of <| by
  simp [State.endDesc]
@[simp] theorem State.dmaAbsent_keepsBounds (n : Nat) : State.KeepsBounds (s.dmaAbsent n) s := .of <| by
  simp [State.dmaAbsent]
@[simp] theorem State.startBurst_keepsBounds (n : Nat) (item : Option Nat) :
    State.KeepsBounds (s.startBurst n item).1 s := .of <| by
  simp [State.startBurst, State.moveBurst]
@[simp] theorem execDmaBurst_boundsKept (i : Fin 64) : s.Leads State.BoundsKept (execDmaBurst i s) := by
  unfold execDmaBurst
  rcases s.startItem_boundsCases i.val 2 with ⟨z, h, hz⟩ | ⟨z, it, h, hz⟩
  · simpa [h] using hz
  · simp [h, hz]
@[simp] theorem State.advanceDring_keepsBounds (n bytes : Nat) :
    State.KeepsBounds (s.advanceDring n bytes) s := .of <| by
  simp [State.advanceDring]
@[simp] theorem execDmaBurstComplete_boundsKept (ch : Fin 24) (ecc : Ecc) :
    s.Leads State.BoundsKept (execDmaBurstComplete ch ecc s) := by
  unfold execDmaBurstComplete
  extract_lets n z _ s0 len sp src bad strobe tag r s2 s3 s4 s5 s6
  rw [State.leads_next]
  split
  · simp
  · extract_lets fin
    have hfin : ∀ z, State.KeepsBounds (fin z) z := fun z => .of <| by
      simp only [fin]
      split <;> simp
    split
    · simp
    · have h0 : State.BoundsKept s0 s := by simp [s0, z]
      have hr : State.BoundsKept r.1 s0 := by simp [r]
      have h2 : State.BoundsKept s2 r.1 := by simp [s2]
      have h4 : State.BoundsKept s4 s2 := by simp [s4, s3]
      have h6 : State.BoundsKept s6 s4 := by simp [s6, s5]
      have hmoved : State.BoundsKept s6 s := (((h6.trans h4).trans h2).trans hr).trans h0
      simp [hfin, h0, hmoved]
@[simp] theorem State.putStream_keepsBounds (n : Nat) (ws : List Word) :
    State.KeepsBounds (s.putStream n ws) s := .of <| by
  simp [State.putStream, State.writeStream]
@[simp] theorem execDmaStreamWord_boundsKept (ch : Fin 4) (w : Word) (busy : Bool) :
    s.Leads State.BoundsKept (execDmaStreamWord ch w busy s) := by
  unfold execDmaStreamWord
  dsimp only
  split <;> simp
@[simp] theorem execGeyserDrain_boundsKept (i : Fin 64) : s.Leads State.BoundsKept (execGeyserDrain i s) := by
  unfold execGeyserDrain
  rcases s.startItem_boundsCases i.val 7 with ⟨z, h, hz⟩ | ⟨z, it, h, hz⟩
  · simpa [h] using hz
  · simp [h, hz]
@[simp] theorem execDrainComplete_boundsKept (qi : Fin 16) : s.Leads State.BoundsKept (execDrainComplete qi s) := by
  unfold execDrainComplete
  dsimp only
  repeat' split
  all_goals simp

end Sys2Proof.Machine
end

section
/-! PROOFS. The bounds of the log and the jobs: the transports, the serial ports and the random source. -/

namespace Sys2Proof.Machine

variable (s : State)

/-! ### Transports -/

@[simp] theorem State.transportError_keepsBounds (n kind : Nat) (seq : Byte) :
    State.KeepsBounds (s.transportError n kind seq) s := .of <| by
  simp [State.transportError]
@[simp] theorem State.errReply_keepsBounds (n : Nat) (r : Reply) : State.KeepsBounds (s.errReply n r) s := .of <| by
  simp [State.errReply]
@[simp] theorem State.frameBad_keepsBounds (n : Nat) (seq : Byte) : State.KeepsBounds (s.frameBad n seq) s := .of <| by
  simp [State.frameBad]
@[simp] theorem State.announce_keepsBounds (n : Nat) (r : Reply) : State.KeepsBounds (s.announce n r) s := .of <| by
  simp [State.announce]
@[simp] theorem State.errorReady_keepsBounds (n : Nat) : State.KeepsBounds (s.errorReady n) s := .of <| by
  unfold State.errorReady
  dsimp only
  split <;> simp
@[simp] theorem State.discardRx_keepsBounds (n kind : Nat) : State.KeepsBounds (s.discardRx n kind) s := .of <| by
  simp [State.discardRx]
@[simp] theorem State.gapCheck_keepsBounds (u : Nat) : State.KeepsBounds (s.gapCheck u) s := .of <| by
  simp [State.gapCheck]
@[simp] theorem execTransportReplySend_boundsKept (u : Fin 4) :
    s.Leads State.BoundsKept (execTransportReplySend u s) := by
  unfold execTransportReplySend
  dsimp only
  split <;> simp
@[simp] theorem State.transportByte_keepsBounds (u : Nat) (b : Byte) (bad brk : Bool) :
    State.KeepsBounds (s.transportByte u b bad brk) s := .of <| by
  simp [State.transportByte]

/-! ### Serial ports -/

@[simp] theorem State.rxLevelled_keepsBounds (u old : Nat) : State.KeepsBounds (s.rxLevelled u old) s := .of <| by
  simp [State.rxLevelled]
@[simp] theorem State.txLevelled_keepsBounds (u old : Nat) : State.KeepsBounds (s.txLevelled u old) s := .of <| by
  simp [State.txLevelled]
@[simp] theorem State.popTx_keepsBounds (u : Nat) : State.KeepsBounds (s.popTx u) s := .of <| by
  simp [State.popTx]
@[simp] theorem State.popRx_keepsBounds (u : Nat) : State.KeepsBounds (s.popRx u) s := .of <| by
  simp [State.popRx]
@[simp] theorem State.countEntry_keepsBounds (u : Nat) (e : BitVec 12) :
    State.KeepsBounds (s.countEntry u e) s := .of <| by
  simp [State.countEntry]
@[simp] theorem State.storeEntry_keepsBounds (u : Nat) (e : BitVec 12) :
    State.KeepsBounds (s.storeEntry u e) s := .of <| by
  simp [State.storeEntry]
@[simp] theorem State.deliverEntry_keepsBounds (u : Nat) (e : BitVec 12) :
    State.KeepsBounds (s.deliverEntry u e) s := .of <| by
  simp [State.deliverEntry]
@[simp] theorem State.linEnd_keepsBounds (u outcome : Nat) : State.KeepsBounds (s.linEnd u outcome) s := .of <| by
  simp [State.linEnd]
@[simp] theorem State.linStart_keepsBounds (u : Nat) (pid : Byte) (nf : Bool) :
    State.KeepsBounds (s.linStart u pid nf) s := .of <| by
  simp [State.linStart]
@[simp] theorem State.linChar_keepsBounds (u : Nat) (data : Byte) (fe nf : Bool) :
    State.KeepsBounds (s.linChar u data fe nf) s := .of <| by
  unfold State.linChar
  dsimp only
  split <;> simp
@[simp] theorem execUartStartBit_boundsKept (ui : Fin 4) (edges : List Nat) :
    s.Leads State.BoundsKept (execUartStartBit ui edges s) := by
  unfold execUartStartBit
  dsimp only
  repeat' split
  all_goals simp
@[simp] theorem State.takeChar_keepsBounds (u : Nat) (x : UartSt) (c : RxChar) :
    State.KeepsBounds (s.takeChar u x c) s := .of <| by
  simp [State.takeChar]
@[simp] theorem State.turnIdle_keepsBounds (u : Nat) : State.KeepsBounds (s.turnIdle u) s := .of <| by
  simp [State.turnIdle]
@[simp] theorem State.sent_keepsBounds (u bits : Nat) : State.KeepsBounds (s.sent u bits) s := .of <| by
  simp [State.sent]
@[simp] theorem execXoffSend_boundsKept (ui : Fin 4) : s.Leads State.BoundsKept (execXoffSend ui s) := by
  unfold execXoffSend
  dsimp only
  split <;> simp
@[simp] theorem execUartAutobaud_boundsKept (ui : Fin 4) (stamps : List Nat) (stopHigh : Bool) :
    s.Leads State.BoundsKept (execUartAutobaud ui stamps stopHigh s) := by
  unfold execUartAutobaud
  dsimp only
  repeat' split
  all_goals simp
@[simp] theorem execLinHeader_boundsKept (ui : Fin 4) (readBackOk : Bool) :
    s.Leads State.BoundsKept (execLinHeader ui readBackOk s) := by
  unfold execLinHeader
  dsimp only
  split <;> simp
@[simp] theorem execUartFabricWrite_boundsKept (ui : Fin 4) (b : Byte) :
    s.Leads State.BoundsKept (execUartFabricWrite ui b s) := by
  unfold execUartFabricWrite
  dsimp only
  split <;> simp
@[simp] theorem execUartFabricHandoff_boundsKept (ui : Fin 4) (dt : Nat) :
    s.Leads State.BoundsKept (execUartFabricHandoff ui dt s) := by
  unfold execUartFabricHandoff
  dsimp only
  repeat' split
  all_goals simp

/-! ### The random source -/

@[simp] theorem State.refreshRng_keepsBounds : State.KeepsBounds s.refreshRng s := .of <| by
  simp [State.refreshRng]
@[simp] theorem State.countRandom_keepsBounds (n : Nat) : State.KeepsBounds (s.countRandom n) s := .of <| by
  simp [State.countRandom]
@[simp] theorem State.feedRequest_keepsBounds (n : Nat) : State.KeepsBounds (s.feedRequest n) s := .of <| by
  unfold State.feedRequest
  dsimp only
  split <;> simp
@[simp] theorem State.feedJob_keepsBounds : State.KeepsBounds s.feedJob s := .of <| by
  unfold State.feedJob
  dsimp only
  repeat' split
  all_goals simp
@[simp] theorem State.feedRandom_keepsBounds : State.KeepsBounds s.feedRandom s := .of <| by
  simp [State.feedRandom]
@[simp] theorem State.healthEvent_keepsBounds (source : Nat) (proportion start : Bool) (retest : Nat) :
    State.KeepsBounds (s.healthEvent source proportion start retest) s := .of <| by
  simp [State.healthEvent]
@[simp] theorem State.failRandom_keepsBounds : State.KeepsBounds s.failRandom s := .of <| by
  unfold State.failRandom
  extract_lets s1
  have hjob : State.BoundsKept s1 s := by
    simp only [s1]
    split <;> simp
  refine State.each_keeps (P := fun z => State.BoundsKept z s) (fun z n hz => ?_) _ _ hjob
  dsimp only
  repeat' split
  all_goals simpa using hz
@[simp] theorem execRngHealthFail_boundsKept (before window : List (List Bool)) :
    s.Leads State.BoundsKept (execRngHealthFail before window s) := by
  unfold execRngHealthFail
  dsimp only
  repeat' split
  all_goals simp
@[simp] theorem execRngRetestEnd_boundsKept (sources : List (List Bool)) :
    s.Leads State.BoundsKept (execRngRetestEnd sources s) := by
  unfold execRngRetestEnd
  split <;> simp
@[simp] theorem State.seedDrbg_keepsBounds (seed : BitVec 384) : State.KeepsBounds (s.seedDrbg seed) s := .of <| by
  simp [State.seedDrbg]

end Sys2Proof.Machine
end

section
/-! PROOFS. The bounds of the log and the jobs: start-up, the boundary with its commit and the tick bus. -/

namespace Sys2Proof.Machine

variable (s : State)

/-! ### Values that take effect -/

@[simp] theorem State.afterCell_keepsBounds (old : View) (c : Nat) :
    State.KeepsBounds (State.afterCell old s c) s := .of <| by
  simp [State.afterCell]
@[simp] theorem State.afterDac_keepsBounds (old : View) (touched : Nat → Bool) (ch : Nat) :
    State.KeepsBounds (State.afterDac old touched s ch) s := .of <| by
  simp [State.afterDac]
@[simp] theorem State.restartRing_keepsBounds (ring : Nat) : State.KeepsBounds (s.restartRing ring) s := .of <| by
  simp [State.restartRing]
@[simp] theorem State.afterSegment_keepsBounds (old : View) (q : Nat) :
    State.KeepsBounds (State.afterSegment old s q) s := .of <| by
  unfold State.afterSegment
  dsimp only
  repeat' split
  all_goals simp
@[simp] theorem State.hunt_keepsBounds : State.KeepsBounds s.hunt s := .of <| by
  simp [State.hunt]
@[simp] theorem State.afterRole_keepsBounds (old : View) (roleSet : Bool) :
    State.KeepsBounds (State.afterRole old roleSet s) s := .of <| by
  simp [State.afterRole]
@[simp] theorem State.applyValues_keepsBounds (ws : List (Nat × Nat × Word)) :
    State.KeepsBounds (s.applyValues ws) s := .of <| by
  simp [State.applyValues, State.keepEntries, State.openSwitches, State.afterRing, State.afterPin, State.afterUart]

/-! ### The programming job and scans -/

@[simp] theorem State.closeTap_keepsBounds : State.KeepsBounds s.closeTap s := .of <| by
  simp [State.closeTap]
@[simp] theorem State.relock_keepsBounds (cause : Nat) : State.KeepsBounds (s.relock cause) s := .of <| by
  simp [State.relock]
@[simp] theorem State.warnHeadroom_keepsBounds (c : Nat) : State.KeepsBounds (s.warnHeadroom c) s := .of <| by
  simp [State.warnHeadroom]
@[simp] theorem State.dropShadows_keepsBounds (f : RegionCfg → Bool) :
    State.KeepsBounds (s.dropShadows f) s := .of <| by
  simp [State.dropShadows]
@[simp] theorem State.endFuse_keepsBounds (num : Nat) (f : FuseJob) (status reason : Nat) :
    State.KeepsBounds (s.endFuse num f status reason) s := .of <| by
  unfold State.endFuse
  split <;> simp
@[simp] theorem State.burnDone_keepsBounds (p : Nat × Nat) : State.KeepsBounds (s.burnDone p) s := .of <| by
  simp [State.burnDone]
@[simp] theorem State.copyDone_keepsBounds (num : Nat) (f : FuseJob) (p : Nat × Nat) :
    State.KeepsBounds (s.copyDone num f p) s := .of <| by
  unfold State.copyDone
  dsimp only
  repeat' split
  all_goals simp
@[simp] theorem execSinterScanDone_boundsKept : s.Leads State.BoundsKept (execSinterScanDone s) := by
  unfold execSinterScanDone
  split <;> simp

/-! ### Images -/

@[simp] theorem State.setVerify_keepsBounds (t : Nat) (v : Verify) : State.KeepsBounds (s.setVerify t v) s := .of <| by
  simp [State.setVerify]
@[simp] theorem State.eraseFlash_keepsBounds (a n : Nat) : State.KeepsBounds (s.eraseFlash a n) s := .of <| by
  simp [State.eraseFlash]
@[simp] theorem State.writeFlash_keepsBounds (a : Nat) (ws : List Word) :
    State.KeepsBounds (s.writeFlash a ws) s := .of <| by
  simp [State.writeFlash]
@[simp] theorem execImageEraseDone_boundsKept : s.Leads State.BoundsKept (execImageEraseDone s) := by
  unfold execImageEraseDone
  repeat' split
  all_goals simp
@[simp] theorem execImageWriteDone_boundsKept : s.Leads State.BoundsKept (execImageWriteDone s) := by
  unfold execImageWriteDone
  repeat' split
  all_goals simp
@[simp] theorem execImageVerifyDone_boundsKept (readErr : Bool) :
    s.Leads State.BoundsKept (execImageVerifyDone readErr s) := by
  unfold execImageVerifyDone
  dsimp only
  repeat' split
  all_goals simp

/-! ### Start-up -/

@[simp] theorem State.beginPhase1_keepsBounds (b : BitVec 2) : State.KeepsBounds (s.beginPhase1 b) s := .of <| by
  simp [State.beginPhase1, State.strap]
@[simp] theorem State.deliver_keepsBounds (first : Nat) (rows : List Word) :
    State.KeepsBounds (s.deliver first rows) s := .of <| by
  simp [State.deliver]
@[simp] theorem State.alarm_keepsBounds (region outcome : Nat) :
    State.KeepsBounds (s.alarm region outcome) s := .of <| by
  simp [State.alarm]
@[simp] theorem State.endPhase2_keepsBounds : State.KeepsBounds s.endPhase2 s := .of <| by
  simp [State.endPhase2]
@[simp] theorem State.enterLimited_keepsBounds (reason : Nat) : State.KeepsBounds (s.enterLimited reason) s := .of <| by
  simp [State.enterLimited]
@[simp] theorem State.takeTemp_keepsBounds (temp : BitVec 16) : State.KeepsBounds (s.takeTemp temp) s := .of <| by
  simp [State.takeTemp]
@[simp] theorem State.failSlot_keepsBounds (slot code : Nat) : State.KeepsBounds (s.failSlot slot code) s := .of <| by
  unfold State.failSlot
  dsimp only
  split <;> simp
@[simp] theorem State.loadSet_keepsBounds (slot : Nat) : State.KeepsBounds (s.loadSet slot) s := .of <| by
  simp [State.loadSet, State.loadCoef, State.loadRegion, State.powerAtBoot]

/-! ### Clocks and doze -/

@[simp] theorem State.loseLock_keepsBounds : State.KeepsBounds s.loseLock s := .of <| by
  simp [State.loseLock]
@[simp] theorem State.shiftGrid_keepsBounds (from_ : Nat) (n : Nat) :
    State.KeepsBounds (State.shiftGrid from_ s n) s := .of <| by
  simp [State.shiftGrid]
@[simp] theorem State.clocksResume_keepsBounds : State.KeepsBounds s.clocksResume s := .of <| by
  simp [State.clocksResume, State.restartLine, State.holdOff]

/-! ### The tick bus -/

@[simp] theorem State.setLocked_keepsBounds (b : Bool) : State.KeepsBounds (s.setLocked b) s := .of <| by
  simp [State.setLocked]
@[simp] theorem State.missEdge_keepsBounds : State.KeepsBounds s.missEdge s := .of <| by
  simp [State.missEdge]
@[simp] theorem State.closeWindow_keepsBounds (e : Nat) : State.KeepsBounds (s.closeWindow e) s := .of <| by
  unfold State.closeWindow
  split <;> simp
@[simp] theorem State.loseSync_keepsBounds (e : Int) : State.KeepsBounds (s.loseSync e) s := .of <| by
  simp [State.loseSync]
@[simp] theorem State.expire_keepsBounds : State.KeepsBounds s.expire s := .of <| by
  simp [State.expire]
@[simp] theorem State.steer_keepsBounds (e : Int) : State.KeepsBounds (s.steer e) s := .of <| by
  simp [State.steer]
@[simp] theorem State.placeEdge_keepsBounds (e : Nat) (marked : Bool) :
    State.KeepsBounds (s.placeEdge e marked) s := .of <| by
  simp [State.placeEdge]
@[simp] theorem State.confirmEdge_keepsBounds : State.KeepsBounds s.confirmEdge s := .of <| by
  simp [State.confirmEdge]
@[simp] theorem State.offEdge_keepsBounds (hope : Option Int) (e : Int) :
    State.KeepsBounds (s.offEdge hope e) s := .of <| by
  unfold State.offEdge
  split <;> simp
@[simp] theorem State.lateEdge_keepsBounds (t e : Nat) : State.KeepsBounds (s.lateEdge t e) s := .of <| by
  simp [State.lateEdge]
@[simp] theorem State.nextEdge_keepsBounds (e : Nat) (marked : Bool) :
    State.KeepsBounds (s.nextEdge e marked) s := .of <| by
  simp [State.nextEdge]
@[simp] theorem State.meetEdge_keepsBounds (e : Nat) (marked : Bool) :
    State.KeepsBounds (s.meetEdge e marked) s := .of <| by
  unfold State.meetEdge
  dsimp only
  repeat' split
  all_goals simp
@[simp] theorem execMissedEdge_boundsKept : s.Leads State.BoundsKept (execMissedEdge s) := by
  unfold execMissedEdge
  split <;> simp

/-! ### The boundary -/

@[simp] theorem State.countUnreached_keepsBounds : State.KeepsBounds s.countUnreached s := .of <| by
  unfold State.countUnreached
  repeat' split
  all_goals simp
@[simp] theorem State.cut_keepsBounds : State.KeepsBounds s.cut s := .of <| by
  simp [State.cut, State.freeTriggers]
@[simp] theorem State.tbusTurn_keepsBounds (b : Nat × Bool) (checked : Bool) :
    State.KeepsBounds (s.tbusTurn b checked) s := .of <| by
  unfold State.tbusTurn
  dsimp only
  split <;> simp
@[simp] theorem State.beginDoze_keepsBounds : State.KeepsBounds s.beginDoze s := .of <| by
  simp [State.beginDoze, State.dozeCell, State.dozeUart]
@[simp] theorem State.endDrained_keepsBounds (j : Job) : State.KeepsBounds (s.endDrained j) s := .of <| by
  unfold State.endDrained
  dsimp only
  repeat' split
  all_goals simp
@[simp] theorem State.swapJob_keepsBounds (j : Job) : State.KeepsBounds (s.swapJob j) s := .of <| by
  unfold State.swapJob
  split <;> simp
@[simp] theorem State.planJob_keepsBounds (j : Job) : State.KeepsBounds (s.planJob j) s := .of <| by
  unfold State.planJob
  split <;> simp
@[simp] theorem State.checkFit_keepsBounds : State.KeepsBounds s.checkFit s := .of <| by
  unfold State.checkFit
  split <;> simp
@[simp] theorem State.cycleZero_keepsBounds (temp : BitVec 16) : State.KeepsBounds (s.cycleZero temp) s := .of <| by
  simp [State.cycleZero, State.holdLine, State.fromPin, State.flushStream, State.markEpoch, State.countRefs,
    State.endDoze, State.release, State.swaps, State.rearm, State.prune]
@[simp] theorem State.cycle128_keepsBounds (fresh : Bool) : State.KeepsBounds (s.cycle128 fresh) s := .of <| by
  simp [State.cycle128, State.startLine, State.commit, State.commitRelease, State.fallDue, State.leaveReset,
    State.dropHunted, State.earlyPulses]

end Sys2Proof.Machine
end

section
/-! PROOFS. The bounds of the log and the jobs: requests while they are served. A request starts a job where fewer than 8 run
(R278), and LOG_CLEAR shortens the log (R320). -/

namespace Sys2Proof.Machine

variable (s : State)

/-! ### How a request is served -/

@[simp] theorem State.refuse_keepsBounds (status : Nat) : State.KeepsBounds (s.refuse status).1 s := .of <| by
  simp [State.refuse]
@[simp] theorem State.refuseAt_keepsBounds (status i : Nat) : State.KeepsBounds (s.refuseAt status i).1 s := .of <| by
  simp [State.refuseAt]
@[simp] theorem State.bad_keepsBounds (i : Nat) : State.KeepsBounds (s.bad i).1 s := .of <| by
  simp [State.bad]
@[simp] theorem State.done_keepsBounds (ws : List Word) : State.KeepsBounds (s.done ws).1 s := .of <| by
  simp [State.done]
@[simp] theorem State.answer_keepsBounds {run : State → Answer} (hrun : ∀ z, State.BoundsKept (run z).1 z) (s : State)
    (op : Nat) (ws : List Word) : State.KeepsBounds (s.answer op ws run).1 s := .of <| by
  unfold State.answer
  split
  · simp
  · split
    · simp
    · split
      · simp
      · exact hrun s
@[simp] theorem State.toCommit_keepsBounds (n dt : Nat) : State.KeepsBounds (s.toCommit n dt) s := .of <| by
  simp [State.toCommit]
@[simp] theorem State.taken_keepsBounds (n : Nat) : State.KeepsBounds (s.taken n) s := .of <| by
  simp [State.taken]
@[simp] theorem State.garbage_keepsBounds : State.KeepsBounds s.garbage s := .of <| by
  simp [State.garbage]
@[simp] theorem State.execute_boundsKept {run : State → Answer} (hrun : ∀ z, State.BoundsKept (run z).1 z) (s : State)
    (n : Nat) (seq : Byte) (op : Nat) (ws : List Word) : State.KeepsBounds (s.execute n seq op ws run) s := .of <| by
  simp [State.execute, hrun]
@[simp] theorem State.commitRequest_keepsBounds {run : State → Answer} (hrun : ∀ z, State.BoundsKept (run z).1 z)
    (s : State) (n : Nat) (seq : Byte) (op : Nat) (ws : List Word) :
    State.KeepsBounds (s.commitRequest n seq op ws run) s := .of <| by
  simp [State.commitRequest, hrun]
@[simp] theorem State.serve_keepsBounds {run : State → Answer} (hrun : ∀ z, State.BoundsKept (run z).1 z) (s : State)
    (h : Hdr) (op : Nat) (ws : List Word) : State.KeepsBounds (s.serve h op ws run) s := .of <| by
  simp [State.serve, hrun]

@[simp] theorem State.readyRun_keepsBounds {s : State} {ok : Answer} (hok : State.BoundsKept ok.1 s) (u i : Nat) :
    State.KeepsBounds (s.readyRun u i ok).1 s :=
  .of (State.readyRun_keeps (P := fun z => State.BoundsKept z s) (.refl s) hok u i)
@[simp] theorem State.unlessDraining_keepsBounds {s : State} {ok : Answer} (hok : State.BoundsKept ok.1 s) (u i : Nat) :
    State.KeepsBounds (s.unlessDraining u i ok).1 s := .of <| by
  unfold State.unlessDraining
  split
  · simp
  · exact hok

/-! ### Housekeeping -/

@[simp] theorem State.doPoll_keepsBounds (ws : List Word) : State.KeepsBounds (State.doPoll ws s).1 s := .of <| by
  unfold State.doPoll
  dsimp only
  repeat' split
  all_goals simp
@[simp] theorem State.doPower_keepsBounds (ws : List Word) : State.KeepsBounds (State.doPower ws s).1 s := .of <| by
  simp [State.doPower, State.powerUnit]
@[simp] theorem State.doReset_keepsBounds (ws : List Word) : State.KeepsBounds (State.doReset ws s).1 s := .of <| by
  simp [State.doReset]
@[simp] theorem State.doState_keepsBounds (ws : List Word) : State.KeepsBounds (State.doState ws s).1 s := .of <| by
  simp [State.doState]
@[simp] theorem State.doLogRead_keepsBounds (ws : List Word) : State.KeepsBounds (State.doLogRead ws s).1 s := .of <| by
  simp [State.doLogRead]
theorem clearLog_length_le (bound : Word) : ∀ (e : Word) (l : List Event), (clearLog bound e l).length ≤ l.length
  | _, [] => Nat.le_refl _
  | e, x :: t => by
    unfold clearLog
    split
    · exact (clearLog_length_le bound (e + 1) t).trans (Nat.le_succ _)
    · exact Nat.le_refl _
/-- LOG_CLEAR drops entries of the log (R320). -/
theorem State.doLogClear_boundsKept (ws : List Word) : State.BoundsKept (State.doLogClear ws s).1 s := by
  refine ⟨fun ⟨hl, hb⟩ => ⟨?_, hb⟩, .refl _⟩
  simp only [State.doLogClear, State.done_eq]
  split
  · exact Nat.zero_le _
  · exact (clearLog_length_le ..).trans hl
@[simp] theorem State.doLogClear_keepsBounds (ws : List Word) : State.KeepsBounds (State.doLogClear ws s).1 s :=
  .of (s.doLogClear_boundsKept ws)
@[simp] theorem State.dueRestart_keepsBounds (cause n : Nat) : State.KeepsBounds (s.dueRestart cause n) s := .of <| by
  simp [State.dueRestart]
@[simp] theorem State.doSoftReset_keepsBounds (n : Nat) (ws : List Word) :
    State.KeepsBounds (State.doSoftReset n ws s).1 s := .of <| by
  simp [State.doSoftReset]

/-! ### Jobs -/

@[simp] theorem State.doPlanLoad_keepsBounds (ws : List Word) :
    State.KeepsBounds (State.doPlanLoad ws s).1 s := .of <| by
  unfold State.doPlanLoad
  dsimp only
  repeat' split
  all_goals simp
@[simp] theorem State.doPlanSwap_keepsBounds (ws : List Word) :
    State.KeepsBounds (State.doPlanSwap ws s).1 s := .of <| by
  unfold State.doPlanSwap
  repeat' split
  all_goals simp
@[simp] theorem State.doRegionLoad_keepsBounds (ws : List Word) :
    State.KeepsBounds (State.doRegionLoad ws s).1 s := .of <| by
  simp [State.doRegionLoad]
@[simp] theorem State.doRegionSwap_keepsBounds (ws : List Word) :
    State.KeepsBounds (State.doRegionSwap ws s).1 s := .of <| by
  unfold State.doRegionSwap
  split <;> simp
@[simp] theorem State.doCoefLoad_keepsBounds (ws : List Word) :
    State.KeepsBounds (State.doCoefLoad ws s).1 s := .of <| by
  unfold State.doCoefLoad
  split <;> simp
@[simp] theorem State.doCoefSwap_keepsBounds (ws : List Word) :
    State.KeepsBounds (State.doCoefSwap ws s).1 s := .of <| by
  unfold State.doCoefSwap
  split <;> simp
@[simp] theorem State.doConvert_keepsBounds (ws : List Word) : State.KeepsBounds (State.doConvert ws s).1 s := .of <| by
  simp [State.doConvert]
@[simp] theorem State.doArm_keepsBounds (ws : List Word) : State.KeepsBounds (State.doArm ws s).1 s := .of <| by
  simp [State.doArm]
@[simp] theorem State.readSpace_keepsBounds (x1 : Bool) (addr n : Nat) (ecc : Ecc) :
    State.KeepsBounds (s.readSpace x1 addr n ecc).1 s := .of <| by
  simp [State.readSpace]
@[simp] theorem State.doRead_keepsBounds (ws : List Word) (ecc : Ecc) :
    State.KeepsBounds (State.doRead ws ecc s).1 s := .of <| by
  simp [State.doRead]
@[simp] theorem State.doCapture_keepsBounds (ws : List Word) (ecc : Ecc) :
    State.KeepsBounds (State.doCapture ws ecc s).1 s := .of <| by
  simp [State.doCapture]
@[simp] theorem State.doFuseRead_keepsBounds (ws : List Word) :
    State.KeepsBounds (State.doFuseRead ws s).1 s := .of <| by
  simp [State.doFuseRead]
@[simp] theorem State.program_keepsBounds (op : Nat) (counter : Option Nat) (bits : List (Nat × Nat)) :
    State.KeepsBounds (s.program op counter bits).1 s := .of <| by
  unfold State.program
  dsimp only
  repeat' split
  all_goals simp
@[simp] theorem State.doFuseProg_keepsBounds (ws : List Word) :
    State.KeepsBounds (State.doFuseProg ws s).1 s := .of <| by
  simp [State.doFuseProg]
@[simp] theorem State.doAdvance_keepsBounds (ws : List Word) : State.KeepsBounds (State.doAdvance ws s).1 s := .of <| by
  simp [State.doAdvance]
@[simp] theorem State.drawRandom_keepsBounds (n : Nat) : State.KeepsBounds (s.drawRandom n) s := .of <| by
  simp [State.drawRandom]
@[simp] theorem State.queueRandom_keepsBounds (n : Nat) (got : List Byte) :
    State.KeepsBounds (s.queueRandom n got).1 s :=
  .of (State.readyRun_keeps (P := fun z => State.BoundsKept z s) (.refl s) (by simp) 0x05 0)
@[simp] theorem State.doRandom_keepsBounds (tr : Nat) (ws : List Word) :
    State.KeepsBounds (State.doRandom tr ws s).1 s := .of <| by
  simp [State.doRandom]

/-! ### Images and unlock -/

@[simp] theorem State.doImageOpen_keepsBounds (ws : List Word) :
    State.KeepsBounds (State.doImageOpen ws s).1 s := .of <| by
  simp [State.doImageOpen]
@[simp] theorem State.doImageWrite_keepsBounds (ws : List Word) (slow : Bool) :
    State.KeepsBounds (State.doImageWrite ws slow s).1 s := .of <| by
  simp [State.doImageWrite]
@[simp] theorem State.doImageVerify_keepsBounds (ws : List Word) :
    State.KeepsBounds (State.doImageVerify ws s).1 s := .of <| by
  simp [State.doImageVerify]
@[simp] theorem State.imgRefused_keepsBounds (status : Nat) : State.KeepsBounds (s.imgRefused status).1 s := .of <| by
  simp [State.imgRefused]
@[simp] theorem State.doImageActivate_keepsBounds (n : Nat) (ws : List Word) :
    State.KeepsBounds (State.doImageActivate n ws s).1 s := .of <| by
  unfold State.doImageActivate
  split <;> simp
@[simp] theorem State.doChallenge_keepsBounds : State.KeepsBounds s.doChallenge.1 s := .of <| by
  simp [State.doChallenge, State.topUp]
@[simp] theorem State.doResponse_keepsBounds (ws : List Word) :
    State.KeepsBounds (State.doResponse ws s).1 s := .of <| by
  simp [State.doResponse]
@[simp] theorem State.doUnlock_keepsBounds (ws : List Word) : State.KeepsBounds (State.doUnlock ws s).1 s := .of <| by
  simp [State.doUnlock]

/-! ### Parameters -/

@[simp] theorem State.getParam_keepsBounds (id sub : Nat) : State.KeepsBounds (s.getParam id sub).1 s := .of <| by
  simp [State.getParam, State.afterGet]
@[simp] theorem State.doGet_keepsBounds (ws : List Word) : State.KeepsBounds (State.doGet ws s).1 s := .of <| by
  unfold State.doGet
  split <;> simp
@[simp] theorem State.writeAction_keepsBounds (id : Nat) (w : Word) :
    State.KeepsBounds (s.writeAction id w) s := .of <| by
  simp [State.writeAction, State.clearCounters, State.pushTx]
@[simp] theorem State.armAutobaud_keepsBounds (u : Nat) (w : Word) :
    State.KeepsBounds (s.armAutobaud u w) s := .of <| by
  simp [State.armAutobaud]
@[simp] theorem State.resumeTx_keepsBounds (u : Nat) : State.KeepsBounds (s.resumeTx u) s := .of <| by
  simp [State.resumeTx]
@[simp] theorem State.writeNow_keepsBounds (id sub : Nat) (w : Word) :
    State.KeepsBounds (s.writeNow id sub w) s := .of <| by
  unfold State.writeNow
  dsimp only
  repeat' split
  all_goals simp
@[simp] theorem State.putNow_keepsBounds (id sub : Nat) (w : Word) :
    State.KeepsBounds (s.putNow id sub w) s := .of <| by
  simp [State.putNow]
@[simp] theorem State.without_keepsBounds (xs : List Setting) : State.KeepsBounds (s.without xs) s := .of <| by
  simp [State.without]
@[simp] theorem State.checkValue_keepsBounds {s : State} {ok : Answer} (hok : State.BoundsKept ok.1 s) (z : State)
    (sets : List Setting) (d id sub : Nat) (w : Word) (vi : Nat) :
    State.KeepsBounds (s.checkValue z sets d id sub w vi ok).1 s := .of <| by
  simp [State.checkValue, hok]
@[simp] theorem State.setTick_keepsBounds (id sub : Nat) (w : Word) (vi : Nat) :
    State.KeepsBounds (s.setTick id sub w vi).1 s := .of <| by
  simp [State.setTick]
@[simp] theorem State.setAtOnce_keepsBounds (sets : List Setting) (id sub : Nat) (w : Word) (vi : Nat) :
    State.KeepsBounds (s.setAtOnce sets id sub w vi).1 s := .of <| by
  simp [State.setAtOnce]
@[simp] theorem State.setParam_keepsBounds (id sub : Nat) (w : Word) (vi : Nat) :
    State.KeepsBounds (s.setParam id sub w vi).1 s := .of <| by
  simp [State.setParam]
@[simp] theorem State.doSet_keepsBounds (ws : List Word) : State.KeepsBounds (State.doSet ws s).1 s := .of <| by
  unfold State.doSet
  split <;> simp
@[simp] theorem State.doSetNow_keepsBounds (ws : List Word) : State.KeepsBounds (State.doSetNow ws s).1 s := .of <| by
  unfold State.doSetNow
  split <;> simp
@[simp] theorem State.doSetGroup_keepsBounds (ws : List Word) :
    State.KeepsBounds (State.doSetGroup ws s).1 s := .of <| by
  unfold State.doSetGroup
  dsimp only
  repeat' split
  all_goals simp
@[simp] theorem State.doCancel_keepsBounds (ws : List Word) : State.KeepsBounds (State.doCancel ws s).1 s := .of <| by
  unfold State.doCancel
  dsimp only
  repeat' split
  all_goals simp
@[simp] theorem State.setOne_keepsBounds (h : Hdr) (id : Nat) (w : Word) :
    State.KeepsBounds (s.setOne h id w) s := .of <| by
  simp [State.setOne]
@[simp] theorem State.getOne_keepsBounds (h : Hdr) (id : Nat) : State.KeepsBounds (s.getOne h id) s := .of <| by
  simp [State.getOne]

/-! ### Transactions -/

@[simp] theorem runOpcode_keepsBounds (n op : Nat) (ws : List Word) :
    State.KeepsBounds (runOpcode n op ws s).1 s := .of <| by
  simp [runOpcode]
@[simp] theorem State.finalReply_keepsBounds (n : Nat) (r : Reply) :
    State.KeepsBounds (s.finalReply n r).1 s := .of <| by
  simp [State.finalReply]
@[simp] theorem execReplyReady_boundsKept (p : Prepared) : s.Leads State.BoundsKept (execReplyReady p s) := by
  unfold execReplyReady
  dsimp only
  repeat' split
  all_goals simp

/-! ### The test access port -/

@[simp] theorem State.loadTap_keepsBounds (code : BitVec 8) (captured : BitVec 164) :
    State.KeepsBounds (s.loadTap code captured) s := .of <| by
  simp [State.loadTap]
@[simp] theorem execPrivateDebug_boundsKept (code : BitVec 8) :
    s.Leads State.BoundsKept (execPrivateDebug code s) := by
  unfold execPrivateDebug
  repeat' split
  all_goals simp

end Sys2Proof.Machine
end

section
/-! PROOFS. Every step keeps the bounds of the log, of its buffer and of the jobs (R278, R279, R356, R360, R362): resets, the
programming job, and all commands. -/

namespace Sys2Proof.Machine

variable (s : State)

/-! ### Resets and the programming job -/

@[simp] theorem State.interrupt_keepsBounds (hard : Bool) : State.KeepsBounds (s.interrupt hard) s := .of <| by
  rw [s.interrupt_sameButStored hard]
  exact .refl s

/-- A start begins with an empty log, or with the one before it, and with no job (R151, R279). -/
@[simp] theorem State.freshStart_keepsBounds (hard : Bool) : State.KeepsBounds (s.freshStart hard) s :=
  .of <| by
  refine ⟨?_, fun _ => ⟨Nat.zero_le _, Nat.zero_le _⟩⟩
  cases hard with
  | true => exact fun _ => ⟨Nat.zero_le _, Nat.zero_le _⟩
  | false => simp [State.freshStart]

@[simp] theorem State.burnCopy_keepsBounds (c : Nat) (p : Nat × Nat) : State.KeepsBounds (s.burnCopy c p) s := .of <| by
  simp [State.burnCopy]
@[simp] theorem execRstNAssert_boundsKept (ns : Nat) : s.Leads State.BoundsKept (execRstNAssert ns s) := by
  unfold execRstNAssert
  repeat' split
  · simp
  · simp [State.Leads]
  · simp
@[simp] theorem execRestart_boundsKept (bootsel : BitVec 2) : s.Leads State.BoundsKept (execRestart bootsel s) := by
  unfold execRestart
  repeat' split
  all_goals simp
@[simp] theorem execFuseStep_boundsKept (verified : Bool) : s.Leads State.BoundsKept (execFuseStep verified s) := by
  unfold execFuseStep
  dsimp only
  repeat' split
  all_goals simp

/-! ### Commands after a long time -/

/-- Neither the phase nor the clocks bear on a bound. Stated of any state: of one that is reached after millions of cycles
the kernel would compute with their number. -/
theorem State.BoundsKept.phaseAndClocks {z s : State} (h : State.BoundsKept z s) (b : BootSt) (p : PwrSt) :
    State.BoundsKept { z with boot := b, pwr := p } s := h
@[simp] theorem execPhase3Timeout_boundsKept (dt : Nat) : s.Leads State.BoundsKept (execPhase3Timeout dt s) := by
  unfold execPhase3Timeout
  rw [State.leads_next]
  split
  · exact .refl s
  · exact (((s.elapse dt).elapse_boundsKept _).trans (s.elapse_boundsKept dt)).phaseAndClocks _ _
@[simp] theorem execPllRestart_boundsKept : s.Leads State.BoundsKept (execPllRestart s) := by
  unfold execPllRestart
  rw [State.leads_next]
  repeat' split
  · exact .refl s
  · exact .refl s
  · exact .refl s
  · exact (s.elapse_boundsKept _).phaseAndClocks _ _

/-! ### Commands -/

/-- The commands that store to no memory keep the bounds; first those that have a lemma of their own. -/
theorem exec_boundsKept_of_storesNothing (i : Instr) (hi : storesNothing i = true) :
    s.Leads State.BoundsKept (exec i s) := by
  unfold exec
  cases i with
  | filtOutput | ttPulse | triggerReady | resultWordDelivery | captureTimeout | acellSat | dacPortWrite | dacHeldLatch
      | dacOutputResume | calRotateSwap | coldStep | coldSpareSwap | convCalTimeout | regionLoadStep | fabPortInputWord
      | transportReplySend | uartStartBit | xoffSend | uartAutobaud | linHeader | uartFabricWrite | uartFabricHandoff
      | rngHealthFail | rngRetestEnd | sinterScanDone | missedEdge | replyReady | privateDebug | fuseStep
      | phase3Timeout | pllRestart =>
    simp
  | fumaLogTake => simp [execFumaLogTake]
  | fevEdge => simp [execFevEdge]
  | amtxSwitchClose | cellPowerUp | cellSettled | comparatorEdge | shHold | shTrackReturn | cellDozePowerUp
      | dacCompliance =>
    simp [execAmtxSwitchClose, execCellPowerUp, execCellSettled, execComparatorEdge, execShHold, execShTrackReturn,
      execCellDozePowerUp, execDacCompliance]
  | wireClamp | clampRelease | clampSwitchReturn => simp [execWireClamp, execClampRelease, execClampSwitchReturn]
  | fabScrubFix | fabExtClockLost => simp [execFabScrubFix, execFabExtClockLost]
  | sramScrubStep | sramEccUncorr => simp [execSramScrubStep, execSramEccUncorr]
  | spiFrameStart | spiFirstByte | spiFrameEnd | gapTimeout =>
    simp [execSpiFrameStart, execSpiFirstByte, execSpiFrameEnd, execGapTimeout]
  | uartCharComplete | uartRxIdle | uartTxChar | uartTxContend | autobaudAbandon | linBreak | linResponseTimeout
      | linPublishResponse =>
    simp [execUartCharComplete, execUartRxIdle, execUartTxChar, execUartTxContend, execAutobaudAbandon, execLinBreak,
      execLinResponseTimeout, execLinPublishResponse]
  | rngTake | rngRecovered | drbgReseed | drbgGenerate =>
    simp [execRngTake, execRngRecovered, execDrbgReseed, execDrbgGenerate]
  | powerUp | referencesSettled => simp [execPowerUp, execReferencesSettled]
  | pwrPllUnlock | pwrPllRelock | pllRelock => simp [execPwrPllUnlock, execPwrPllRelock, execPllRelock]
  | tickPulse | tickEdge | guardExpiry => simp [execTickPulse, execTickEdge, execGuardExpiry]
  | tapReset | extest | idcode | samplePreload | clamp | highz | bypass =>
    simp [execTapReset, execExtest, execIdcode, execSamplePreload, execClamp, execHighz, execBypass]
  | _ => exact absurd hi Bool.false_ne_true

/-- So do the commands that can store to a memory. -/
theorem exec_boundsKept_of_stores (i : Instr) (hi : storesNothing i = false) : s.Leads State.BoundsKept (exec i s) := by
  unfold exec
  cases i with
  | wakeFail | overbudget | filtEmit | seqStart | ringWrite | captureWord | dacUpdate | wireCheck | wireCheckFinish
      | calRotate | fabricStrobe | fabricStrobeDone | regionFreezeEnd | fabricSramRequest | dmaBurst | dmaBurstComplete
      | dmaStreamWord | geyserDrain | drainComplete | imageEraseDone | imageWriteDone | imageVerifyDone | rstNAssert
      | restart =>
    simp
  | wakeComplete | stateSkew => simp [execWakeComplete, execStateSkew]
  | fabConfigUpset => simp [execFabConfigUpset]
  | dmaAutoBurst | geyserBackgroundDrain | xspiPattern =>
    simp [execDmaAutoBurst, execGeyserBackgroundDrain, execXspiPattern]
  | markerBlockErase => simp [execMarkerBlockErase]
  | rstNRelease | sinterDelivery | pllLock | trimReread | slotAttempt | slotAttemptTimeout =>
    simp [execRstNRelease, execSinterDelivery, execPllLock, execTrimReread, execSlotAttempt, execSlotAttemptTimeout]
  | tickBoundary => simp [execTickBoundary]
  | ident | status | poll | echo | nop | unitPowerOn | unitPowerOff | unitReset | unitState | logRead | logClear
      | softReset =>
    simp [execIdent, execStatus, execPoll, execEcho, execNop, execUnitPowerOn, execUnitPowerOff, execUnitReset,
      execUnitState, execLogRead, execLogClear, execSoftReset]
  | planLoad | planSwap | regionLoad | regionSwap | coefLoad | coefSwap | convert | captureArm | captureRead | fuseRead
      | fuseProg | counterRead | counterAdvance | random =>
    simp [execPlanLoad, execPlanSwap, execRegionLoad, execRegionSwap, execCoefLoad, execCoefSwap, execConvert,
      execCaptureArm, execCaptureRead, execFuseRead, execFuseProg, execCounterRead, execCounterAdvance, execRandom]
  | imageOpen | imageWrite | imageVerify | imageActivate | imageInfo | debugUnlockChallenge | debugUnlockResponse =>
    simp [execImageOpen, execImageWrite, execImageVerify, execImageActivate, execImageInfo, execDebugUnlockChallenge,
      execDebugUnlockResponse]
  | get | set | setNow | setGroup | cancelPending | tickCountLoRead | tickCntClr | hostCntClr | sinterScan | ringRdWrite
      | dmaHeadWrite | rxPop | txPush | autobaudArm | secRelock | alertLatchClear | txContendClear =>
    simp [execGet, execSet, execSetNow, execSetGroup, execCancelPending, execTickCountLoRead, execTickCntClr,
      execHostCntClr, execSinterScan, execRingRdWrite, execDmaHeadWrite, execRxPop, execTxPush, execAutobaudArm,
      execSecRelock, execAlertLatchClear, execTxContendClear]
  | requestCommit => simp [execRequestCommit]
  | _ => exact absurd hi.symm Bool.false_ne_true

/-- No command exceeds a bound. -/
theorem exec_boundsKept (i : Instr) : s.Leads State.BoundsKept (exec i s) := by
  cases hi : storesNothing i with
  | true => exact exec_boundsKept_of_storesNothing s i hi
  | false => exact exec_boundsKept_of_stores s i hi

/-- A step runs a command, or lets one cycle pass. -/
theorem step_boundsKept : s.Leads State.BoundsKept (step s) := by
  unfold step
  split
  · simp
  · next c rest _ => exact exec_boundsKept { s with pending := rest } c

theorem State.logOk_iff : s.logOk = true ↔ s.fuma.fits := by simp [State.logOk, FumaSt.fits]
theorem State.jobsOk_iff : s.jobsOk = true ↔ s.jobs.fits := by simp [State.jobsOk, JobSt.fits]

/-- Settles O57: no command and no cycle exceeds a bound that holds (`step_boundsKept`). -/
theorem stepKeepsBounds : Obligations.StepKeepsBounds := by
  intro s t ht
  obtain ⟨hlog, hjobs⟩ := step_boundsKept s t ht
  rw [State.logOk_iff, State.logOk_iff, State.jobsOk_iff, State.jobsOk_iff]
  exact ⟨hlog, hjobs⟩

end Sys2Proof.Machine
end

section
/-! PROOFS. Requests that the checks before their work decide, or whose work only answers: ECHO and NOP (R282), a SET of
a bad value or of a read-only parameter (R286), and a LEN out of its opcode's range (R271). -/

namespace Sys2Proof.Machine

/-! ### ECHO and NOP -/

/-- A ready request comes from a transport that is served, so the device works (R116). -/
theorem State.alive_of_ready {s : State} {h : Hdr} (hr : s.ready h = true) : s.alive = true := by
  simp only [State.ready, State.hears, Bool.and_eq_true] at hr
  obtain ⟨⟨⟨⟨hserved, -⟩, -⟩, -⟩, -⟩ := hr
  by_contra hdead
  simp [State.served, State.toCommit, State.alive] at hserved
  simp [State.alive] at hdead
  simp [hdead] at hserved

/-- Settles O4: the work of both is done in the phases that answer them, and leaves the state at the commit point. -/
theorem echoAndNopReply : Obligations.EchoAndNopReply := by
  intro s h ws hr
  refine ⟨fun hrel hl => ?echo, fun hl => ?nop⟩
  case echo =>
    exact congrArg _ (State.serve_run hr hrel (by decide) (by decide) (l := (0, 254)) rfl (Nat.zero_le _) hl _)
  case nop =>
    have ha : (s.atCommit h).answers 0x7F = true := by
      simpa [State.answers, State.alive] using State.alive_of_ready hr
    refine congrArg _ ((State.serve_replying hr (by decide) (by decide) ws _).trans ?_)
    rw [State.answer_run ha (l := (0, 255)) rfl (Nat.zero_le _) hl]
    rfl

/-! ### A value that is out of range, and a parameter that is read only -/

section BadValue

variable {s : State} {id sub : Nat} {w : Word} (hbad : valueOk id sub w = false) (vi : Nat)
include hbad

theorem State.checkValue_bad (z : State) (sets : List Setting) (d : Nat) (ok : Answer) :
    s.checkValue z sets d id sub w vi ok = s.bad vi := by
  simp [State.checkValue, hbad]

theorem State.setParam_bad (hro : readOnly id = false) : s.setParam id sub w vi = s.bad vi := by
  unfold State.setParam State.setTick State.setAtOnce
  simp only [hro, Bool.false_eq_true, if_false, State.checkValue_bad hbad]
  split <;> rfl

end BadValue

/-- SET refuses a bad value by the index of its word, and a read-only parameter by that of its ID (R286). -/
theorem State.setParam_refuses {s : State} {id sub : Nat} {w : Word}
    (hbad : readOnly id = true ∨ valueOk id sub w = false) (vi : Nat) : ∃ i, s.setParam id sub w vi = s.bad i := by
  by_cases hro : readOnly id = true
  · exact ⟨0, if_pos hro⟩
  · exact ⟨vi, State.setParam_bad (hbad.resolve_left hro) vi (Bool.eq_false_of_not_eq_true hro)⟩

/-- So does SET_NOW. -/
theorem State.doSetNow_refuses {s : State} {ws : List Word} {id sub : Nat} (ht : targetOf ws 1 = .inr (id, sub))
    (hbad : readOnly id = true ∨ valueOk id sub (ws.getLastD 0) = false) : ∃ i, State.doSetNow ws s = s.bad i := by
  simp only [State.doSetNow, ht]
  split
  · exact ⟨0, rfl⟩
  · next hok =>
    have hro : readOnly id ≠ true := fun hro => hok (by simp [hro])
    exact ⟨_, State.checkValue_bad (hbad.resolve_left hro) ..⟩

/-- Settles O8: both requests come to a refusal of the state at the commit point. -/
theorem badValueChangesNothing : Obligations.BadValueChangesNothing := by
  intro s h ws id sub hr hrel k ht h1 h2 hbad
  refine ⟨?set, ?setNow⟩
  case set =>
    obtain ⟨i, hi⟩ := State.setParam_refuses (s := k) hbad (ws.length - 1)
    refine ⟨i, congrArg _ ((State.serve_set hr hrel ht h1 h2).trans ?_)⟩
    rw [hi]
    rfl
  case setNow =>
    obtain ⟨i, hi⟩ := State.doSetNow_refuses (s := k) ht hbad
    refine ⟨i, congrArg _ ((State.serve_run hr hrel (by decide) (by decide) (l := (2, 3)) rfl h1 h2 _).trans ?_)⟩
    rw [hi]
    rfl

/-! ### A LEN out of range -/

/-- An opcode that is answered and whose LEN is out of its range comes to 0xFF, whatever its work is. -/
theorem State.answer_badLen {s : State} {op : Nat} {ws : List Word} {run : State → Answer} {l : Nat × Nat}
    (ha : s.answers op = true) (hl : opcodeLen op = some l) (hlen : ws.length < l.1 ∨ l.2 < ws.length) :
    s.answer op ws run = s.bad 0xFF := by
  simp [State.answer, ha, hl, hlen]

/-- Settles O16: check 7 of Table CMD-4 decides before any work. -/
theorem lenOutsideRangeIsRefused : Obligations.LenOutsideRangeIsRefused := by
  intro s tr dt bs l h op hf hc hr ha hl hlen
  refine (execRequestCommit_serve hf hc).trans (congrArg _ (State.serve_refused hr (by decide) (by decide) ?_))
  exact State.answer_badLen ha hl hlen

end Sys2Proof.Machine
end

section
/-! PROOFS. The words of a request as their fields, and UNIT_POWER, UNIT_RESET, LOG_CLEAR, LOG_READ and SOFT_RESET
(R292, R293, R319, R320, R283). -/

namespace Sys2Proof.Machine

/-! ### A request that is ready -/

/-- The reply and the effects of a ready request of a released device are those of its work at the commit point. -/
theorem State.serve_acts {s : State} {h : Hdr} (hr : s.ready h = true) (hrel : s.released = true) {op : Nat}
    {ws : List Word} (hop : (op != 0x48 && op != 0x60 &&
      (opcodeLen op).any fun l => decide (l.1 ≤ ws.length) && decide (ws.length ≤ l.2)) = true)
    {run : State → Answer} {t : State} {status : Nat} {rs : List Word} (hrun : run (s.atCommit h) = (t, status, rs)) :
    (Host.Outcome.next (s.serve h op ws run) : Host.Outcome State Fault Refusal) =
      .next (t.replying h op status rs) := by
  simp only [Bool.and_eq_true, bne_iff_ne, Option.any_eq_true, decide_eq_true_eq] at hop
  obtain ⟨⟨hrandom, hlogRead⟩, l, hl, hmin, hmax⟩ := hop
  rw [State.serve_run hr hrel hrandom hlogRead hl hmin hmax, hrun]

/-! ### The fields of a request's word -/

/-- A field of a number that fits in a word. -/
theorem Word.bits_of {n : Nat} (hn : n < 2 ^ 32) (i len : Nat) : (Word.of n).bits i len = n / 2 ^ i % 2 ^ len := by
  rw [Word.bits, Word.toNat_of_lt hn]

/-- A word of two fields has no stray bit where the mask holds both fields. -/
theorem stray_fields {lo hi a k b mask : Nat} (hlo : lo < 2 ^ a) (hhi : hi < 2 ^ b) (hak : a ≤ k)
    (hmask : ∀ i < 32, i < a ∨ (k ≤ i ∧ i < k + b) → mask.testBit i = true) :
    stray (Word.of (lo + hi * 2 ^ k)) mask = false := by
  have hlok : lo < 2 ^ k := hlo.trans_le (Nat.pow_le_pow_right (by decide) hak)
  have hsum : lo + hi * 2 ^ k = 2 ^ k * hi + lo := by ring
  refine stray_eq_false fun i hi32 hbit => hmask i hi32 ?_
  rw [Word.of, BitVec.getLsbD_ofNat, hsum, Nat.testBit_two_pow_mul_add _ hlok, Bool.and_eq_true] at hbit
  obtain ⟨-, hbit⟩ := hbit
  split at hbit
  · exact .inl (bitIndex_lt hlo hbit)
  · have := bitIndex_lt hhi hbit
    omega

/-! ### The units at a commit point and as a unit drains -/

@[simp] theorem State.atCommit_units (s : State) (h : Hdr) : (s.atCommit h).units = s.units := by
  have key : ∀ z n, (State.taken z n).units = z.units := by
    intro z n
    unfold State.taken
    simp only
    split <;> rfl
  exact (key _ _).trans (State.elapse_units ..)

theorem State.atCommit_unitsWf {s : State} (hs : s.sound = true) (h : Hdr) : wfMap {} (s.atCommit h).units = true := by
  simp only [State.sound, State.formsWf, State.unitsWf, Bool.and_eq_true] at hs
  obtain ⟨⟨⟨⟨⟨⟨-, hunits⟩, -⟩, -⟩, -⟩, -⟩, -⟩ := hs
  simpa using hunits

theorem State.unit_setUnit {s : State} (hs : wfMap {} s.units = true) (u j : Nat) (x : UnitSt) :
    (s.setUnit u x).unit j = if j = u then x else s.unit j := lookup_insert hs u j x

@[simp] theorem State.landReplies_units (s : State) (before : Nat) : (s.landReplies before).units = s.units :=
  State.each_proj (p := fun z => z.units)
    (fun z f => by
      unfold State.landReply
      split <;> rfl) _ _

@[simp] theorem State.dropFlights_units (s : State) (p : Flight → Bool) : (s.dropFlights p).units = s.units :=
  State.each_proj (p := fun z => z.units) (fun _ _ => State.bump_units ..) _ _

@[simp] theorem State.endFade_units (s : State) (f : Nat) : (s.endFade f).units = s.units :=
  State.emit_units ..

@[simp] theorem State.refreshHold_units (s : State) (boundary : Bool) : (s.refreshHold boundary).units = s.units := by
  unfold State.refreshHold
  split
  · rfl
  · exact State.each_proj (p := fun z => z.units) (fun _ _ => State.emit_units ..) _ _

/-- A unit that begins to drain leaves every unit's state to the transition. -/
theorem State.onLeave_draining_units (s : State) (u : Nat) : (s.onLeave u .draining).units = s.units := by
  unfold State.onLeave
  split
  · rfl
  · split
    · simp only [if_true]
      split <;> simp [State.bumpBy]
    · split
      · simp [State.leaveReplies]
      · rfl

theorem State.unit_of_units {z s : State} (hz : z.units = s.units) (u : Nat) : z.unit u = s.unit u := by
  rw [State.unit, hz, State.unit]

/-- What a unit is once it has gone to DRAINING (R345). -/
def State.drained (s : State) (u : Nat) : UnitSt :=
  let x := s.unit u
  let e := if x.st = .running then x.epoch + 1 else x.epoch
  { x with
    st := .draining, next := none, epoch := e, epoch0 := if s.cyc = 0 then e else x.epoch0
    checkT := s.now + if s.cyc = 0 then 128 else 0 }

theorem State.goState_draining_units (s : State) (u cause : Nat) :
    (s.goState u .draining cause).units = insert {} s.units u (s.drained u) := by
  have hleave : (if (s.unit u).st = .running then s.onLeave u .draining else s).units = s.units := by
    split
    · exact State.onLeave_draining_units s u
    · rfl
  have hunit := State.unit_of_units hleave u
  simp [State.goState, State.drained, State.setUnit, hleave, hunit]

/-- A drain of a READY or RUNNING unit leaves its destination pending. -/
theorem State.drainUnit_unit {s : State} (hs : wfMap {} s.units = true) {u : Nat} (hsk : (s.unit u).skewed = false)
    (hst : (s.unit u).st = .ready ∨ (s.unit u).st = .running) (off : Bool) :
    (s.drainUnit u off).unit u = { s.drained u with
      next := some (if off then .off else .waking, if off then 2 else 1), restart := !off } := by
  have hgo := State.goState_draining_units s u (if off then 2 else 1)
  have hwf : wfMap {} (s.goState u .draining (if off then 2 else 1)).units = true := hgo ▸ wfMap_insert hs u _
  have hu : (s.goState u .draining (if off then 2 else 1)).unit u = s.drained u := by
    rw [State.unit, hgo, lookup_insert hs, if_pos rfl]
  rcases hst with hst | hst <;>
    simp only [State.drainUnit, hsk, hst, Bool.false_eq_true, if_false] <;>
    rw [State.unit_of_units (State.refreshHold_units ..), State.unit_setUnit hwf, if_pos rfl, hu]

/-- UNIT_POWER on wakes an OFF unit at the next boundary (R293). -/
theorem State.powerUnit_off (s : State) {u : Nat} (hst : (s.unit u).st = .off) (hsk : (s.unit u).skewed = false) :
    s.powerUnit u = s.setUnit u { s.unit u with next := some (.waking, 2), restart := false } :=
  if_pos ⟨hst, by simp [hsk]⟩

/-! ### The reply of UNIT_POWER and UNIT_RESET -/

/-- The word for a unit with a state pending for the next boundary (R293). -/
theorem State.unitWord_of_next {s : State} {u : Nat} {n : UState × Nat} (hfix : fixedUnit u = false)
    (hsk : (s.unit u).skewed = false) (hafter : (s.unit u).after = none) (hnext : (s.unit u).next = some n) :
    s.unitWord u = Word.of ((s.unit u).epoch.toNat + n.1.code * 2 ^ 8) := by
  simp [State.unitWord, State.stateAfter, hfix, hsk, hafter, hnext]

/-- The word of UNIT_POWER on: the unit number and bit 8. -/
theorem powerWord_on {u : Nat} (hu : u < 256) : ∃ w, powerWord (BitVec.ofNat 8 u) true = [w] ∧ w.bits 0 8 = u ∧
    w.bit 8 = true ∧ stray w 0x1FF = false := by
  refine ⟨Word.of (u + 1 * 2 ^ 8), by simp [powerWord, Nat.mod_eq_of_lt hu], ?_, ?_, ?_⟩
  · rw [Word.bits_of (by omega)]
    omega
  · have hlow := Nat.testBit_two_pow_mul_add (i := 8) 1 hu 8
    rw [Word.bit, Word.of, BitVec.getLsbD_ofNat, add_comm, Nat.mul_comm, hlow]
    simp
  · exact stray_fields (a := 8) (b := 1) hu (by decide) (by decide) (by decide)

theorem powerWord_off_bit {u : Nat} (hu : u < 256) : (Word.of u).bit 8 = false := by
  rw [Word.bit, Word.of, BitVec.getLsbD_ofNat, Nat.testBit_lt_two_pow hu, Bool.and_false]

section UnitRequests

variable {s : State} {u : Nat} (hu : u < 256) (hunit : isUnit u = true) (hfix : fixedUnit u = false)
include hu hunit hfix

theorem State.doPower_on (hst : (s.unit u).st = .off) :
    State.doPower (powerWord (BitVec.ofNat 8 u) true) s = (s.powerUnit u).done [(s.powerUnit u).unitWord u] := by
  obtain ⟨w, hw, hbits, hbit, hstray⟩ := powerWord_on hu
  simp [State.doPower, hw, hbits, hbit, hstray, hunit, hfix, State.unlessDraining, hst]

theorem State.doPower_off (hst : (s.unit u).st = .ready ∨ (s.unit u).st = .running) :
    State.doPower (powerWord (BitVec.ofNat 8 u) false) s =
      (s.drainUnit u true).done [(s.drainUnit u true).unitWord u] := by
  obtain ⟨hword, hstray⟩ := powerWord_off hu
  obtain ⟨hbits, -⟩ := unitStateWord_fields hu
  rcases hst with hst | hst <;>
    simp [State.doPower, State.unlessDraining, hword, hbits, hstray, powerWord_off_bit hu, hunit, hfix, hst]

theorem State.doReset_drains (hst : (s.unit u).st = .ready ∨ (s.unit u).st = .running) :
    State.doReset [Word.of u] s = (s.drainUnit u false).done [(s.drainUnit u false).unitWord u] := by
  obtain ⟨hbits, hstray⟩ := unitStateWord_fields hu
  rcases hst with hst | hst <;>
    simp [State.doReset, State.unlessDraining, hbits, hstray, hunit, hfix, hst]

end UnitRequests

/-! ### The log -/

theorem State.doLogClear_all (s : State) :
    State.doLogClear [0xFFFFFFFF] s = ({ s with fuma := { s.fuma with log := [] } } : State).done [] := rfl

/-- A reading LOG_READ keeps its words for the reply (R374). -/
theorem State.serve_logRead {s : State} {h : Hdr} (hr : s.ready h = true) (hrel : s.released = true) {w n : Word}
    {rs : List Word} (hrun : State.doLogRead [w, n] (s.atCommit h) = (s.atCommit h).done rs) :
    exec (.logRead h [w, n]) s = .next ((s.atCommit h).replying h 0x60 stDone rs [w, n]) := by
  have ha : (s.atCommit h).answer 0x60 [w, n] (State.doLogRead [w, n]) = (s.atCommit h).done rs :=
    (State.answer_run (State.answers_released (by simpa using hrel) _) (l := (2, 2)) rfl (by simp) (by simp)).trans hrun
  refine congrArg _ ((State.serve_ready hr ..).trans ?_)
  rw [ha]
  rfl

/-- LOG_READ of the number that comes next returns it and no entry (R319). -/
theorem State.doLogRead_next {s : State} {n : Nat} (h0 : 0 < n) (hn : n < 64) :
    State.doLogRead [s.reg 0x0601, Word.of n] s = s.done [s.reg 0x0601, Word.of (s.fuma.log.length * 2 ^ 16)] := by
  have hw : (Word.of n).toNat = n := Word.toNat_of_lt (by omega)
  have hcount : ¬ (n = 0 ∨ 63 < n) := by omega
  simp [State.doLogRead, hw, hcount]

/-- LOG_READ of the oldest number returns the entries from the oldest on (R319). -/
theorem State.doLogRead_oldest {s : State} {n : Nat} {e : Event} {rest : List Event} (h0 : 0 < n) (hn : n < 64)
    (hlog : s.fuma.log = e :: rest) (hlen : rest.length < 512) :
    State.doLogRead [s.reg 0x0601 - Word.of (rest.length + 1), Word.of n] s =
      s.done ([s.reg 0x0601 - Word.of (rest.length + 1),
        Word.of (min n (rest.length + 1) + (rest.length + 1) * 2 ^ 16)] ++
          ((e :: rest).take n).flatMap Event.words) := by
  have hw : (Word.of n).toNat = n := Word.toNat_of_lt (by omega)
  have hcount : ¬ (n = 0 ∨ 63 < n) := by omega
  have hd : (s.reg 0x0601 - (s.reg 0x0601 - Word.of (rest.length + 1))).toNat = rest.length + 1 := by
    rw [sub_sub_cancel, Word.toNat_of_lt (by omega)]
  have hfar : ¬ 2 ^ 31 ≤ rest.length + 1 := by omega
  simp only [State.doLogRead, List.getD_cons_zero, List.getD_cons_succ, hw, hd, hlog, List.length_cons]
  rw [if_neg hcount, if_neg (by omega), if_pos le_rfl]
  simp

/-! ### SOFT_RESET -/

theorem State.doSoftReset_key {s : State} (hres : s.boot.restart = none) (n : Nat) :
    State.doSoftReset n [0x0000A5A5] s =
      ({ s with boot := { s.boot with restart := some (1, n) } } : State).done [] := by
  have hdue : s.dueRestart 1 n = { s with boot := { s.boot with restart := some (1, n) } } := if_neg (by simp [hres])
  rw [← hdue]
  rfl

/-! ### The obligation -/

/-- Settles O10: the work of each request, on the state at its commit point. -/
theorem houseRequestsAct : Obligations.HouseRequestsAct := by
  refine ⟨?units, ?house⟩
  case units =>
    intro s h u hs hr hrel hu hunit hfix k x hsk hafter
    have hwf : wfMap {} k.units = true := State.atCommit_unitsWf hs h
    refine ⟨fun hst => ⟨_, ?on, k.powerUnit_off hst hsk⟩, fun hst => ?drains⟩
    case on =>
      have hx : (k.powerUnit u).unit u = { x with next := some (.waking, 2), restart := false } := by
        rw [State.powerUnit_off k hst hsk, State.unit_setUnit hwf, if_pos rfl]
      have hword : (k.powerUnit u).unitWord u = Word.of (x.epoch.toNat + 1 * 2 ^ 8) := by
        rw [State.unitWord_of_next hfix (n := (.waking, 2)) (by rw [hx]; exact hsk) (by rw [hx]; exact hafter)
          (by rw [hx]), hx]
        rfl
      exact hword ▸ State.serve_acts hr hrel rfl (State.doPower_on hu hunit hfix hst)
    case drains =>
      have hx := State.drainUnit_unit hwf hsk hst
      have hword : ∀ off, (k.drainUnit u off).unitWord u =
          Word.of (((k.drainUnit u off).unit u).epoch.toNat + (if off then 0 else 1) * 2 ^ 8) := fun off => by
        rw [State.unitWord_of_next hfix (by rw [hx]; exact hsk) (by rw [hx]; exact hafter) (by rw [hx])]
        cases off <;> rfl
      refine ⟨⟨k.drainUnit u true, ?off, ?offUnit⟩, ⟨k.drainUnit u false, ?reset, ?resetUnit⟩⟩
      case off =>
        refine (State.serve_acts hr hrel rfl (State.doPower_off hu hunit hfix hst)).trans ?_
        rw [hword]
        rfl
      case reset =>
        refine (State.serve_acts hr hrel rfl (State.doReset_drains hu hunit hfix hst)).trans ?_
        rw [hword]
        rfl
      all_goals
        rw [hx]
        exact ⟨rfl, rfl, rfl, rfl⟩
  case house =>
    intro s h hr hrel k
    refine ⟨?clear, fun n h0 hn => ?next, fun n e rest h0 hn hlog hlen => ?oldest, fun hres => ?soft,
      fun w hw => ?wrongKey⟩
    case clear => exact State.serve_acts hr hrel rfl (State.doLogClear_all k)
    case next => exact State.serve_logRead hr hrel (State.doLogRead_next h0 hn)
    case oldest => exact State.serve_logRead hr hrel (State.doLogRead_oldest h0 hn hlog hlen)
    case soft => exact State.serve_acts hr hrel rfl (State.doSoftReset_key hres _)
    case wrongKey => exact State.serve_reads hr hrel rfl (if_neg hw)

end Sys2Proof.Machine
end

section
/-! PROOFS. Requests for plans, regions and coefficients (R295, R296, R298 to R302). -/

namespace Sys2Proof.Machine

/-! ### Requests that start a job -/

/-- A request whose work starts a job is QUEUED with the job's number and its opcode (R278). -/
theorem State.serve_queues {s : State} {h : Hdr} (hr : s.ready h = true) (hrel : s.released = true) {op : Nat}
    {ws : List Word} (hop : (op != 0x48 && op != 0x60 &&
      (opcodeLen op).any fun l => decide (l.1 ≤ ws.length) && decide (ws.length ≤ l.2)) = true)
    {run : State → Answer} {kind : JobKind} (hrun : run (s.atCommit h) = (s.atCommit h).queued op kind) :
    let j := (s.atCommit h).startJob op kind
    (Host.Outcome.next (s.serve h op ws run) : Host.Outcome State Fault Refusal) =
      .next (j.1.replying h op stQueued [Word.of (j.2 + op * 2 ^ 8)]) :=
  State.serve_acts hr hrel hop hrun

/-! ### Plans -/

theorem State.doPlanLoad_of {s : State} {ws : List Word} (h0 : 0 < (ws.getD 1 0).toNat)
    (hmax : (ws.getD 1 0).toNat ≤ 64) (hlen : ws.length = 2 + 3 * (ws.getD 1 0).toNat) (hswap : s.planSwapAt = none)
    (herr : s.loadError [] (planItems (ws.drop 2)) 2 = none) :
    State.doPlanLoad ws s = ({ s with tick := { s.tick with
      shadow := some { id := ws.getD 0 0, items := (planItems (ws.drop 2)).map Prod.fst } } } : State).done [] := by
  have hcount : ¬ ((ws.getD 1 0).toNat = 0 ∨ 64 < (ws.getD 1 0).toNat) := by omega
  simp only [State.doPlanLoad]
  rw [if_neg hcount, if_neg (not_not.2 hlen), hswap, herr]
  rfl

theorem State.doPlanSwap_of {s : State} {p : Plan} {w : Word} {at_ : Nat} (hp : s.tick.shadow = some p)
    (hat : s.boundaryOf w = some at_) (hfit : s.swapFits (s.dist at_) p = true) (hjobs : s.jobs.running.length < 8)
    (hfree : (s.jobs.running.any fun j => match j.kind with
      | .planSwap .. => true
      | _ => false) = false) :
    State.doPlanSwap [p.id, w] s = s.queued 0x29 (.planSwap p.id at_) := by
  simp only [State.doPlanSwap, hp, List.getD_cons_zero, List.getD_cons_succ, hat, ne_eq, not_true_eq_false, if_false,
    hfit, Bool.not_true, Bool.false_eq_true]
  exact s.enqueue_of hjobs hfree

/-! ### Regions -/

/-- The words of a region request: the region's number, source 0 and no stray bit. -/
theorem regionWord_fields : ∀ r < 8, (Word.of r).bits 0 3 = r ∧ (Word.of r).bit 8 = false ∧
    stray (Word.of r) 0x107 = false ∧ stray (Word.of r) 7 = false := by decide

theorem State.doRegionLoad_of {s : State} {r : Nat} (hr : r < 8)
    (hst : (s.unit (0x20 + r)).st = .ready ∨ (s.unit (0x20 + r)).st = .running) (hjobs : s.jobs.running.length < 8)
    (hfree : (s.jobs.running.any fun j => JobKind.onRegion r j.kind) = false) (hflash : s.reg 0x3A01 ≠ 0)
    (himg : s.imageJob = none) :
    let j := s.startJob 0x30 (.regionLoad r false 0 (max 1 (s.loadImage r false).length))
    State.doRegionLoad [Word.of r] s =
      (j.1.setRegion r { j.1.regionOf r with shadow := none, complete := false, loading := true }, stQueued,
        [Word.of (j.2 + 0x30 * 2 ^ 8)]) := by
  obtain ⟨hbits, hsource, hstray, -⟩ := regionWord_fields r hr
  have hopen : ¬ (s.reg 0x3A01 = 0 ∨ s.imageJob.isSome = true ∨
      (false = true ∧ (!(s.img.vS.good && s.img.vS.code == 1)) = true)) := by
    rw [himg]
    exact fun hshut => hshut.elim hflash (by simp)
  simp only [State.doRegionLoad, List.getD_cons_zero, hbits, hsource, hstray, s.readyRun_of hst,
    s.enqueue_of hjobs hfree]
  exact (if_neg (by decide)).trans (if_neg hopen)

theorem State.doRegionSwap_of {s : State} {r at_ : Nat} {w : Word} (hr : r < 8)
    (hst : (s.unit (0x20 + r)).st = .ready ∨ (s.unit (0x20 + r)).st = .running) (hjobs : s.jobs.running.length < 8)
    (hfree : (s.jobs.running.any fun j => JobKind.onRegion r j.kind) = false)
    (hshadow : (s.regionOf r).complete = true) (hat : s.boundaryOf w = some at_) :
    State.doRegionSwap [Word.of r, w] s = s.queued 0x31 (.regionSwap r at_) := by
  obtain ⟨hbits, -, -, hstray⟩ := regionWord_fields r hr
  simp [State.doRegionSwap, hbits, hstray, hshadow, hat, s.readyRun_of hst, s.enqueue_of hjobs hfree]

/-! ### Coefficients -/

/-- The first word of a COEF_LOAD: the chain, the bank and the first tap, and no stray bit. -/
theorem coefWord_fields {f bank first : Nat} (hf : f < 8) (hbank : bank < 2) (hfirst : first < 64) :
    let w := Word.of (f + bank * 8 + first * 2 ^ 8)
    w.bits 0 3 = f ∧ w.bits 3 1 = bank ∧ w.bits 8 6 = first ∧ stray w 0x3F0F = false := by
  have hw : f + bank * 8 + first * 2 ^ 8 < 2 ^ 32 := by omega
  simp only [Word.bits_of hw]
  refine ⟨by omega, by omega, by omega, stray_fields (a := 4) (b := 6) (by omega) hfirst (by decide) (by decide)⟩

/-- Coefficients of at most 18 bits are accepted (R300). -/
theorem badCoef_eq_none {w : Word} {cs : List Word} (hcs : ∀ c ∈ cs, c.toNat < 2 ^ 18) :
    badCoef (w :: cs) = none := by
  refine List.find?_eq_none.2 fun i hi => ?_
  cases i with
  | zero => simp
  | succ i =>
    have hi' : i < cs.length := by simpa using hi
    have hmask : ∀ i < 18, Nat.testBit 0x3FFFF i = true := by decide
    have hstray : stray cs[i] 0x3FFFF = false := stray_eq_false fun b _ hb =>
      hmask b (bitIndex_lt (hcs _ (List.getElem_mem hi')) (by rwa [BitVec.testBit_toNat]))
    simp [hi', hstray]

theorem State.doCoefLoad_of {s : State} {f bank first : Nat} {cs : List Word} (hf : f < 8) (hbank : bank < 2)
    (hlen : first + cs.length ≤ 64) (hne : cs ≠ []) (hcs : ∀ c ∈ cs, c.toNat < 2 ^ 18)
    (hst : (s.unit (0x10 + f)).st = .ready) (hcross : s.regBit ((0x10 + f) * 256 + 0x0B) 0 0 = false) :
    State.doCoefLoad (Word.of (f + bank * 8 + first * 2 ^ 8) :: cs) s =
      (s.setFilt f { s.filtOf f with coef := putCoefs (s.filtOf f).coef (64 * bank + first) cs }).done [] := by
  have hpos : 0 < cs.length := List.length_pos_iff.2 hne
  obtain ⟨hchain, hb, hfirst, hstray⟩ := coefWord_fields hf hbank (show first < 64 by omega)
  generalize Word.of (f + bank * 8 + first * 2 ^ 8) = w at *
  have hrun : s.isRunning (0x10 + f) = false := by simp [State.isRunning, hst]
  have hready := State.readyRun_of (s := s) (u := 0x10 + f) (.inl hst)
  have hrange : ¬ 63 < first := by omega
  have hcount : ¬ 63 < first + (cs.length + 1) - 2 := by omega
  simp [State.doCoefLoad, hchain, hb, hfirst, hstray, hcross, badCoef_eq_none hcs, hrun, hready, hrange, hcount]

theorem State.doCoefSwap_of {s : State} {f at_ : Nat} {w : Word} (hf : f < 8)
    (hst : (s.unit (0x10 + f)).st = .ready) (hcross : s.regBit ((0x10 + f) * 256 + 0x0B) 0 0 = false)
    (hat : s.boundaryOf w = some at_) (hpend : s.regBit ((0x10 + f) * 256 + 0x11) 0 1 = false)
    (hjobs : s.jobs.running.length < 8)
    (hfree : (s.jobs.running.any fun j => match j.kind with
      | .coefSwap g _ => g == f
      | _ => false) = false) :
    State.doCoefSwap [Word.of f, w] s = s.queued 0x35 (.coefSwap f at_) := by
  obtain ⟨hbits, -, -, hstray⟩ := regionWord_fields f hf
  have hrun : s.isRunning (0x10 + f) = false := by simp [State.isRunning, hst]
  simp only [State.doCoefSwap, List.getD_cons_zero, List.getD_cons_succ, hbits, hstray, hat, hpend, hcross, hrun,
    s.readyRun_of (u := 0x10 + f) (.inl hst)]
  exact s.enqueue_of (clash := fun kind => match kind with
    | .coefSwap g _ => g == f
    | _ => false) hjobs hfree

/-! ### The obligation -/

/-- Settles O11: the work of each request, on the state at its commit point. -/
theorem swapRequestsQueue : Obligations.SwapRequestsQueue := by
  refine ⟨fun s h hr hrel => ⟨?planLoad, ?planSwap⟩, ?regions, ?chains⟩
  case planLoad =>
    intro ws hmin hmax h0 hcount hlen hswap herr
    exact State.serve_acts hr hrel (by simp [opcodeLen, hmin, hmax]) (State.doPlanLoad_of h0 hcount hlen hswap herr)
  case planSwap =>
    intro p w at_ hp hat hfit hjobs hfree
    exact State.serve_queues hr hrel rfl (State.doPlanSwap_of hp hat hfit hjobs hfree)
  case regions =>
    intro s h r hr hrel hlt k hst hjobs hfree
    refine ⟨fun hflash himg => ?load, fun w at_ hshadow hat => ?swap⟩
    case load => exact State.serve_acts hr hrel rfl (State.doRegionLoad_of hlt hst hjobs hfree hflash himg)
    case swap => exact State.serve_queues hr hrel rfl (State.doRegionSwap_of hlt hst hjobs hfree hshadow hat)
  case chains =>
    intro s h f hr hrel hlt k u hst hcross
    refine ⟨fun bank first cs hbank hlen hne hcs => ⟨_, ?load, rfl⟩, fun w at_ hat hpend hjobs hfree => ?swap⟩
    case load =>
      have hpos : 0 < cs.length := List.length_pos_iff.2 hne
      exact State.serve_acts hr hrel (by simp [opcodeLen]; omega)
        (State.doCoefLoad_of hlt hbank hlen hne hcs hst hcross)
    case swap => exact State.serve_queues hr hrel rfl (State.doCoefSwap_of hlt hst hcross hat hpend hjobs hfree)

end Sys2Proof.Machine
end

section
/-! PROOFS. CONVERT and CAPTURE (R303, R305, R307). -/

namespace Sys2Proof.Machine

/-! ### CONVERT -/

/-- The word of CONVERT: the sequencer, the entry, and no stray bit. -/
theorem convertWord_fields : ∀ n < 2, ∀ e < 32, (Word.of (n + e * 2 ^ 8)).bits 0 1 = n ∧
    (Word.of (n + e * 2 ^ 8)).bits 8 5 = e ∧ stray (Word.of (n + e * 2 ^ 8)) 0x1F01 = false := by decide

theorem State.doConvert_of {s : State} {n e : Nat} (hn : n < 2) (he : e < 32)
    (hst : (s.unit (seqUnit n)).st = .ready ∨ (s.unit (seqUnit n)).st = .running) :
    State.doConvert [Word.of (n + e * 2 ^ 8)] s =
      (if s.dozeTick then s else (s.issueTrig n 101 e (s.regN (seqUnit n * 256 + 2)) none).1).done
        [s.tick.count.setWidth 32] := by
  obtain ⟨hseq, hentry, hstray⟩ := convertWord_fields n hn e he
  simp only [State.doConvert, List.getD_cons_zero, hseq, hentry, hstray, s.readyRun_of hst]
  rfl

/-! ### CAPTURE -/

/-- The first word of an arming CAPTURE: action 0, the converter, the entry, and no stray bit. -/
theorem armWord_fields : ∀ (c : Side) (e : Fin 32), let w := Word.of (sideN c * 16 + e.val * 256)
    w.bits 0 2 = 0 ∧ (if w.bit 4 then Side.b else .a) = c ∧ w.bits 8 5 = e.val ∧ stray w 0x1F13 = false
  | .a => by decide
  | .b => by decide

theorem State.doCapture_arms {s : State} {c : Side} {e : Fin 32} {addr count t : Word} (halign : addr.toNat % 8 = 0)
    (haddr : addr.toNat < 0x800000) (hcount : 0 < count.toNat) (hmax : count.toNat ≤ 1048576)
    (hend : addr.toNat + 4 * count.toNat ≤ 0x800000) (ht : 0 < t.toNat) (htmax : t.toNat ≤ 65535)
    (hblocked : s.captureBlocked ⟨.capture, 0, false, addr.toNat, 4 * count.toNat⟩ = false)
    (hst : (s.unit (convUnit (sideN c))).st = .ready ∨ (s.unit (convUnit (sideN c))).st = .running)
    (hjobs : s.jobs.running.length < 8)
    (hfree : (s.jobs.running.any fun j => match j.kind with
      | .capture q .. => q == c
      | _ => false) = false) :
    State.doCapture (armWords c e addr count t) .clean s =
      s.queued 0x39 (.capture c e.val addr.toNat count.toNat 0 (s.countAt t.toNat)) := by
  obtain ⟨haction, hconv, hentry, hstray⟩ := armWord_fields c e
  have ha : ¬ (addr.toNat % 8 ≠ 0 ∨ sramBytes ≤ addr.toNat) := by simp only [sramBytes]; omega
  have hn : ¬ (count.toNat = 0 ∨ 1048576 < count.toNat ∨ sramBytes < addr.toNat + 4 * count.toNat) := by
    simp only [sramBytes]; omega
  have htime : ¬ (t.toNat = 0 ∨ 65535 < t.toNat) := by omega
  have harm : State.doArm (armWords c e addr count t) s =
      s.queued 0x39 (.capture c e.val addr.toNat count.toNat 0 (s.countAt t.toNat)) := by
    simp only [State.doArm, armWords, List.getD_cons_zero, List.getD_cons_succ, hconv, hentry, hstray]
    rw [if_neg (by decide), if_neg ha, if_neg hn, if_neg htime, hblocked, if_neg (by decide), s.readyRun_of hst]
    exact s.enqueue_of (clash := fun kind => match kind with
      | .capture q .. => q == c
      | _ => false) hjobs hfree
  simp only [State.doCapture, armWords, List.getD_cons_zero, haction] at harm ⊢
  exact harm

/-- The first word of a reading CAPTURE: action 1, the space, and no stray bit. -/
theorem readWord_fields : ∀ x1 : Bool, let w := Word.of (1 + x1.toNat * 16)
    w.bits 0 2 = 1 ∧ w.bit 4 = x1 ∧ stray w 0x13 = false := by decide

theorem State.doCapture_reads {s : State} {x1 : Bool} {addr count : Word} (halign : addr.toNat % 4 = 0)
    (hcount : 0 < count.toNat) (hmax : count.toNat ≤ 254)
    (hend : addr.toNat + 4 * count.toNat ≤ if x1 then s.psramBytes else sramBytes)
    (hrun : s.isRunning (if x1 then 0x3B else 0x3C) = true) :
    State.doCapture [Word.of (1 + x1.toNat * 16), addr, count] .clean s =
      let r := s.readSpace x1 addr.toNat count.toNat .clean
      r.1.done r.2 := by
  obtain ⟨haction, hspace, hstray⟩ := readWord_fields x1
  simp only [State.isRunning, Bool.and_eq_true, beq_iff_eq, Bool.not_eq_true'] at hrun
  obtain ⟨hst, hsk⟩ := hrun
  generalize Word.of (1 + x1.toNat * 16) = w at *
  have ha : ¬ (addr.toNat % 4 ≠ 0 ∨ (if x1 then s.psramBytes else sramBytes) ≤ addr.toNat) := by omega
  have hn : ¬ (count.toNat = 0 ∨ 254 < count.toNat ∨
      (if x1 then s.psramBytes else sramBytes) < addr.toNat + 4 * count.toNat) := by omega
  have hlen : [w, addr, count].length = 3 := rfl
  simp only [State.doCapture, State.doRead, List.getD_cons_zero, List.getD_cons_succ, haction, hspace, hstray]
  rw [if_neg (by decide), if_neg (by decide), if_pos hlen, if_neg (by decide), if_neg ha, if_neg hn,
    if_neg (by rw [hst]; decide), if_neg (by rw [hst]; decide), hsk, if_neg (by decide)]

theorem readWords_length (f : Nat → Byte) : ∀ a n, (readWords f a n).length = n
  | _, 0 => rfl
  | a, n + 1 => congrArg (· + 1) (readWords_length f (a + 4) n)

/-- A clean read of words that are not poisoned delivers them and changes nothing (R734, R735). -/
theorem State.readSram_clean {s : State} {src n : Nat} (hn : 0 < n)
    (hpoison : ∀ w, src / 8 ≤ w → w ≤ (src + 4 * n - 1) / 8 → lookup false s.mem.poison w = false) :
    s.readSram src n .clean = (s, readWords s.sramByte src n) := by
  have hnone : s.uncorrWords src n .clean = [] := by
    refine List.filter_eq_nil_iff.2 fun w hw => ?_
    simp only [List.mem_map, List.mem_range] at hw
    obtain ⟨i, hi, rfl⟩ := hw
    simp [eccHits, hpoison (src / 8 + i) (Nat.le_add_right ..) (by omega)]
  have hwords : ((List.range n).zip ((readWords s.sramByte src n).zip (s.freeWords n))).map (fun p => p.2.1) =
      readWords s.sramByte src n := by
    have hfree : (s.freeWords n).length = n := by simp [State.freeWords]
    have hlen := readWords_length s.sramByte src n
    rw [show (fun p : Nat × Word × Word => p.2.1) = Prod.fst ∘ Prod.snd from rfl, ← List.map_map,
      List.map_snd_zip (by simp [hfree, hlen]), List.map_fst_zip (by simp [hfree, hlen])]
  simp only [State.readSram, hnone, eccHits, Bool.false_eq_true, if_false, List.foldl_nil, hwords]

theorem State.doCapture_readsSram {s : State} {addr count : Word} (halign : addr.toNat % 4 = 0)
    (hcount : 0 < count.toNat) (hmax : count.toNat ≤ 254) (hrun : s.isRunning 0x3C = true)
    (hend : addr.toNat + 4 * count.toNat ≤ sramBytes)
    (hpoison : ∀ w, addr.toNat / 8 ≤ w → w ≤ (addr.toNat + 4 * count.toNat - 1) / 8 →
      lookup false s.mem.poison w = false) :
    State.doCapture [Word.of (1 + false.toNat * 16), addr, count] .clean s =
      s.done (readWords s.sramByte addr.toNat count.toNat) := by
  rw [State.doCapture_reads (x1 := false) halign hcount hmax hend hrun, State.readSpace, if_pos (by decide),
    State.readSram_clean hcount hpoison]

theorem State.doCapture_readsPsram {s : State} {addr count : Word} (halign : addr.toNat % 4 = 0)
    (hcount : 0 < count.toNat) (hmax : count.toNat ≤ 254) (hrun : s.isRunning 0x3B = true)
    (hend : addr.toNat + 4 * count.toNat ≤ s.psramBytes) :
    State.doCapture [Word.of (1 + true.toNat * 16), addr, count] .clean s =
      (s.countBytes true (4 * count.toNat)).done (readWords s.psramByte addr.toNat count.toNat) := by
  rw [State.doCapture_reads (x1 := true) halign hcount hmax (by rwa [if_pos rfl]) (by rwa [if_pos rfl]),
    State.readSpace, if_neg (by decide), if_neg (by decide)]

/-- Settles O12: the work of each request, on the state at its commit point. -/
theorem convertAndCaptureAct : Obligations.ConvertAndCaptureAct := by
  intro s h hr hrel k
  refine ⟨?convert, ?arm, fun addr count halign hcount hmax => ⟨?sram, ?psram⟩⟩
  case convert =>
    intro n e hn he hst
    exact State.serve_acts hr hrel rfl (State.doConvert_of hn he hst)
  case arm =>
    intro c e addr count t halign haddr hcount hmax hend ht htmax hblocked hst hjobs hfree
    exact State.serve_queues hr hrel rfl
      (State.doCapture_arms halign haddr hcount hmax hend ht htmax hblocked hst hjobs hfree)
  case sram =>
    intro hrun hend hpoison
    exact State.serve_acts hr hrel rfl (State.doCapture_readsSram halign hcount hmax hrun hend hpoison)
  case psram =>
    intro hrun hend
    exact State.serve_acts hr hrel rfl (State.doCapture_readsPsram halign hcount hmax hrun hend)

end Sys2Proof.Machine
end

section
/-! PROOFS. FUSE_PROG and COUNTER_ADVANCE (R309, R311, R190, R192, R196). -/

namespace Sys2Proof.Machine

/-! ### A programming job -/

/-- A job that has started, and what its request changes besides. -/
theorem State.queued_then {s : State} {a : Answer} {op : Nat} {kind : JobKind} (ha : a = s.queued op kind)
    (f : State → State) :
    let j := s.startJob op kind
    (if a.2.1 = stQueued then (f a.1, a.2) else a) = (f j.1, stQueued, [Word.of (j.2 + op * 2 ^ 8)]) := by
  subst ha
  exact if_pos rfl

section Program

variable {s : State} (hmay : s.mayProgram = true) {op : Nat} {counter : Option Nat} {bits : List (Nat × Nat)}
include hmay

/-- Nothing is left to program: DONE at once (R190, R192). -/
theorem State.program_none (hbits : s.fuseJob counter bits = none) : s.program op counter bits = s.done [] := by
  simp [State.program, hmay, hbits]

/-- The job starts, and SINTER.PROG_RESULT reads QUEUED (R196, R219). -/
theorem State.program_starts (hjobs : s.jobs.running.length < 8) {f : FuseJob}
    (hbits : s.fuseJob counter bits = some f) :
    let j := s.startJob op (.fuse f)
    s.program op counter bits = (j.1.setReg 0x0307 0 1, stQueued, [Word.of (j.2 + op * 2 ^ 8)]) := by
  have hidle : s.programming = false := by
    simp only [State.mayProgram, Bool.and_eq_true, Bool.not_eq_true'] at hmay
    exact hmay.2
  have hqueued := s.enqueue_of (op := op) (kind := .fuse f) (clash := fun kind => match kind with
    | .fuse _ => true
    | _ => false) hjobs hidle
  simp only [State.program, hmay, hbits]
  exact (if_neg (by decide)).trans (State.queued_then hqueued fun z => z.setReg 0x0307 0 1)

end Program

/-! ### FUSE_PROG -/

/-- Rows 48 to 63 are programmed without a check of their own (R160, R189). -/
theorem State.fuseRefusal_user (s : State) {row : Nat} (hmin : 48 ≤ row) (mask : Word) :
    s.fuseRefusal row mask = 0 := by
  have hfree : ¬ (row < 16 ∨ (mask ≠ 0 ∧ ((32 ≤ row ∧ row < 48) ∨ (20 ≤ row ∧ row < 24)))) := by omega
  rw [State.fuseRefusal, if_neg hfree, if_pos (by omega)]

theorem State.doFuseProg_user (s : State) {row : Nat} (hmin : 48 ≤ row) (hmax : row < 64) (mask : Word) :
    State.doFuseProg [Word.of row, mask] s =
      s.program 0x41 none (((List.range 32).filter fun b => mask.bit b).map fun b => (row, b)) := by
  have hrow : (Word.of row).toNat = row := Word.toNat_of_lt (by omega)
  simp [State.doFuseProg, hrow, s.fuseRefusal_user hmin, stParamBad]
  omega

/-! ### COUNTER_ADVANCE -/

/-- The word of COUNTER_ADVANCE: counter USER0, the target, and no stray bit. -/
theorem advanceWord_fields {target : Nat} (ht : target ≤ 64) : let w := Word.of (2 + target * 2 ^ 8)
    w.bits 0 2 = 2 ∧ w.bits 8 8 = target ∧ stray w 0xFF03 = false := by
  have hw : 2 + target * 2 ^ 8 < 2 ^ 32 := by omega
  simp only [Word.bits_of hw]
  exact ⟨by omega, by omega, stray_fields (a := 2) (b := 8) (by decide) (by omega) (by decide) (by decide)⟩

/-- A target that USER0 has reached burns nothing (R190). -/
theorem State.doAdvance_reached {s : State} {target : Nat} (ht : target ≤ 64) (hval : target ≤ s.counterValue 2) :
    State.doAdvance [Word.of (2 + target * 2 ^ 8)] s = s.done [] := by
  obtain ⟨hcounter, htarget, hstray⟩ := advanceWord_fields ht
  generalize Word.of (2 + target * 2 ^ 8) = w at *
  simp [State.doAdvance, hcounter, htarget, hstray, hval]

theorem State.doAdvance_burns {s : State} {target : Nat} (ht : target ≤ 64) (hval : s.counterValue 2 < target) :
    State.doAdvance [Word.of (2 + target * 2 ^ 8)] s =
      s.program 0x43 (some 2) ((List.range (target - s.counterValue 2)).map fun i =>
        (37 + (s.counterValue 2 + i) / 32, (s.counterValue 2 + i) % 32)) := by
  obtain ⟨hcounter, htarget, hstray⟩ := advanceWord_fields ht
  generalize Word.of (2 + target * 2 ^ 8) = w at *
  have hroom : ¬ 64 < target := by omega
  simp [State.doAdvance, hcounter, htarget, hstray, counterShape, hval, hroom]

/-- Settles O13: the work of both requests, on the state at the commit point. -/
theorem programmingRequestsQueue : Obligations.ProgrammingRequestsQueue := by
  intro s h hr hrel k hmay hjobs
  refine ⟨?fuses, fun target ht => ?counter⟩
  case fuses =>
    intro row mask hmin hmax bits
    have hprog := k.doFuseProg_user hmin hmax mask
    exact ⟨fun hnone => State.serve_acts hr hrel rfl (hprog.trans (State.program_none hmay hnone)),
      fun f hsome => State.serve_acts hr hrel rfl (hprog.trans (State.program_starts hmay hjobs hsome))⟩
  case counter =>
    refine ⟨fun hval => ?reached, fun hval f hsome => ?burns⟩
    case reached => exact State.serve_acts hr hrel rfl (State.doAdvance_reached ht hval)
    case burns =>
      exact State.serve_acts hr hrel rfl
        ((State.doAdvance_burns ht hval).trans (State.program_starts hmay hjobs hsome))

end Sys2Proof.Machine
end

section
/-! PROOFS. RANDOM and DEBUG_UNLOCK (R312, R321, R322, R664, R665). -/

namespace Sys2Proof.Machine

/-! ### RANDOM -/

/-- The reply and the effects of a ready RANDOM of a released device; one that is QUEUED keeps its word (R312). -/
theorem State.serve_random {s : State} {h : Hdr} (hr : s.ready h = true) (hrel : s.released = true) {w : Word}
    {t : State} {status : Nat} {rs : List Word}
    (hrun : State.doRandom (trNum h.tr) [w] (s.atCommit h) = (t, status, rs)) :
    exec (.random h [w]) s = .next (t.replying h 0x48 status rs (if status = stQueued then [w] else [])) := by
  have ha : (s.atCommit h).answer 0x48 [w] (State.doRandom (trNum h.tr) [w]) = (t, status, rs) :=
    (State.answer_run (State.answers_released (by simpa using hrel) _) (l := (1, 1)) rfl (by simp) (by simp)).trans hrun
  have hkeeps : keepsWords 0x48 status = decide (status = stQueued) := by
    by_cases hq : status = stQueued <;> simp [keepsWords, hq]
  refine congrArg _ ((State.serve_ready hr ..).trans ?_)
  simp only [ha, hkeeps, decide_eq_true_eq]

section Random

variable {s : State} {n : Nat} (h0 : 0 < n) (hmax : n ≤ 1012)
  (hst : (s.unit 0x05).st = .ready ∨ (s.unit 0x05).st = .running) (hfit : s.rngUnfit = false)
  (hdoze : s.dozeTick = false)
include h0 hmax hst hfit hdoze

theorem State.doRandom_held (tr : Nat) (hheld : n ≤ s.rng.buf.length) :
    State.doRandom tr [Word.of n] s = (s.drawRandom n).done (packRandom (s.rng.buf.take n)) := by
  have hn : (Word.of n).toNat = n := Word.toNat_of_lt (by omega)
  have hcount : ¬ (n = 0 ∨ 1012 < n) := by omega
  simp [State.doRandom, hn, hcount, s.readyRun_of hst, hfit, hheld, hdoze]

theorem State.doRandom_short (tr : Nat) (hshort : s.rng.buf.length < n)
    (hfree : (s.jobs.running.any fun j => match j.kind with
      | .random .. => true
      | _ => false) = false) :
    let z : State := { s with rng := { s.rng with buf := [] } }
    State.doRandom tr [Word.of n] s = ((z.setTr tr { z.trOf tr with got := s.rng.buf }).refreshRng, stQueued, []) := by
  have hn : (Word.of n).toNat = n := Word.toNat_of_lt (by omega)
  have hcount : ¬ (n = 0 ∨ 1012 < n) := by omega
  have hheld : ¬ (n ≤ s.rng.buf.length ∧ (!s.dozeTick) = true) := by omega
  have hbusy : ¬ (s.jobs.running.any fun j => match j.kind with
      | .random .. => true
      | _ => false) = true := by simp [hfree]
  simp only [State.doRandom, List.getD_cons_zero, hn, s.readyRun_of hst]
  rw [if_neg hcount, hfit, if_neg (by decide), if_neg hheld]
  exact (if_neg hbusy).trans (if_neg (by simp [hdoze]))

end Random

/-! ### DEBUG_UNLOCK -/

theorem State.topUp_held {s : State} (hheld : 16 ≤ s.rng.buf.length) : s.topUp = s :=
  if_neg fun hshort => by omega

theorem State.doUnlock_challenge {s : State} (hrun : s.isRunning 0x05 = true) (hfit : s.rngUnfit = false)
    (hheld : 16 ≤ s.rng.buf.length) :
    let z := s.drawRandom 16
    State.doUnlock [0] s =
      ({ z with sec := { z.sec with nonce := some (s.rng.buf.take 16) } } : State).done
        (s.uid ++ wordsOfBytes (s.rng.buf.take 16)) := by
  have hchallenge : State.doUnlock [0] s = s.doChallenge := rfl
  have hshort : ¬ s.rng.buf.length < 16 := by omega
  simp only [hchallenge, State.doChallenge, hrun, hfit, State.topUp_held hheld]
  exact (if_neg (by decide)).trans ((if_neg (by decide)).trans (if_neg hshort))

/-- The first word of a response: action 1, the slot, the scope, and no stray bit. -/
theorem responseWord_fields : ∀ slot : Bool, ∀ scope < 4, let w := Word.of (1 + slot.toNat * 2 + scope * 256)
    w.bit 0 = true ∧ w.bits 1 1 = slot.toNat ∧ w.bits 8 2 = scope ∧ stray w 0x303 = false := by decide

section Response

variable {s : State} {slot : Bool} {scope : Fin 256} {sig : List Word} (hlen : sig.length = 16) (h0 : 0 < scope.val)
  (hmax : scope.val < 4)
include hlen h0 hmax

theorem State.doUnlock_response : State.doUnlock (responseWords slot scope sig) s =
    let s1 : State := { s with sec := { s.sec with nonce := none } }
    let why := s.unlockReason slot.toNat scope.val sig
    if why = 0 then
      let z : State := { s1 with sec := { s1.sec with scope := s1.sec.scope ||| scope.val, slot := slot.toNat } }
      (z.emit 0x04 evSecUnlock (scope.val + slot.toNat * 4)).done []
    else ((s1.bump 0x0404).emit 0x04 evSecUnlockDenied (slot.toNat * 4 + why * 16)).refuse stDenied := by
  obtain ⟨haction, hslot, hscope, hstray⟩ := responseWord_fields slot scope.val hmax
  have hpos : scope.val ≠ 0 := by omega
  unfold responseWords
  generalize Word.of (1 + slot.toNat * 2 + scope.val * 256) = w at *
  have hwords : ¬ (w :: sig).length ≠ (if w.bit 0 then 17 else 1) := by simp [haction, hlen]
  have hok : ¬ ((false : Bool) = true ∨ scope.val = 0) := by simp [hpos]
  simp only [State.doUnlock, State.doResponse, List.getD_cons_zero, hslot, hscope, hstray, List.drop_one,
    List.tail_cons]
  exact (if_neg hwords).trans ((if_pos haction).trans (if_neg hok))

theorem State.doUnlock_verified (hwhy : s.unlockReason slot.toNat scope.val sig = 0) :
    let z : State := { s with sec := { s.sec with
      nonce := none, scope := s.sec.scope ||| scope.val, slot := slot.toNat } }
    State.doUnlock (responseWords slot scope sig) s = (z.emit 0x04 evSecUnlock (scope.val + slot.toNat * 4)).done [] :=
  (State.doUnlock_response hlen h0 hmax).trans (if_pos hwhy)

theorem State.doUnlock_denied (hwhy : s.unlockReason slot.toNat scope.val sig ≠ 0) :
    let z : State := { s with sec := { s.sec with nonce := none } }
    State.doUnlock (responseWords slot scope sig) s = ((z.bump 0x0404).emit 0x04 evSecUnlockDenied
      (slot.toNat * 4 + s.unlockReason slot.toNat scope.val sig * 16)).refuse stDenied :=
  (State.doUnlock_response hlen h0 hmax).trans (if_neg hwhy)

end Response

/-- Settles O14: the work of each request, on the state at its commit point. -/
theorem randomAndUnlockAct : Obligations.RandomAndUnlockAct := by
  intro s h hr hrel k
  refine ⟨fun n h0 hmax hst hfit hdoze => ⟨fun hheld => ?held, fun hshort hfree => ?short⟩,
    fun hrun hfit hheld => ?challenge, fun slot scope sig hlen h0 hmax => ?response⟩
  case held => exact State.serve_random hr hrel (State.doRandom_held h0 hmax hst hfit hdoze _ hheld)
  case short => exact State.serve_random hr hrel (State.doRandom_short h0 hmax hst hfit hdoze _ hshort hfree)
  case challenge => exact State.serve_acts hr hrel rfl (State.doUnlock_challenge hrun hfit hheld)
  case response =>
    have hop : (17 : Nat) = (responseWords slot scope sig).length := by simp [responseWords, hlen]
    exact ⟨fun hwhy => State.serve_acts hr hrel (hop ▸ rfl) (State.doUnlock_verified hlen h0 hmax hwhy),
      fun hwhy => State.serve_acts hr hrel (hop ▸ rfl) (State.doUnlock_denied hlen h0 hmax hwhy)⟩

end Sys2Proof.Machine
end

section
/-! PROOFS. IMAGE_OPEN, IMAGE_WRITE, IMAGE_VERIFY and IMAGE_ACTIVATE (R314 to R317), and the ends of image jobs and the
erase of a marker block (R314 to R316, R688, R689, R705). -/

namespace Sys2Proof.Machine

/-! ### Erased flash -/

section Maps

variable {α : Type} [DecidableEq α] {d : α}

theorem lookup_filter_from (p : Nat → Bool) (k : Nat) : ∀ {m : List (Nat × α)} {lo : Nat},
    wfFrom d lo m = true → lookup d (m.filter fun c => p c.1) k = if p k then lookup d m k else d
  | [], _, _ => by simp [lookup]
  | (a, x) :: t, lo, hm => by
    simp only [wfFrom, Bool.and_eq_true, decide_eq_true_eq] at hm
    obtain ⟨-, ht⟩ := hm
    have ih := lookup_filter_from p k ht
    have hlow : k ≤ a → lookup d (t.filter fun c => p c.1) k = d := fun hk =>
      lookup_low (by omega) (wfFrom_filter _ ht)
    simp only [List.filter_cons]
    rcases lt_trichotomy k a with hlt | rfl | hgt
    · have hk : k ≤ a := hlt.le
      split <;> simp [lookup, hlt, hlow hk]
    · by_cases hp : p k = true <;> simp [lookup, hp, hlow le_rfl]
    · have hne : k ≠ a := by omega
      have hnlt : ¬ k < a := by omega
      split <;> simp [lookup, hne, hnlt, ih]

/-- A canonical map without the keys that a test drops. -/
theorem lookup_filter {m : List (Nat × α)} (hm : wfMap d m = true) (p : Nat → Bool) (k : Nat) :
    lookup d (m.filter fun c => p c.1) k = if p k then lookup d m k else d := lookup_filter_from p k hm

end Maps

/-- An erased range reads 0xFF, and every other byte stays. -/
theorem State.flashByte_eraseFlash {s : State} (hs : s.memoryWf = true) (a n j : Nat) :
    (s.eraseFlash a n).flashByte j = if a ≤ j ∧ j < a + n then 0xFF else s.flashByte j := by
  obtain ⟨-, -, hflash⟩ := (State.memoryWf_iff s).1 hs
  refine (lookup_filter hflash (fun c => decide (c < a) || decide (a + n ≤ c)) j).trans ?_
  by_cases hin : a ≤ j ∧ j < a + n
  · rw [if_pos hin, if_neg (by simpa using ⟨hin.1, hin.2⟩)]
    rfl
  · rw [if_neg hin, if_pos (by simp; omega)]
    rfl

@[simp] theorem State.endJob_img (s : State) (num status : Nat) (words : List Word) :
    (s.endJob num status words).img = s.img := by
  unfold State.endJob
  split <;> rfl

/-! ### The ends of image jobs -/

section ImageJobs

variable {s : State} {j : Job} (hj : s.imageJob = some j)
include hj

theorem execImageEraseDone_of {t n : Nat} (hk : j.kind = .imageOpen t n) :
    execImageEraseDone s = .next ((s.eraseFlash (targetBase t) (targetSize t)).endJob j.num stDone []) := by
  simp only [execImageEraseDone, hj, hk]

theorem execImageWriteDone_of {a : Nat} {ws : List Word} (hk : j.kind = .imageWrite a ws) :
    execImageWriteDone s = .next ((s.writeFlash a ws).endJob j.num stDone []) := by
  simp only [execImageWriteDone, hj, hk]

theorem execImageVerifyDone_slot {t : Nat} (hk : j.kind = .imageVerify t) (ht : t < 2) :
    let code := s.verifyChecks t false
    execImageVerifyDone false s =
      .next ((s.setVerify t { code := code, good := true }).endJob j.num (verifyStatus code) [Word.of code]) := by
  have hslot : t ≠ 2 := by omega
  simp only [execImageVerifyDone, hj, hk, if_neg hslot]
  rfl

end ImageJobs

/-- A full marker block that does not hold the current marker is erased (R689). -/
theorem execMarkerBlockErase_of {s : State} {block : Bool} (halive : s.alive = true)
    (hcur : (s.marker.any fun m => m.1 / 2048 == block.toNat) = false) (hfull : s.erasedAt block.toNat = none) :
    execMarkerBlockErase block s = .next (s.eraseFlash (0x10000 * block.toNat) 0x10000) := by
  unfold execMarkerBlockErase
  cases hm : s.marker with
  | none => simp [halive, hfull]
  | some m =>
    rw [hm, Option.any_some] at hcur
    simp [halive, hfull, hcur]

/-- Settles O32: each command makes the change its equation names. -/
theorem imageJobsEnd : Obligations.ImageJobsEnd := by
  intro s
  refine ⟨fun j t n hj hk hwf => ?erase, fun j a ws hj hk => ?write, ?verify,
    fun block halive hcur hfull hwf => ?marker⟩
  case erase =>
    refine ⟨_, execImageEraseDone_of hj hk, fun a => ?_⟩
    rw [State.flashByte, State.endJob_img]
    exact State.flashByte_eraseFlash hwf ..
  case write => exact execImageWriteDone_of hj hk
  case verify =>
    rintro j t code hj hk ht rfl
    exact execImageVerifyDone_slot hj hk ht
  case marker =>
    exact ⟨_, execMarkerBlockErase_of halive hcur hfull, fun a => State.flashByte_eraseFlash hwf .., rfl⟩

/-! ### Requests for image work -/

theorem State.doImageOpen_of {s : State} {t n : Nat} (ht : t ≤ 2) (hmin : (openLengths t).1 ≤ n)
    (hmax : n ≤ (openLengths t).2) (hloaded : s.loadedSlot t = false) (hread : s.stagingRead = false)
    (hjobs : s.jobs.running.length < 8) (hfree : (s.jobs.running.any fun j => JobKind.onImage j.kind) = false) :
    let j := s.startJob 0x50 (.imageOpen t n)
    State.doImageOpen [Word.of t, Word.of n] s =
      ((((j.1.setReg 0x0010 0 (Word.of t)).setReg 0x0011 0 0).setReg 0x0012 0 (Word.of n)).setVerify t {}, stQueued,
        [Word.of (j.2 + 0x50 * 2 ^ 8)]) := by
  have htarget : (Word.of t).toNat = t := Word.toNat_of_lt (by omega)
  have hlimit : (openLengths t).2 < 2 ^ 32 := by unfold openLengths; split <;> decide
  have hlen : (Word.of n).toNat = n := Word.toNat_of_lt (by omega)
  have hfits : ¬ (n < (openLengths t).1 ∨ (openLengths t).2 < n) := by omega
  simp only [State.doImageOpen, List.getD_cons_zero, List.getD_cons_succ, htarget, hlen]
  rw [if_neg (by omega), if_neg hfits, hloaded, if_neg (by decide), if_neg (by simp [hread])]
  exact State.queued_then (s.enqueue_of hjobs hfree) fun z =>
    (((z.setReg 0x0010 0 (Word.of t)).setReg 0x0011 0 0).setReg 0x0012 0 (Word.of n)).setVerify t {}

/-- A write that the flash finishes in time (R315). -/
theorem State.doImageWrite_now {s : State} {data : List Word} (hopen : s.regN 0x0010 ≠ 3) (hjob : s.imageJob = none)
    (hfits : s.regN 0x0011 + 4 * data.length ≤ s.regN 0x0012) :
    State.doImageWrite (s.reg 0x0011 :: data) false s =
      (((s.writeBytes State.setFlashByte (targetBase (s.regN 0x0010) + s.regN 0x0011) (data.flatMap Word.bytes)).setReg
        0x0011 0 (Word.of (s.regN 0x0011 + 4 * data.length))).setVerify (s.regN 0x0010) {}, stDone, []) := by
  have hready : ¬ (s.regN 0x0010 = 3 ∨ s.imageJob.isSome = true) := by simp [hopen, hjob]
  have hpointer : ¬ (s.reg 0x0011).toNat ≠ s.regN 0x0011 := not_not.2 rfl
  have hlen : ¬ s.regN 0x0012 < s.regN 0x0011 + 4 * data.length := by omega
  simp only [State.doImageWrite, List.getD_cons_zero, List.drop_one, List.tail_cons]
  rw [if_neg hready, if_neg hpointer, if_neg hlen]
  rfl

theorem State.doImageVerify_of {s : State} {t : Nat} (ht : t ≤ 2)
    (hwritten : ¬ (s.regN 0x0010 = t ∧ s.reg 0x0011 < s.reg 0x0012)) (hjobs : s.jobs.running.length < 8)
    (hfree : (s.jobs.running.any fun j => JobKind.onImage j.kind) = false) :
    State.doImageVerify [Word.of t] s = s.queued 0x52 (.imageVerify t) := by
  have htarget : (Word.of t).toNat = t := Word.toNat_of_lt (by omega)
  simp only [State.doImageVerify, List.getD_cons_zero, htarget]
  rw [if_neg (by omega), if_neg hwritten, s.enqueue_of hjobs hfree]

/-- The activation of a verified slot, at the next record of the marker log (R317, R688). -/
theorem State.doImageActivate_of {s : State} {slot loc : Nat} (hrel : s.released = true) (hslot : slot < 2)
    (hgood : s.verify slot = { code := 1, good := true }) (hmax : manSecver (s.slotManifest slot) ≤ 128)
    (hmin : s.counterValue 0 ≤ manSecver (s.slotManifest slot)) (hloc : s.nextRecord = some loc) (n : Nat) :
    let mseq := (s.marker.map fun m => Word.of (m.2.1 + 1)).getD 1
    State.doImageActivate n [Word.of slot, 0] s =
      ((s.writeBytes State.setFlashByte (markerAddr loc) (recordBytes mseq (slot + 1))).emit 0x00 evImgActivated
        (slot + 1 + mseq.toNat % 2 ^ 24 * 2 ^ 8)).done [] := by
  have htarget : (Word.of slot).toNat = slot := Word.toNat_of_lt (by omega)
  have hmode : (0 : Word).toNat = 0 := rfl
  have hphase : ¬ ((0 : Nat) = 1 ∨ s.boot.phase = .limited) := by
    simp only [State.released, beq_iff_eq] at hrel
    simp [hrel]
  simp only [State.doImageActivate, List.getD_cons_zero, List.getD_cons_succ, htarget, hmode, hgood, hloc]
  rw [if_neg (by omega), if_neg (by decide), if_neg (by simp), if_neg (by omega), if_neg (by omega), if_neg hphase]
  cases s.marker <;> rfl

/-- Settles O15: the work of each request, on the state at its commit point. -/
theorem imageRequestsAct : Obligations.ImageRequestsAct := by
  intro s h hr hrel k
  refine ⟨?openTarget, ?write, ?verify, ?activate⟩
  case openTarget =>
    intro t n ht hmin hmax hloaded hread hjobs hfree
    exact State.serve_acts hr hrel rfl (State.doImageOpen_of ht hmin hmax hloaded hread hjobs hfree)
  case write =>
    intro data hne hlen hopen hjob hfits
    have hpos : 0 < data.length := List.length_pos_iff.2 hne
    exact State.serve_acts hr hrel (by simp [opcodeLen]; omega) (State.doImageWrite_now hopen hjob hfits)
  case verify =>
    intro t ht hwritten hjobs hfree
    exact State.serve_queues hr hrel rfl (State.doImageVerify_of ht hwritten hjobs hfree)
  case activate =>
    rintro slot loc mseq hslot hgood hmax hmin hloc rfl
    have hrel' : k.released = true := by simpa [k] using hrel
    exact State.serve_acts hr hrel rfl (State.doImageActivate_of hrel' hslot hgood hmax hmin hloc _)

end Sys2Proof.Machine
end

section
/-! PROOFS. A cycle that passes, and what the log takes in it (R359, R360, R362). -/

namespace Sys2Proof.Machine

/-! ### What the log takes -/

/-- The log's intake does not read the clock. -/
theorem State.takeEvent_at (s : State) (now cyc : Nat) :
    ({ s with now := now, cyc := cyc } : State).takeEvent = { s.takeEvent with now := now, cyc := cyc } := by
  rcases hb : s.fuma.buf with _ | ⟨e, rest⟩
  · simp only [State.takeEvent, hb]
  · simp only [State.takeEvent, hb, State.bump, State.bumpBy, State.setRegBit, State.regBit, State.setReg, State.reg]
    split_ifs <;> rfl

/-- A register file in canonical form in which one register reads a value. -/
def State.Reads (id : Nat) (v : Word) (t : State) : Prop := t.regsWf = true ∧ t.reg id = v

theorem State.Reads.setReg {id jd : Nat} {v : Word} {t : State} (h : State.Reads id v t)
    (hkey : regKey id 0 ≠ regKey jd 0) (w : Word) : State.Reads id v (t.setReg jd 0 w) := by
  obtain ⟨hwf, hv⟩ := h
  exact ⟨State.regsWf_setReg hwf jd 0 w, by rw [State.reg_setReg hwf, if_neg hkey, hv]⟩

theorem State.Reads.ite {id : Nat} {v : Word} {c : Prop} [Decidable c] {a b : State} (ha : State.Reads id v a)
    (hb : State.Reads id v b) : State.Reads id v (if c then a else b) := by
  split
  · exact ha
  · exact hb

/-- Each entry that the log takes has the next running number (R359). -/
theorem State.takeEvent_count {s : State} (hs : s.regsWf = true) {e : Event} {rest : List Event}
    (hb : s.fuma.buf = e :: rest) : s.takeEvent.reg 0x0601 = s.reg 0x0601 + 1 := by
  have hcount : State.Reads 0x0601 (s.reg 0x0601 + 1) s.takeEvent := by
    simp only [State.takeEvent, hb]
    refine .ite ?taken (.ite (.setReg ?taken (by decide) _) ?taken)
    refine .ite (.setReg ?count (by decide) _) ?count
    exact ⟨State.regsWf_setReg hs _ _ _, State.reg_setReg_same hs _ _ _⟩
  exact hcount.2

/-! ### A cycle passes -/

/-- In one cycle the fabric runs, the clock advances, and the log takes one event (R362). -/
theorem State.elapse_one (s : State) :
    s.elapse 1 = { (s.fabricRun 1).takeEvent with now := s.now + 1, cyc := s.cyc + 1 } := by
  have hrun := s.fabricRun_eq 1
  have hnow : (s.fabricRun 1).now = s.now := by rw [hrun]
  have hcyc : (s.fabricRun 1).cyc = s.cyc := by rw [hrun]
  calc s.elapse 1
      = ({ s.fabricRun 1 with now := (s.fabricRun 1).now + 1, cyc := (s.fabricRun 1).cyc + 1 } : State).takeEvent := rfl
    _ = _ := by rw [State.takeEvent_at, hnow, hcyc]

/-- A fabric without a running clock line stands still. -/
theorem State.fabricRun_stopped {s : State} (h : s.fclk.first = []) (n : Nat) : s.fabricRun n = s := by
  simp [State.fabricRun, h]

/-- Settles O2: an idle step is one cycle, and the fabric stands still where no clock line runs. -/
theorem idleStepIsOneCycle : Obligations.IdleStepIsOneCycle := by
  intro s hidle
  refine ⟨s.elapse 1, by simp only [step, hidle], s.elapse_now 1, s.elapse_cyc 1, s.elapse_eq 1, fun hstop => ?_⟩
  rw [State.elapse_one, State.fabricRun_stopped hstop]
  exact ⟨rfl, rfl, s.takeEvent_region⟩

/-! ### The intake of the log as a command -/

theorem exec_fumaLogTake {s : State} (hb : s.fuma.buf ≠ []) : exec .fumaLogTake s = .next (s.elapse 1) := by
  show execFumaLogTake s = _
  simp [execFumaLogTake, hb]

theorem State.fabricRun_fuma (s : State) (n : Nat) : (s.fabricRun n).fuma = s.fuma := by rw [State.fabricRun_eq]

theorem State.fabricRun_regs (s : State) (n : Nat) : (s.fabricRun n).regs = s.regs := by rw [State.fabricRun_eq]

/-- A cycle with an event in the buffer: the log takes it (R359, R360). -/
theorem State.elapse_one_fuma {s : State} {e : Event} {rest : List Event} (hb : s.fuma.buf = e :: rest) :
    (s.elapse 1).fuma =
      { log := (if s.fuma.log.length = 512 then s.fuma.log.drop 1 else s.fuma.log) ++ [e], buf := rest } := by
  rw [State.elapse_one]
  have htake := State.takeEvent_fuma (s.fabricRun 1) (by rw [State.fabricRun_fuma, hb])
  rwa [State.fabricRun_fuma] at htake

theorem State.elapse_one_count {s : State} (hs : s.regsWf = true) {e : Event} {rest : List Event}
    (hb : s.fuma.buf = e :: rest) : (s.elapse 1).reg 0x0601 = s.reg 0x0601 + 1 := by
  have hwf : (s.fabricRun 1).regsWf = true := by rwa [State.regsWf, State.fabricRun_regs]
  have htake := State.takeEvent_count hwf (by rw [State.fabricRun_fuma, hb])
  rw [State.elapse_one]
  exact htake.trans (by rw [State.reg, State.fabricRun_regs, State.reg])

end Sys2Proof.Machine
end

section
/-! PROOFS. The wakes of units (R340, R342), and a skew that forces a unit into FAULT (R352 to R354). -/

namespace Sys2Proof.Machine

/-! ### The states of units while work stops -/

section Units

@[simp] theorem State.ite_units (c : Prop) [Decidable c] (a b : State) :
    (if c then a else b).units = if c then a.units else b.units := by
  split <;> rfl

@[simp] theorem State.foldl_units {α : Type} {f : State → α → State} (hf : ∀ z a, (f z a).units = z.units)
    (l : List α) (s : State) : (l.foldl f s).units = s.units := State.each_proj (p := fun z => z.units) hf l s

@[simp] theorem State.each_units {α : Type} {f : State → α → State} (hf : ∀ z a, (f z a).units = z.units)
    (l : List α) (s : State) : (s.each l f).units = s.units := State.foldl_units hf l s

@[simp] theorem State.writeBytes_units {f : State → Nat → Byte → State} (hf : ∀ z a b, (f z a b).units = z.units)
    (s : State) (a : Nat) (bs : List Byte) : (s.writeBytes f a bs).units = s.units :=
  State.writeBytes_keeps (P := fun z => z.units = s.units) (fun z a b h => (hf z a b).trans h) bs s a rfl

variable (s : State)

@[simp] theorem State.bumpBy_units (id sub n : Nat) : (s.bumpBy id sub n).units = s.units := rfl

@[simp] theorem State.discard_units (u : Nat) : (s.discard u).units = s.units := by
  simp [State.discard]

@[simp] theorem State.setSramWord_units (a : Nat) (w : Word) : (s.setSramWord a w).units = s.units :=
  State.writeBytes_units (f := State.setSramByte) (fun _ _ _ => rfl) ..
@[simp] theorem State.setPsramWord_units (a : Nat) (w : Word) : (s.setPsramWord a w).units = s.units :=
  State.writeBytes_units (f := State.setPsramByte) (fun _ _ _ => rfl) ..
@[simp] theorem State.spaceWrite_units (xspi : Bool) (a : Nat) (w : Word) : (s.spaceWrite xspi a w).units = s.units := by
  simp [State.spaceWrite]

@[simp] theorem State.cutBurst_units (n : Nat) : (s.cutBurst n).units = s.units := by
  simp [State.cutBurst, State.writeBurst, State.unpoison, State.useFree]

@[simp] theorem State.cutDrain_units (q : Nat) : (s.cutDrain q).units = s.units := by
  unfold State.cutDrain
  dsimp only
  split <;> simp [State.writeDrain, State.useFree]

@[simp] theorem State.dropSeqItem_units (n idx : Nat) : (s.dropSeqItem n idx).units = s.units := by
  simp [State.dropSeqItem, State.dropRun, State.dropRunA]

@[simp] theorem State.dropWireRuns_units (f : WireRun → Bool) : (s.dropWireRuns f).units = s.units := rfl

/-- A plan item that stops leaves every unit's state (Table TICK-3). -/
@[simp] theorem State.dropItem_units (r : RunItem) : (s.dropItem r).units = s.units := by
  unfold State.dropItem
  dsimp only
  repeat' split
  all_goals simp

@[simp] theorem State.discardPort_units (port : Nat) : (s.discardPort port).units = s.units := by
  simp [State.discardPort]

@[simp] theorem State.dropOuts_units (f : Nat) : (s.dropOuts f).units = s.units := by
  simp [State.dropOuts]

/-- A unit that leaves RUNNING leaves every unit's state to the transition. -/
@[simp] theorem State.onLeave_units (u : Nat) (dst : UState) : (s.onLeave u dst).units = s.units := by
  unfold State.onLeave
  dsimp only
  split_ifs <;> simp [State.leaveReplies, State.abandonRuns, State.stopSeq]

@[simp] theorem State.keepUp_units : s.keepUp.units = s.units := by
  unfold State.keepUp
  split <;> rfl

@[simp] theorem State.stopConv_units (n : Nat) : (s.stopConv n).units = s.units := by simp [State.stopConv]

@[simp] theorem State.ite_tick (c : Prop) [Decidable c] (a b : State) :
    (if c then a else b).tick = if c then a.tick else b.tick := by
  split <;> rfl

@[simp] theorem State.stopConv_tick (n : Nat) : (s.stopConv n).tick = s.tick := by simp [State.stopConv]

@[simp] theorem State.dropWireRuns_tick (f : WireRun → Bool) : (s.dropWireRuns f).tick = s.tick := rfl

@[simp] theorem State.refreshHold_items (boundary : Bool) : (s.refreshHold boundary).tick.items = s.tick.items := by
  unfold State.refreshHold
  split
  · rfl
  · exact State.each_proj (p := fun z => z.tick.items) (fun z f => by rw [State.emit_tick]) _ _

end Units

/-! ### A unit that the hardware forces into FAULT -/

/-- A unit that the hardware has forced into FAULT: it behaves so, and its pending change is dropped (R353, R354). -/
def UnitSt.forced (x : UnitSt) : UnitSt := { x with skewed := true, next := none, after := none, restart := false }

/-- Forced into FAULT is the one unit (R353). -/
theorem State.forceFault_units (s : State) (u : Nat) :
    (s.forceFault u).units = insert {} s.units u (s.unit u).forced := by
  have hleave : (if (s.unit u).st = .running then s.keepUp.onLeave u .fault else s.keepUp).units = s.units := by simp
  have hunit := State.unit_of_units hleave u
  simp [State.forceFault, State.setUnit, UnitSt.forced, hleave, hunit]

theorem State.forceFault_unit {s : State} (hs : s.unitsWf = true) (u : Nat) :
    (s.forceFault u).unit u = (s.unit u).forced := by
  rw [State.unit, State.forceFault_units, lookup_insert hs, if_pos rfl]

/-- No plan item of a unit that is forced into FAULT stays in progress (R72, R353). -/
theorem State.forceFault_items (s : State) (u : Nat) : ∀ q ∈ (s.forceFault u).tick.items, q.item.unit ≠ u := by
  intro q hq
  obtain ⟨-, hne⟩ : _ ∧ q.item.unit ≠ u := by simpa [State.forceFault] using hq
  exact hne

theorem State.forceFault_now (s : State) (u : Nat) : (s.forceFault u).now = s.now := by
  simp [State.forceFault]

/-- STATE_SKEW of a unit whose state is checked, where the detection falls into the present tick (R352, R99). -/
theorem exec_stateSkew {s : State} {u : Fin 64} (hunit : isUnit u.val = true) (hfix : fixedUnit u.val = false)
    (hskew : (s.unit u.val).skewed = false) (hdoze : s.dozeTick = false) (hwork : s.tick.noWork = false)
    (hend : s.skewT u.val < s.tickEnd) (hst : (s.unit u.val).st = .running ∨ (s.unit u.val).st = .off) :
    exec (.stateSkew u) s = .next (((s.reach (s.skewT u.val)).emit u.val evStateSkew
      ((s.unit u.val).st.code + (if (s.unit u.val).st = .running then 1 else 2) * 256)).forceFault u.val) := by
  have hchecked : ((s.unit u.val).st == .running || (s.unit u.val).st == .off) = true := by simpa using hst
  show execStateSkew u s = _
  simp only [execStateSkew, hunit, hfix, hskew, hdoze, hwork, hchecked]
  rw [if_neg (by simpa using hend)]

/-! ### Wakes -/

/-- WAKE_COMPLETE of a unit that can wake, within its time limit: a converter's grid starts, and SRAM's contents are zero
(R340, R461, R738). -/
theorem exec_wakeComplete {s : State} {u : Fin 64} (hst : (s.unit u.val).st = .waking)
    (hdone : (s.unit u.val).wakeDone = false) (hlate : (s.unit u.val).wakeLate = false) (hover : s.wakeOver u.val = false)
    (hrng : u.val = 5 → s.rng.live = true)
    (hregion : 0x20 ≤ u.val → u.val ≤ 0x27 → (s.regionOf (u.val - 0x20)).invalid = false) :
    let z := s.setUnit u.val { s.unit u.val with wakeDone := true }
    exec (.wakeComplete u) s = .next (
      if u.val = 8 ∨ u.val = 9 then z.setConv (u.val - 8) { z.convOf (u.val - 8) with grid := some z.now }
      else if u.val = 0x3C then { z with mem := { z.mem with sram := [], poison := [], scrubAt := 0 } } else z) := by
  show execWakeComplete u s = _
  simp only [execWakeComplete]
  rw [if_neg ?free]
  case free =>
    rintro (h | h | h | h | ⟨h5, hlive⟩ | ⟨hlo, hhi, hinv⟩)
    · exact h hst
    · simp [hlate] at h
    · simp [hdone] at h
    · simp [hover] at h
    · simp [hrng h5] at hlive
    · simp [hregion hlo hhi] at hinv

/-- WAKE_FAIL at the time limit of a wake (R342, log 40). -/
theorem exec_wakeFail {s : State} {u : Fin 64} (hst : (s.unit u.val).st = .waking)
    (hdone : (s.unit u.val).wakeDone = false) {l : Nat} (hl : wakeLimit u.val = some l) :
    let z := s.reach ((s.unit u.val).wakeT + l)
    exec (.wakeFail u) s = .next (z.setUnit u.val { z.unit u.val with wakeLate := true }) := by
  show execWakeFail u s = _
  simp [execWakeFail, hl, hst, hdone]

/-- Settles O34: the two ends of a wake, the detection of a skew, and a cycle with an event in the buffer. -/
theorem unitCommandsAct : Obligations.UnitCommandsAct := by
  intro s
  refine ⟨fun u hst hdone => ⟨fun hlate hover hrng hregion => ?_, fun l hl => ?_⟩,
    fun u hunit hfix hskew hdoze hwork hend hst hwf => ?_, exec_fumaLogTake, fun e rest hb => ?_⟩
  · exact exec_wakeComplete hst hdone hlate hover hrng hregion
  · exact exec_wakeFail hst hdone hl
  · have hz : ∀ data, ((s.reach (s.skewT u.val)).emit u.val evStateSkew data).unitsWf = true := fun _ => by
      simpa [State.unitsWf] using hwf
    refine ⟨_, exec_stateSkew hunit hfix hskew hdoze hwork hend hst, ?skewed, ?next, ?running,
      State.forceFault_items _ _, ?now⟩
    case skewed => simp [State.forceFault_unit (hz _), UnitSt.forced]
    case next => simp [State.forceFault_unit (hz _), UnitSt.forced]
    case running => simp [State.isRunning, State.forceFault_unit (hz _), UnitSt.forced]
    case now =>
      have hnow : s.now ≤ s.skewT u.val := le_max_left ..
      rw [State.forceFault_now, State.emit_now, State.reach_now, max_eq_right hnow]
  · have hlog := State.elapse_one_fuma hb
    refine ⟨_, exec_fumaLogTake (by simp [hb]), by rw [hlog], s.elapse_now 1, fun hlen => ?_, fun hlen => ?_,
      fun hwf => State.elapse_one_count hwf hb⟩
    · rw [hlog, if_neg (by omega)]
    · rw [hlog, if_pos hlen]

end Sys2Proof.Machine
end

section
/-! PROOFS. The switch matrix and the cells of the analog front (R386 to R389, R392, R396, R397, R409, R410). -/

namespace Sys2Proof.Machine

/-! ### The switch matrix -/

/-- The routes that the matrix parameters program (R386). -/
def State.programmedRoutes (s : State) : List (Nat × Nat) :=
  (List.range 64).filterMap fun d => if s.reg 0x1900 d = 0xFF then none else some (d, s.regN 0x1900 d)

theorem State.programmedRoutes_of_regs {t s : State} (h : t.regs = s.regs) : t.programmedRoutes = s.programmedRoutes := by
  unfold State.programmedRoutes State.regN State.reg
  rw [h]

theorem State.closeSwitches_eq (s : State) : s.closeSwitches = s.setClosed s.now s.programmedRoutes := rfl

theorem State.setClosed_closed (s : State) (at_ : Nat) (l : List (Nat × Nat)) : (s.setClosed at_ l).closed = l := by
  unfold State.setClosed
  split
  · exact Eq.symm ‹_›
  · rfl

theorem State.setClosed_regs (s : State) (at_ : Nat) (l : List (Nat × Nat)) : (s.setClosed at_ l).regs = s.regs := by
  unfold State.setClosed
  split <;> rfl

theorem State.closeSwitches_closed (s : State) : s.closeSwitches.closed = s.programmedRoutes := s.setClosed_closed ..

/-- Switches that have taken their settings stand as they are programmed. -/
theorem State.closeSwitches_closed_twice (s : State) : s.closeSwitches.closeSwitches.closed = s.closeSwitches.closed := by
  rw [State.closeSwitches_closed, State.closeSwitches_closed, State.closeSwitches_eq]
  exact State.programmedRoutes_of_regs (s.setClosed_regs ..)

/-- A later cycle of the tick, once reached, is the present one. -/
theorem State.reach_tickStart_cyc {s : State} {c : Nat} (hc : s.cyc ≤ c) (hnow : s.cyc ≤ s.now) :
    (s.reach (s.tickStart + c)).cyc = c := by
  rw [State.reach_eq, State.elapse_cyc, State.tickStart]
  omega

/-- AMTX_SWITCH_CLOSE while the matrix works and a switch does not stand as programmed (R386, R422). -/
theorem exec_amtxSwitchClose {s : State} (hact : s.isActive 0x19 = true) (hopen : s.closed ≠ s.closeSwitches.closed) :
    exec .amtxSwitchClose s = .next (s.reach (s.tickStart + 132)).closeSwitches := by
  show execAmtxSwitchClose s = _
  simp [execAmtxSwitchClose, hact, hopen]

/-! ### Commands of one cell -/

section Cell

variable {s : State} {c : Fin 16}

/-- CELL_POWER_UP: after the power-up the settling time begins (R388). -/
theorem exec_cellPowerUp (hpow : (s.cell c.val).powering = true) :
    let z := s.reach (s.cell c.val).readyT
    exec (.cellPowerUp c) s = .next (z.setCell c.val { z.cell c.val with
      powering := false, readyT := z.now + z.settleCycles c.val }) := by
  show execCellPowerUp c s = _
  simp [execCellPowerUp, hpow]

/-- CELL_SETTLED: SETTLING clears (R387, R396). -/
theorem exec_cellSettled (hpow : (s.cell c.val).powering = false) (hset : s.regBit 0x1809 c.val 0 = true) :
    exec (.cellSettled c) s = .next ((s.reach (s.cell c.val).readyT).setRegBit 0x1809 c.val 0 false) := by
  show execCellSettled c s = _
  simp [execCellSettled, hpow, hset]

section Comparator

variable {p n : Int} (hon : s.cellOn c.val = true) (hmode : s.reg 0x1800 c.val = 5)
  (hedge : s.regBit 0x1809 c.val 1 ≠ s.cmpOutput c.val p n)
include hon hmode hedge

/-- COMPARATOR_EDGE in the quiet time, or of an edge that CMP_CFG does not select: the output alone changes (R392, R396). -/
theorem exec_comparatorEdge_unseen (hunseen : s.cellQuiet c.val = true ∨
    s.regBit 0x1806 c.val (if s.cmpOutput c.val p n then 3 else 4) = false) :
    exec (.comparatorEdge c ⟨p, n⟩) s = .next (s.setRegBit 0x1809 c.val 1 (s.cmpOutput c.val p n)) := by
  show execComparatorEdge c ⟨p, n⟩ s = _
  simp only [execComparatorEdge, hon, hmode, beq_eq_false_iff_ne.2 hedge, bne_self_eq_false]
  rw [if_neg (by simp), if_pos (by simpa using hunseen)]

/-- COMPARATOR_EDGE of a selected edge while the cells' unit is RUNNING: it counts, and it triggers the slots that select
CMPn (R392, R394). -/
theorem exec_comparatorEdge_pulse (hquiet : s.cellQuiet c.val = false)
    (hsel : s.regBit 0x1806 c.val (if s.cmpOutput c.val p n then 3 else 4) = true) (hrun : s.isRunning 0x18 = true) :
    exec (.comparatorEdge c ⟨p, n⟩) s = .next (((s.setRegBit 0x1809 c.val 1 (s.cmpOutput c.val p n)).bump 0x180B
      c.val).slotTrigs [0x20 + c.val] fun _ => true) := by
  show execComparatorEdge c ⟨p, n⟩ s = _
  simp only [execComparatorEdge, hon, hmode, beq_eq_false_iff_ne.2 hedge, bne_self_eq_false]
  rw [if_neg (by simp), if_neg (by simp only [hquiet, hsel]; simp)]
  exact congrArg Host.Outcome.next (if_pos hrun)

end Comparator

section Saturation

variable {p n : Int} (hon : s.cellOn c.val = true) (hin : s.cellStated c.val p n = true)
include hon hin

/-- ACELL_SAT of an output that leaves saturation: SAT clears (R389). -/
theorem exec_acellSat_leave (hsat : s.regBit 0x1809 c.val 2 = true) (hout : s.cellSat c.val p n = some false) :
    exec (.acellSat c ⟨p, n⟩) s = .next (s.setRegBit 0x1809 c.val 2 false) := by
  show execAcellSat c ⟨p, n⟩ s = _
  simp [execAcellSat, hon, hin, hsat, hout]

/-- ACELL_SAT of an output that enters saturation for the first time in a tick: SAT and SAT_SEEN are set, and the event is
logged (R389). -/
theorem exec_acellSat_enter (hsat : s.regBit 0x1809 c.val 2 = false) (hout : s.cellSat c.val p n = some true)
    (hfirst : (s.cell c.val).satTick ≠ some s.tick.count.toNat) :
    exec (.acellSat c ⟨p, n⟩) s = .next ((((s.setRegBit 0x1809 c.val 2 true).setCell c.val { s.cell c.val with
      satTick := some s.tick.count.toNat }).setRegBit 0x1809 c.val 3 true).emit 0x18 evAcellSat c.val) := by
  show execAcellSat c ⟨p, n⟩ s = _
  simp [execAcellSat, hon, hin, hsat, hout, hfirst]

end Saturation

/-- SH_HOLD of a tracking cell that selects the source (R397, R409). -/
theorem exec_shHold {src : Fin 25} (hocc : s.holdOccurs src.val = true) (hon : s.cellOn c.val = true)
    (hmode : s.reg 0x1800 c.val = 6) (hsel : s.regN 0x1807 c.val = src.val) (hhold : (s.cell c.val).holding = false)
    (hdoze : s.dozeTick = true → src.val = 24) :
    exec (.shHold c src) s = .next (s.setCell c.val { s.cell c.val with
      holding := true, tracked := s.now + s.regN 0x1808 c.val }) := by
  have hawake : (s.dozeTick && decide (src.val < 24)) = false := by
    cases hd : s.dozeTick with
    | false => rfl
    | true => simp [hdoze hd]
  show execShHold c src s = _
  simp [execShHold, State.holdCell, hocc, hon, hmode, hsel, hhold, hawake]

/-- SH_TRACK_RETURN outside doze ticks, or of a cell that holds at cycle 128 (R397, R409). -/
theorem exec_shTrackReturn (hhold : (s.cell c.val).holding = true)
    (hdoze : s.dozeTick = true → 24 ≤ s.regN 0x1807 c.val) :
    let z := s.reach (s.cell c.val).tracked
    exec (.shTrackReturn c) s = .next (z.setCell c.val { z.cell c.val with holding := false }) := by
  have hawake : (s.dozeTick && decide (s.regN 0x1807 c.val < 24)) = false := by
    cases hd : s.dozeTick with
    | false => rfl
    | true => simpa using hdoze hd
  show execShTrackReturn c s = _
  simp only [execShTrackReturn, hhold, hawake]
  rfl

/-- CELL_DOZE_POWER_UP after the doze window: a cell that is still off powers up now (R410). -/
theorem exec_cellDozePowerUp_awake (hoff : (s.cell c.val).dozeOff = true) (hdoze : s.dozeTick = false) :
    exec (.cellDozePowerUp c) s = .next (s.powerCell c.val) := by
  show execCellDozePowerUp c s = _
  simp [execCellDozePowerUp, hoff, hdoze]

/-- CELL_DOZE_POWER_UP in the doze tick into which the cell's lead ahead of the wake boundary falls (R410). -/
theorem exec_cellDozePowerUp_dozing (hoff : (s.cell c.val).dozeOff = true) (hdoze : s.dozeTick = true)
    (hlead : s.wakeBoundary - s.dozeLead c.val < s.tickEnd) :
    exec (.cellDozePowerUp c) s = .next ((s.reach (s.wakeBoundary - s.dozeLead c.val)).powerCell c.val) := by
  show execCellDozePowerUp c s = _
  simp only [execCellDozePowerUp, hoff, hdoze, decide_eq_false (Nat.not_le.2 hlead)]
  rfl

end Cell

/-- Settles O35: the closing of the switches, and each command of a cell in each of its ranges. -/
theorem analogCellCommands : Obligations.AnalogCellCommands := by
  intro s
  refine ⟨fun hact hopen hc hnow => ?_, fun c => ⟨exec_cellPowerUp, exec_cellSettled, fun hon hmode p n hedge =>
      ⟨exec_comparatorEdge_unseen hon hmode hedge, exec_comparatorEdge_pulse hon hmode hedge⟩,
    fun p n hon hin => ⟨exec_acellSat_leave hon hin, exec_acellSat_enter hon hin⟩, fun src => exec_shHold,
    exec_shTrackReturn, exec_cellDozePowerUp_awake, exec_cellDozePowerUp_dozing⟩⟩
  have hcyc : (s.reach (s.tickStart + 132)).closeSwitches.cyc = 132 := by
    simp [State.reach_tickStart_cyc hc hnow]
  exact ⟨_, exec_amtxSwitchClose hact hopen, hcyc, (State.closeSwitches_closed_twice _).symm⟩

end Sys2Proof.Machine
end

section
/-! PROOFS. The DAC channels (R338, R401 to R405, R645). -/

namespace Sys2Proof.Machine

/-! ### The latch -/

/-- Withdrawing an excitation step changes the wire checks alone (R450). -/
theorem State.withdrawStep_eq (s : State) (ch : Nat) : s.withdrawStep ch = { s with wire := (s.withdrawStep ch).wire } := by
  cases hruns : s.wire.runs with
  | nil => simp only [State.withdrawStep, State.keepUp, State.mapRun, hruns]
  | cons r rest => simp only [State.withdrawStep, State.keepUp, State.mapRun, hruns]

/-- Everything that the latch of a channel changes: the code in force, the channel's instant, and the wire checks (R402,
R450). -/
theorem State.latchDac_eq (s : State) (ch : Nat) (code : Word) (at_ : Nat) :
    s.latchDac ch code at_ = { (s.setReg 0x1A03 ch code).setDac ch { s.dac ch with latchT := some at_ } with
      wire := (s.withdrawStep ch).wire } := by
  simp only [State.latchDac]
  rw [State.withdrawStep_eq]
  rfl

theorem State.latchDac_mem (s : State) (ch : Nat) (code : Word) (at_ : Nat) : (s.latchDac ch code at_).mem = s.mem := by
  rw [State.latchDac_eq]
  rfl

/-- A latch writes DAC.OUT of its channel and no other register (R402). -/
theorem State.reg_latchDac {s : State} (hs : s.regsWf = true) (ch : Nat) (code : Word) (at_ id sub : Nat) :
    (s.latchDac ch code at_).reg id sub = if regKey id sub = regKey 0x1A03 ch then code else s.reg id sub := by
  rw [State.latchDac_eq]
  exact State.reg_setReg hs 0x1A03 ch id sub code

theorem State.dac_setDac {s : State} (hs : wfMap {} s.dacs = true) (ch j : Nat) (x : DacSt) :
    (s.setDac ch x).dac j = if j = ch then x else s.dac j := lookup_insert hs ch j x

/-- The instant of its last latch is kept with the channel (R403). -/
theorem State.dac_latchDac {s : State} (hs : wfMap {} s.dacs = true) (ch : Nat) (code : Word) (at_ : Nat) :
    (s.latchDac ch code at_).dac ch = { s.dac ch with latchT := some at_ } := by
  rw [State.latchDac_eq]
  exact (State.dac_setDac hs ch ch _).trans (if_pos rfl)

/-- Registers whose sub-indices are in range share no key. -/
theorem regKey_eq_iff {id sub jd jsub : Nat} (hsub : sub < 256) (hjsub : jsub < 256) :
    regKey id sub = regKey jd jsub ↔ id = jd ∧ sub = jsub := by
  unfold regKey
  omega

/-! ### A fabric write -/

/-- The state in which a fabric write that comes after `dt` cycles acts: a held write that is due is latched first (R403). -/
def State.atPortWrite (s : State) (ch dt : Nat) : State := State.dueHeld (s.elapse dt).now (s.elapse dt) ch

/-- The channel has latched in the last 400 cycles (R403). -/
def State.latchedLately (s : State) (ch : Nat) : Bool := match (s.dac ch).latchT with
  | none => false
  | some t => decide (s.now < t + 400)

/-- What the write of a code by region `r` does to a channel: it is dropped, held or latched (R338, R403, R404). -/
def State.portWrite (s : State) (ch r : Nat) (w : Word) : State :=
  if !s.isRunning 0x1A then s.absentDrop (0x20 + r)
  else if s.reg 0x1A02 ch ≠ 2 then s.absentDrop 0x1A
  else if s.latchedLately ch then
    ((if (s.dac ch).held.isSome then s.bump 0x1A06 ch else s).setDac ch
      { s.dac ch with held := some w }).withdrawStep ch
  else s.latchDac ch w s.now

/-- DAC_PORT_WRITE of a channel whose port a region owns is the write of that region. -/
theorem exec_dacPortWrite {s : State} {c : Fin 8} {dt r : Nat} (howner : (s.atPortWrite c.val dt).portOwner c.val = some r)
    (code : BitVec 16) : exec (.dacPortWrite c dt code) s =
      .next ((s.atPortWrite c.val dt).portWrite c.val r (code.setWidth 32)) := by
  show Host.Outcome.next (match (s.atPortWrite c.val dt).portOwner c.val with
    | none => s.atPortWrite c.val dt
    | some r => (s.atPortWrite c.val dt).portWrite c.val r (code.setWidth 32)) = _
  rw [howner]

section PortWrite

variable {s : State} (ch r : Nat) (w : Word)

/-- While the DACs are not RUNNING the region counts the drop (R338, R645). -/
theorem State.portWrite_stopped (hrun : s.isRunning 0x1A = false) : s.portWrite ch r w = s.absentDrop (0x20 + r) := by
  simp [State.portWrite, hrun]

variable {ch} (hrun : s.isRunning 0x1A = true)
include hrun

/-- Of a channel that the fabric does not latch the DACs count the drop (R404). -/
theorem State.portWrite_unselected (hlatch : s.reg 0x1A02 ch ≠ 2) : s.portWrite ch r w = s.absentDrop 0x1A := by
  rw [State.portWrite, if_neg (by simp [hrun]), if_pos hlatch]

variable (hlatch : s.reg 0x1A02 ch = 2)
include hlatch

/-- With no latch in the last 400 cycles the write is latched at once (R403). -/
theorem State.portWrite_latch (hfree : ((s.dac ch).latchT.all fun t => decide (t + 400 ≤ s.now)) = true) :
    s.portWrite ch r w = s.latchDac ch w s.now := by
  have hlate : s.latchedLately ch = false := by
    cases hT : (s.dac ch).latchT with
    | none => simp [State.latchedLately, hT]
    | some t => simpa [State.latchedLately, hT] using hfree
  simp [State.portWrite, hrun, hlatch, hlate]

/-- Inside 400 cycles of the last latch, with no write held, the write is held (R403, R450). -/
theorem State.portWrite_hold {t : Nat} (hT : (s.dac ch).latchT = some t) (hearly : s.now < t + 400)
    (hheld : (s.dac ch).held = none) :
    s.portWrite ch r w = (s.setDac ch { s.dac ch with held := some w }).withdrawStep ch := by
  simp [State.portWrite, State.latchedLately, hrun, hlatch, hT, hearly, hheld]

end PortWrite

/-! ### Commands of one channel -/

section Channel

variable {s : State} {c : Fin 8}

section Compliance

variable (hon : s.dacOn c.val = true) (hmode : s.reg 0x1A01 c.val ≠ 0)
include hon hmode

/-- DAC_COMPLIANCE of a pin that re-enters the compliance range (R401). -/
theorem exec_dacCompliance_enter (hflag : s.regBit 0x1A05 c.val 0 = true) :
    exec (.dacCompliance c false) s = .next (s.setRegBit 0x1A05 c.val 0 false) := by
  have hcurrent : (s.reg 0x1A01 c.val == 0) = false := beq_eq_false_iff_ne.2 hmode
  show execDacCompliance c false s = _
  simp only [execDacCompliance, hcurrent, hon, hflag]
  rfl

/-- DAC_COMPLIANCE of a pin that leaves the compliance range: the flag and its record are set, and the event is logged
(R401). -/
theorem exec_dacCompliance_leave (hflag : s.regBit 0x1A05 c.val 0 = false) :
    exec (.dacCompliance c true) s = .next
      (((s.setRegBit 0x1A05 c.val 0 true).setRegBit 0x1A05 c.val 1 true).emit 0x1A evDacCompliance
        (c.val + (s.reg 0x1A01 c.val == 2).toNat * 8)) := by
  have hcurrent : (s.reg 0x1A01 c.val == 0) = false := beq_eq_false_iff_ne.2 hmode
  show execDacCompliance c true s = _
  simp only [execDacCompliance, hcurrent, hon, hflag]
  rfl

end Compliance

/-- DAC_HELD_LATCH of a channel that has latched before (R403). -/
theorem exec_dacHeldLatch {w : Word} {t : Nat} (hheld : (s.dac c.val).held = some w)
    (hT : (s.dac c.val).latchT = some t) :
    exec (.dacHeldLatch c) s = .next (((s.reach (t + 400)).setDac c.val { s.dac c.val with held := none }).latchDac
      c.val w (s.reach (t + 400)).now) := by
  show execDacHeldLatch c s = _
  simp only [execDacHeldLatch, hheld, hT]

/-- DAC_OUTPUT_RESUME of a channel whose output a commit has turned off (R405). -/
theorem exec_dacOutputResume {t : Nat} (hoff : (s.dac c.val).offT = some t) :
    exec (.dacOutputResume c) s = .next ((s.reach t).setDac c.val { s.dac c.val with offT := none }) := by
  show execDacOutputResume c s = _
  simp only [execDacOutputResume, hoff]

end Channel

/-- Settles O36: each command of a channel in each of its ranges, and the latch of a code. -/
theorem dacCommands : Obligations.DacCommands := by
  refine ⟨fun s c => ⟨fun hon hmode => ⟨exec_dacCompliance_enter hon hmode, exec_dacCompliance_leave hon hmode⟩,
    fun dt code r howner => ?port, fun w t hheld hT => ?held, fun t => exec_dacOutputResume⟩,
    fun s ch code at_ hs hch => ?latch⟩
  case port =>
    rw [exec_dacPortWrite howner code]
    exact ⟨fun hrun => congrArg _ (State.portWrite_stopped _ _ _ hrun),
      fun hrun hsel => congrArg _ (State.portWrite_unselected _ _ hrun hsel),
      fun hrun hsel hfree => congrArg _ (State.portWrite_latch _ _ hrun hsel hfree),
      fun t hrun hsel hT hearly hheld => congrArg _ (State.portWrite_hold _ _ hrun hsel hT hearly hheld)⟩
  case held =>
    refine ⟨_, exec_dacHeldLatch hheld hT, ?_, fun hs => ?_⟩
    · rw [(State.latchDac_sameTime ..).1, State.setDac_now, State.reach_now]
    · have hreach : (s.reach (t + 400)).regsWf = true := (State.readsBut_elapse hs _).1
      exact (State.reg_latchDac (s := (s.reach (t + 400)).setDac c.val _) hreach ..).trans (if_pos rfl)
  case latch =>
    refine ⟨?_, fun id sub _ hsub hne => ?_, fun hdacs => ?_, s.latchDac_mem .., (s.latchDac_sameTime ..).1⟩
    · rw [State.reg_latchDac hs, if_pos rfl]
    · have hkey : regKey id sub ≠ regKey 0x1A03 ch := by rwa [Ne, regKey_eq_iff hsub (by omega)]
      rw [State.reg_latchDac hs, if_neg hkey]
    · rw [State.dac_latchDac hdacs]

end Sys2Proof.Machine
end

section
/-! PROOFS. The clamps of the analog pins (R420 to R425): a flag, its release and the return of the switches. -/

namespace Sys2Proof.Machine

/-! ### One bit of a register -/

/-- A bit within a word reads what was written to it. -/
theorem Word.bit_setBit_same (w : Word) {i : Nat} (hi : i < 32) (b : Bool) : (w.setBit i b).bit i = b := by
  cases b <;> simp [Word.bit, Word.setBit, hi]

section RegisterBit

variable {s : State} (hs : s.regsWf = true)
include hs

theorem State.regsWf_setRegBit (id sub i : Nat) (b : Bool) : (s.setRegBit id sub i b).regsWf = true :=
  State.regsWf_setReg hs id sub _

theorem State.regBit_setRegBit_same (id sub : Nat) {i : Nat} (hi : i < 32) (b : Bool) :
    (s.setRegBit id sub i b).regBit id sub i = b := by
  rw [State.regBit, State.setRegBit_eq, State.reg_setReg_same hs, Word.bit_setBit_same _ hi]

theorem State.reg_setRegBit_other {id sub jd jsub : Nat} (hkey : regKey jd jsub ≠ regKey id sub) (i : Nat) (b : Bool) :
    (s.setRegBit id sub i b).reg jd jsub = s.reg jd jsub := by
  rw [State.setRegBit_eq, State.reg_setReg hs, if_neg hkey]

/-- An event on its way to the log writes no register but the count of lost events (R362). -/
theorem State.reg_emit_other {id sub : Nat} (hkey : regKey id sub ≠ regKey 0x0603 0) (unit : Nat) (ev : Nat × Nat)
    (data : Nat) : (s.emit unit ev data).reg id sub = s.reg id sub := by
  unfold State.emit State.reg
  obtain h | h := State.enter_regs s _
  · rw [h]
  · rw [h]
    exact (State.reg_bump hs 0x0603 0 id sub).trans (if_neg hkey)

end RegisterBit

/-! ### The record of a flag -/

/-- A pin that becomes SUS, or is SUS no longer, changes its bit of the SUS map, its status and WIRE's own record (R438,
R457). -/
theorem State.setSus_eq (s : State) (pin : Nat) (on : Bool) : s.setSus pin on =
    { (s.setRegBit 0x1B16 0 pin on).setRegBit 0x1B05 pin 3 on with wire := (s.setSus pin on).wire } := by
  cases on <;> rfl

/-- What a flag does to the pin's SUS bit: a monitored pin becomes SUS (R425). -/
def State.markClamp (s : State) (p : Nat) : State :=
  if monitored (s.reg 0x1B00 p) ∧ !s.regBit 0x1B16 0 p then s.setSus p true else s

/-- What a flag does to CLAMP_SEEN: the first one since the bit was clear sets it and is logged (R424). -/
def State.seeClamp (s : State) (p data : Nat) : State :=
  if s.regBit 0x1B18 0 p then s else (s.setRegBit 0x1B18 0 p true).emit 0x1B evWireClamp data

theorem State.recordClamp_eq (s : State) (p : Nat) : s.recordClamp p =
    (s.markClamp p).seeClamp p (s.wireData p + (s.wire.high.bit p).toNat * 2 ^ 41) := rfl

theorem State.markClamp_isolation (s : State) (p : Nat) :
    (s.markClamp p).wire.iso = s.wire.iso ∧ (s.markClamp p).wire.high = s.wire.high := by
  unfold State.markClamp
  split <;> exact ⟨rfl, rfl⟩

theorem State.seeClamp_wire (s : State) (p data : Nat) : (s.seeClamp p data).wire = s.wire := by
  unfold State.seeClamp
  split
  · rfl
  · rw [State.emit_wire, State.setRegBit_wire]

/-- The record of a flag leaves which pins are isolated, and past which rail a pin was flagged. -/
theorem State.recordClamp_isolation (s : State) (p : Nat) :
    (s.recordClamp p).wire.iso = s.wire.iso ∧ (s.recordClamp p).wire.high = s.wire.high := by
  rw [State.recordClamp_eq, State.seeClamp_wire]
  exact s.markClamp_isolation p

section Record

variable {s : State} (hs : s.regsWf = true)
include hs

theorem State.seeClamp_reg (p data : Nat) {id : Nat} (hseen : id ≠ 0x1B18) (hlost : id ≠ 0x0603) :
    (s.seeClamp p data).reg id = s.reg id := by
  unfold State.seeClamp
  split
  · rfl
  · rw [State.reg_emit_other (State.regsWf_setRegBit hs ..) (by unfold regKey; omega),
      State.reg_setRegBit_other hs (by unfold regKey; omega)]

variable {p : Nat} (hp : p < 24)
include hp

theorem State.setSus_regs (on : Bool) : (s.setSus p on).regsWf = true ∧
    (s.setSus p on).reg 0x1B17 = s.reg 0x1B17 ∧ (s.setSus p on).regBit 0x1B16 0 p = on := by
  have hmap := State.regsWf_setRegBit hs 0x1B16 0 p on
  have hstatus : ∀ id, id ≠ 0x1B05 →
      (s.setSus p on).reg id = (s.setRegBit 0x1B16 0 p on).reg id := by
    intro id hid
    rw [State.setSus_eq]
    exact State.reg_setRegBit_other hmap (by unfold regKey; omega) 3 on
  refine ⟨?_, ?_, ?_⟩
  · rw [State.setSus_eq]
    exact State.regsWf_setRegBit hmap ..
  · rw [hstatus _ (by decide), State.reg_setRegBit_other hs (by decide)]
  · rw [State.regBit, hstatus _ (by decide)]
    exact State.regBit_setRegBit_same hs 0x1B16 0 (by omega) on

theorem State.markClamp_regs : (s.markClamp p).regsWf = true ∧ (s.markClamp p).reg 0x1B17 = s.reg 0x1B17 ∧
    (monitored (s.reg 0x1B00 p) = true → (s.markClamp p).regBit 0x1B16 0 p = true) := by
  obtain ⟨hwf, hflags, hsus⟩ := State.setSus_regs hs hp true
  unfold State.markClamp
  split
  · exact ⟨hwf, hflags, fun _ => hsus⟩
  · next h => exact ⟨hs, rfl, fun hmon => by simpa [hmon] using h⟩

/-- The record of a flag leaves the flags, and of a monitored pin makes it SUS (R425). -/
theorem State.recordClamp_regs : (s.recordClamp p).reg 0x1B17 = s.reg 0x1B17 ∧
    (monitored (s.reg 0x1B00 p) = true → (s.recordClamp p).regBit 0x1B16 0 p = true) := by
  obtain ⟨hwf, hflags, hsus⟩ := State.markClamp_regs hs hp
  have hsee : ∀ id, id ≠ 0x1B18 → id ≠ 0x0603 → (s.recordClamp p).reg id = (s.markClamp p).reg id :=
    fun _ => State.seeClamp_reg hwf p _
  refine ⟨(hsee _ (by decide) (by decide)).trans hflags, fun hmon => ?_⟩
  rw [State.regBit, hsee _ (by decide) (by decide)]
  exact hsus hmon

end Record

/-! ### A flag -/

/-- A check that is carried on changes no state but that of the checks (R430). -/
theorem State.keepUp_eq (s : State) : s.keepUp = { s with wire := { s.wire with runs := s.keepUp.wire.runs } } := by
  unfold State.keepUp
  split <;> rfl

theorem State.mapRun_eq (s : State) (f : WireRun → WireRun) :
    s.mapRun f = { s with wire := { s.wire with runs := (s.mapRun f).wire.runs } } := by
  unfold State.mapRun
  split <;> rfl

/-- The wire checks after a pin has been flagged: the check of the pin in work, if it is that pin, finds it so (R451). -/
def State.runsFlagged (s : State) (p : Nat) : List WireRun := (s.keepUp.mapRun (WireRun.clampPin p s.now)).wire.runs

/-- A pin that is flagged, before anything of it is recorded: its flag stands, it is isolated, and past which rail it lies is
kept (R420 to R422). -/
def State.flagClamp (s : State) (p : Nat) (up : Bool) : State :=
  { s.setRegBit 0x1B17 0 p true with wire := { s.wire with
      iso := s.wire.iso.setBit p true, high := s.wire.high.setBit p up, runs := s.runsFlagged p } }

/-- WIRE_CLAMP of a pin that is not flagged flags it, in every state of the unit (R420), and records that while the device
works (R424). -/
theorem exec_wireClamp {s : State} {p : Fin 24} (hflag : s.regBit 0x1B17 0 p.val = false) (up : Bool) :
    exec (.wireClamp p up) s = .next (if s.alive then (s.flagClamp p.val up).recordClamp p.val
      else s.flagClamp p.val up) := by
  have hruns : s.keepUp.mapRun (WireRun.clampPin p.val s.now) =
      { s with wire := { s.wire with runs := s.runsFlagged p.val } } := by
    unfold State.runsFlagged
    rw [State.mapRun_eq, State.keepUp_eq]
  show execWireClamp p up s = _
  simp only [execWireClamp, hflag, hruns]
  rfl

section Flag

variable {s : State} (hs : s.regsWf = true) (up : Bool)
include hs

theorem State.regsWf_flagClamp (p : Nat) : (s.flagClamp p up).regsWf = true :=
  State.regsWf_setRegBit hs 0x1B17 0 p true

variable {p : Nat} (hp : p < 24)
include hp

theorem State.flagClamp_cfg : (s.flagClamp p up).reg 0x1B00 p = s.reg 0x1B00 p :=
  State.reg_setRegBit_other hs (by unfold regKey; omega) p true

/-- A flagged pin is flagged and isolated, and past which rail it lies is known (R420, R422). -/
theorem State.flagClamp_flagged : (s.flagClamp p up).regBit 0x1B17 0 p = true ∧
    (s.flagClamp p up).wire.iso.bit p = true ∧ (s.flagClamp p up).wire.high.bit p = up :=
  ⟨State.regBit_setRegBit_same hs 0x1B17 0 (by omega) true, Word.bit_setBit_same _ (by omega) true,
    Word.bit_setBit_same _ (by omega) up⟩

/-- The flag stays as it is while it is recorded. -/
theorem State.recordClamp_flagged : ((s.flagClamp p up).recordClamp p).regBit 0x1B17 0 p = true ∧
    ((s.flagClamp p up).recordClamp p).wire.iso.bit p = true ∧
    ((s.flagClamp p up).recordClamp p).wire.high.bit p = up := by
  obtain ⟨hiso, hhigh⟩ := (s.flagClamp p up).recordClamp_isolation p
  obtain ⟨hflags, -⟩ := State.recordClamp_regs (State.regsWf_flagClamp hs up p) hp
  rw [State.regBit, hflags, hiso, hhigh]
  exact State.flagClamp_flagged hs up hp

/-- A monitored pin that is flagged and recorded is SUS (R425). -/
theorem State.recordClamp_sus (hmon : monitored (s.reg 0x1B00 p) = true) :
    ((s.flagClamp p up).recordClamp p).regBit 0x1B16 0 p = true := by
  obtain ⟨-, hsus⟩ := State.recordClamp_regs (State.regsWf_flagClamp hs up p) hp
  exact hsus (by rwa [State.flagClamp_cfg hs up hp])

end Flag

/-! ### The release, and the return of the switches -/

/-- A pin whose flag has released: the flag is clear, and the instant from which its switches wait is kept (R421, R422). -/
def State.releaseClamp (s : State) (p : Nat) : State :=
  { s.setRegBit 0x1B17 0 p false with wire := { s.wire with
      runs := s.keepUp.wire.runs, relT := insert 0 s.wire.relT p s.now } }

/-- CLAMP_RELEASE of a pin that is flagged (R421). -/
theorem exec_clampRelease {s : State} {p : Fin 24} (hflag : s.regBit 0x1B17 0 p.val = true) :
    exec (.clampRelease p) s = .next (s.releaseClamp p.val) := by
  show execClampRelease p s = _
  simp only [execClampRelease, hflag]
  rw [State.keepUp_eq]
  rfl

/-- CLAMP_SWITCH_RETURN of a pin that is isolated and flagged no longer (R422). -/
theorem exec_clampSwitchReturn {s : State} {p : Fin 24} (hflag : s.regBit 0x1B17 0 p.val = false)
    (hiso : s.wire.iso.bit p.val = true) :
    let z := s.reach (lookup 0 s.wire.relT p.val + 400)
    exec (.clampSwitchReturn p) s = .next { z with wire := { z.wire with
      iso := z.wire.iso.setBit p.val false, relT := insert 0 z.wire.relT p.val 0 } } := by
  show execClampSwitchReturn p s = _
  simp only [execClampSwitchReturn, hflag, hiso]
  rfl

/-- Settles O37: a flag is set and, in a device that works, recorded; its release; and the return of the switches. -/
theorem wireClampCommands : Obligations.WireClampCommands := by
  refine fun s p hs => ⟨fun up hflag _ => ?flag, fun hflag => ?release, exec_clampSwitchReturn⟩
  case flag =>
    refine ⟨_, exec_wireClamp hflag up, ?_⟩
    split
    · obtain ⟨hset, hiso, hhigh⟩ := State.recordClamp_flagged hs up p.isLt
      exact ⟨hiso, hset, hhigh, fun _ => State.recordClamp_sus hs up p.isLt⟩
    · next hdead =>
      obtain ⟨hset, hiso, hhigh⟩ := State.flagClamp_flagged hs up p.isLt
      exact ⟨hiso, hset, hhigh, fun halive => absurd halive hdead⟩
  case release =>
    exact ⟨_, exec_clampRelease hflag, State.regBit_setRegBit_same hs 0x1B17 0 (by omega) false, rfl, rfl⟩

end Sys2Proof.Machine
end

section
/-! PROOFS. Cold calibration of a converter (R481, R482, R496, R888). -/

namespace Sys2Proof.Machine

theorem State.convOf_setConv {s : State} (hs : wfMap {} s.conv = true) (n j : Nat) (x : ConvSt) :
    (s.setConv n x).convOf j = if j = n then x else s.convOf j := lookup_insert hs n j x

/-- HEALTH is a register: the state of the converters beyond their registers stays (R478). -/
@[simp] theorem State.refreshHealth_conv (s : State) (n : Nat) : (s.refreshHealth n).conv = s.conv := rfl

section Converter

variable {s : State} {c : Side}

section Step

variable {q : ColdStep} (hcold : (s.convOf (sideN c)).cold = some q) (hworks : s.convWorks (sideN c) = true)
  (hidle : ((s.reach (q.start + 7040)).active (sideN c)).contains q.slice = false)
include hcold hworks hidle

/-- COLD_STEP of the spare: its terms wait until it takes its position (R888). -/
theorem exec_coldStep_spare (hspare : q.spare = true) (terms : Terms) (resid : Nat) :
    let n := sideN c
    let z := s.reach (q.start + 7040)
    exec (.coldStep c terms resid) s = .next (z.setConv n { z.convOf n with
      cold := none, waiting := some { slice := q.slice, m := terms.with resid, cold := true, warn := q.warn } }) := by
  show execColdStep c terms resid s = _
  simp only [execColdStep, hcold, hworks, hidle, hspare]
  rfl

/-- COLD_STEP of a slice that is off: the measurement counts, its terms are stored, SUSPECT clears where the residue is
within RESID_WARN as the step began with it, and the calibration goes on or completes (R481, R496, R888). -/
theorem exec_coldStep_off (hspare : q.spare = false) (terms : Terms) (resid : Nat) :
    let n := sideN c
    let m := terms.with resid
    let y := ((s.reach (q.start + 7040)).countCold n q.slice m).setTerms n q.slice m
    exec (.coldStep c terms resid) s = .next
      ((if m.r ≤ q.warn then y.setRegBit (convUnit n * 256 + 9) 0 q.slice false else y).judgeCold n q.warn) := by
  show execColdStep c terms resid s = _
  simp only [execColdStep, hcold, hworks, hidle, hspare]
  rfl

end Step

/-- COLD_SPARE_SWAP of a spare that a cold step measured, and that no mode change has put into a position: it takes its
position at the first sample instant of it (R475, R888). -/
theorem exec_coldSpareSwap {w : Waiting} (hwaiting : (s.convOf (sideN c)).waiting = some w) (hcold : w.cold = true)
    (hgrid : s.gridRuns (sideN c) = true) (hidle : (s.active (sideN c)).contains w.slice = false) :
    let n := sideN c
    let p := s.regN (convUnit n * 256 + 10) % s.positions n
    exec (.coldSpareSwap c) s = .next
      ((((s.reach (s.posInstant n p s.now)).countCold n w.slice w.m).swapSpare n p w).judgeCold n w.warn) := by
  show execColdSpareSwap c s = _
  simp only [execColdSpareSwap, hwaiting, hcold, hgrid, hidle]
  rfl

/-- The state at the time limit of a cold calibration: the timeout is noted, and HEALTH stays set by it (R482, log 17). -/
def State.coldLate (s : State) (n : Nat) : State :=
  (s.reach ((s.convOf n).wakeT + 16000000)).setConv n { s.convOf n with timedOut := true, latched := true }

/-- CONV_CAL_TIMEOUT of a calibration that still runs: bit 3 of STATUS is set, HEALTH follows, and the event is logged
(R482). -/
theorem exec_convCalTimeout (hcal : s.regBit (convUnit (sideN c) * 256 + 6) 0 1 = true)
    (hintime : (s.convOf (sideN c)).timedOut = false) :
    let n := sideN c
    exec (.convCalTimeout c) s = .next ((((s.coldLate n).setRegBit (convUnit n * 256 + 6) 0 3 true).refreshHealth n).emit
      (convUnit n) evConvCalTimeout 0) := by
  show execConvCalTimeout c s = _
  simp only [execConvCalTimeout, hcal, hintime]
  rw [if_neg (by simp)]
  simp only [State.coldLate]

/-- The time limit is 40 ms after the start of the wake (R482). -/
theorem State.coldLate_now (n : Nat) : (s.coldLate n).now = max s.now ((s.convOf n).wakeT + 16000000) := by
  rw [State.coldLate, State.setConv_now, State.reach_now]

theorem State.coldLate_convOf (hs : wfMap {} s.conv = true) (n : Nat) :
    (s.coldLate n).convOf n = { s.convOf n with timedOut := true, latched := true } := by
  rw [State.coldLate, State.convOf_setConv (by rwa [State.reach_conv]), if_pos rfl]

end Converter

/-- Settles O38: a cold step of the spare and of a slice that is off, the swap of a measured spare, and the timeout. -/
theorem coldCalibrationCommands : Obligations.ColdCalibrationCommands := by
  refine fun s c => ⟨fun q terms resid hcold hworks hidle => ⟨fun hspare => ?spare, fun hspare => ?off⟩,
    fun w hwaiting hcold hgrid hidle => exec_coldSpareSwap hwaiting hcold hgrid hidle, fun hcal hintime => ?timeout⟩
  case spare => exact exec_coldStep_spare hcold hworks hidle hspare terms resid
  case off => exact exec_coldStep_off hcold hworks hidle hspare terms resid
  case timeout =>
    refine ⟨_, exec_convCalTimeout hcal hintime, ?_, fun hs => ?_⟩
    · rw [State.emit_now, (State.refreshHealth_sameTime ..).1, State.setRegBit_now, State.coldLate_now]
    · rw [State.convOf, State.emit_conv, State.refreshHealth_conv, State.setRegBit_conv, ← State.convOf,
        State.coldLate_convOf hs]
      exact ⟨rfl, rfl⟩

end Sys2Proof.Machine
end

section
/-! PROOFS. Triggers (R513 to R516, R520, R542, R629): the next pulse of a timer, an edge of an event line, and a class A
trigger that reaches its ready instant. -/

namespace Sys2Proof.Machine

/-! ### Pulses of a timer -/

/-- The first cycle from another on in which a timer pulses is one in which it pulses, and not before that one. -/
theorem State.pulses_of_pulseFrom {s : State} {k from_ c : Nat} (h : s.pulseFrom k from_ = some c) :
    s.pulses k c = true ∧ from_ ≤ c := by
  simp only [State.pulseFrom] at h
  simp only [State.pulses]
  split_ifs at h with hoff hper
  · obtain rfl := Option.some.inj h
    exact ⟨by simp, hoff⟩
  · obtain rfl := Option.some.inj h
    have hceil := Nat.lt_div_mul_add (a := from_ - s.regN (seqUnit (k / 4) * 256 + 0x40 + k % 4) +
      s.regN (seqUnit (k / 4) * 256 + 0x44 + k % 4) - 1) (Nat.pos_of_ne_zero hper)
    exact ⟨by simp [hper], by omega⟩

section Commands

variable {s : State}

/-- TT_PULSE of a timer that is on and pulses again in its tick: it pulses with the timers of the same cycle (R513). -/
theorem exec_ttPulse {k : Fin 8} {c : Nat}
    (hnext : s.pulseFrom k.val (max s.cyc (lookup 0 (s.seqOf (k.val / 4)).pulsed k.val - s.tickStart)) = some c)
    (hon : s.timerOn k.val = true) (hend : s.tickStart + c < s.tickEnd) :
    exec (.ttPulse k) s = .next ((s.reach (s.tickStart + c)).timerPulses (s.timersAt c) (s.tickStart + c)) := by
  show execTtPulse k s = _
  simp only [execTtPulse, hnext]
  rw [if_neg (by simp [hon, hend])]

/-! ### Edges of an event line -/

/-- No active region owns an event line (R629). -/
theorem State.fevOwned_eq_false {n : Nat} (h : ∀ r b, r < 8 → s.isActive (0x20 + r) = true → s.body r = some b →
    b.ownFev.testBit n = false) : s.fevOwned n = false := by
  refine List.any_eq_false.2 fun r hr => ?_
  rw [List.mem_range] at hr
  rw [Bool.and_eq_true, not_and]
  intro hactive
  cases hbody : s.body r with
  | none => simp
  | some b => simp [h r b hr hactive hbody]

theorem exec_fevEdge_owned {n : Fin 16} (hdoze : s.dozeTick = false) (howned : s.fevOwned n.val = true) (rising : Bool) :
    let z := s.slotTrigs [0x10 + n.val] fun w => w.bit (if rising then 6 else 7)
    exec (.fevEdge n rising) s = .next (if rising then z.holdCells (8 + n.val) z.now else z) := by
  show execFevEdge n rising s = _
  simp only [execFevEdge, hdoze, howned]
  rfl

theorem exec_fevEdge_unowned {n : Fin 16} (howned : s.fevOwned n.val = false) (rising : Bool) :
    exec (.fevEdge n rising) s = .next s := by
  show execFevEdge n rising s = _
  simp [execFevEdge, howned]

/-! ### A class A trigger at its ready instant -/

/-- The state at the ready instant of the one class A trigger of a sequencer, which waits no longer. -/
def State.atReady (s : State) (n : Nat) (t : Trig) : State :=
  (s.reach t.ready).setSeq n { s.seqOf n with trigs := [] }

/-- A class A run starts on a trigger without a plan item: it takes the multiplexer, and its samples begin on the first grid
instant 8 cycles after the ready instant (R516, R520). -/
def State.startRunA (z : State) (n : Nat) (t : Trig) : State :=
  let t0 := z.gridFrom n (t.ready + 8)
  let x := (z.bump (seqUnit n * 256 + 7)).preempt n t.ready
    (((z.runTimes n [] 32 t.first t0).getLast?.map fun p => p.2).getD t0)
  x.setSeq n { x.seqOf n with
    a := some { first := t.first, next := t.first, t := t0, pre := false, prevT := none, brks := [], item := none,
                tags := x.tagsNow n } }

section TriggerReady

variable {c : Side} {t : Trig} (htrigs : (s.seqOf (sideN c)).trigs = [t]) (hstop : s.pwr.stopped = false)
  (hitem : t.item = none)
include htrigs hstop hitem

/-- TRIGGER_READY of the one class A trigger of a sequencer, without a plan item: its three outcomes. -/
theorem exec_triggerReady_single : let z := s.atReady (sideN c) t
    exec (.triggerReady c) s = .next (if !z.seqReady (sideN c) then z.ignoreTrig (sideN c)
      else if (z.seqOf (sideN c)).a.isSome then z.bump 0x010B else z.startRunA (sideN c) t) := by
  have hseq : (s.reach t.ready).seqOf (sideN c) = s.seqOf (sideN c) := by rw [State.seqOf, State.reach_seq, ← State.seqOf]
  show execTriggerReady c s = _
  simp only [execTriggerReady, htrigs, List.foldl_cons, List.foldl_nil, hstop, hseq, hitem, List.erase_cons_head]
  rfl

/-- It is ignored where the sequencer or its converter is not RUNNING (R515). -/
theorem exec_triggerReady_ignored (hready : (s.atReady (sideN c) t).seqReady (sideN c) = false) :
    exec (.triggerReady c) s = .next ((s.atReady (sideN c) t).ignoreTrig (sideN c)) := by
  rw [exec_triggerReady_single htrigs hstop hitem, if_pos (by simpa using hready)]

/-- It is merged into a class A run that runs, and counted (R58, R542). -/
theorem exec_triggerReady_merged (hready : (s.atReady (sideN c) t).seqReady (sideN c) = true)
    (hbusy : ((s.atReady (sideN c) t).seqOf (sideN c)).a ≠ none) :
    exec (.triggerReady c) s = .next ((s.atReady (sideN c) t).bump 0x010B) := by
  rw [exec_triggerReady_single htrigs hstop hitem, if_neg (by simpa using hready),
    if_pos (Option.isSome_iff_ne_none.2 hbusy)]

/-- Else it starts a run. -/
theorem exec_triggerReady_starts (hready : (s.atReady (sideN c) t).seqReady (sideN c) = true)
    (hidle : ((s.atReady (sideN c) t).seqOf (sideN c)).a = none) :
    exec (.triggerReady c) s = .next ((s.atReady (sideN c) t).startRunA (sideN c) t) := by
  rw [exec_triggerReady_single htrigs hstop hitem, if_neg (by simpa using hready), if_neg (by simpa using hidle)]

end TriggerReady

end Commands

/-- Settles O39: a pulse of a timer, an edge of a line that is owned or not, and the three outcomes of a class A trigger. -/
theorem triggersStartRuns : Obligations.TriggersStartRuns := by
  refine fun s => ⟨fun k c hnext hon hend => ?pulse,
    fun n rising hdoze => ⟨fun howned => ?owned, fun hnone => ?unowned⟩, fun c t htrigs hstop hitem => ?trigger⟩
  case pulse =>
    obtain ⟨hpulses, hfrom⟩ := State.pulses_of_pulseFrom hnext
    exact ⟨hpulses, le_of_max_le_left hfrom, exec_ttPulse hnext hon hend⟩
  case owned => exact exec_fevEdge_owned hdoze howned rising
  case unowned => exact exec_fevEdge_unowned (State.fevOwned_eq_false hnone) rising
  case trigger =>
    exact ⟨exec_triggerReady_starts htrigs hstop hitem, exec_triggerReady_merged htrigs hstop hitem,
      exec_triggerReady_ignored htrigs hstop hitem⟩

end Sys2Proof.Machine
end

section
/-! PROOFS. The result words of a class B or C run that go to a ring (R346, R469, R517, R526 to R529). -/

namespace Sys2Proof.Machine

/-! ### A word on its way to a ring -/

/-- A word of sequencer `n` under entry `e` waits for its ring (R529). -/
def State.sendRing (z : State) (n : Nat) (e w : Word) (tags : List Tag) : State :=
  { z with mem := { z.mem with rings := z.mem.rings ++
      [{ cls := entryClass e, prod := n, ring := e.bits 19 4, word := w, item := none, at_ := z.now, tags := tags }] } }

/-- A result over range is counted, and seen in the converter's status. -/
def State.markOver (z : State) (n : Nat) (ovr : Bool) : State :=
  if ovr then (z.bump (convUnit n * 256 + 0x0B)).setRegBit (convUnit n * 256 + 6) 0 5 true else z

theorem State.markOver_eq (z : State) (n : Nat) (ovr : Bool) :
    z.markOver n ovr = { z with regs := (z.markOver n ovr).regs } := by
  cases ovr <;> rfl

theorem State.feedPort_jobs (z : State) (port prod : Nat) (w : Word) (tags : List Tag) :
    (z.feedPort port prod w tags).jobs = z.jobs := z.feedPort_proj _ (fun _ _ _ => rfl) (fun _ _ => rfl) ..

/-- A result word of a class B or C run goes to the direct stream and to its ring (R526), and the run goes on as `r`. -/
def State.deliverRing (z : State) (n : Nat) (e w : Word) (ovr : Bool) (tags : List Tag) (r : Run) : State :=
  let x := ((z.markOver n ovr).feedPort n (seqUnit n) w tags).sendRing n e w tags
  (x.setSeq n { x.seqOf n with bc := some r }).settleRun n false

/-- A run that waits for a ring write of its own is not finished (R517). -/
theorem State.settleRun_pending {s : State} {n : Nat} {isA : Bool}
    (h : (s.mem.rings.any fun w => w.prod == n && (w.cls == 1) == isA) = true) : s.settleRun n isA = s := by
  unfold State.settleRun
  dsimp only
  split
  · rfl
  · rw [if_neg (by simp [h])]

/-- The delivery leaves the clock, the memories, the chains and the units; its word is the last that waits for a ring. -/
theorem State.deliverRing_eq (z : State) {n : Nat} {e : Word} (hclass : 1 < entryClass e) (w : Word) (ovr : Bool)
    (tags : List Tag) (r : Run) :
    let t := z.deliverRing n e w ovr tags r
    t.mem = (z.sendRing n e w tags).mem ∧ t.now = z.now ∧ t.filt = z.filt ∧ t.units = z.units := by
  unfold State.deliverRing
  dsimp only
  rw [State.settleRun_pending]
  · rw [State.markOver_eq]
    simp [State.sendRing]
  · simp [State.sendRing, show entryClass e ≠ 1 by omega]

theorem State.findJob_of_jobs {s t : State} (h : t.jobs = s.jobs) (f : JobKind → Bool) : t.findJob f = s.findJob f := by
  rw [State.findJob, h, ← State.findJob]

/-! ### The next entry of a run -/

section Delivery

variable {s : State} {c : Side} {dt : Nat} {smp : Sample} {r : Run}

/-- The state in which the next entry of run `r` leaves its sequencer: `dt` cycles from now, but not before its sampling
instant and at most 48 cycles after it (R517). -/
def State.atDelivery (s : State) (r : Run) (dt : Nat) : State := s.reach (max r.t (min (s.now + dt) (r.t + 48)))

theorem State.atDelivery_now_le (h : s.now ≤ r.t + 48) : (s.atDelivery r dt).now ≤ r.t + 48 := by
  rw [State.atDelivery, State.reach_now]
  omega

/-- RESULT_WORD_DELIVERY of an entry that names a ring, and neither a chain nor an armed snapshot. -/
theorem exec_resultWordDelivery_ring (hrun : (s.seqOf (sideN c)).bc = some r) (hnext : r.next < 32)
    (hclass : 1 < entryClass ((s.atDelivery r dt).entryAt (sideN c) r.t r.next))
    (hchain : ((s.atDelivery r dt).entryAt (sideN c) r.t r.next).bit 23 = false)
    (hring : ((s.atDelivery r dt).entryAt (sideN c) r.t r.next).bit 18 = true)
    (hsnap : (s.findJob fun j => match j with
      | .capture cc en .. => cc == c && en == r.next
      | _ => false) = none) :
    let n := sideN c
    let z := s.atDelivery r dt
    let e := z.entryAt n r.t r.next
    ∃ (nb sus cal last : Bool) (r' : Run), (e.bit 27 = true → last = true) ∧
      exec (.resultWordDelivery c dt false smp) s = .next (z.deliverRing n e
        (packResult ((z.correct n r.t nb smp).1 * 256) r.next (flagBits sus cal (z.correct n r.t nb smp).2 r.pre last))
        (z.correct n r.t nb smp).2 [(seqUnit n, r.tags.1), (convUnit n, r.tags.2)] r') := by
  intro n z e
  show ∃ nb sus cal last r', _ ∧ execResultWordDelivery c dt false smp s = _
  unfold execResultWordDelivery
  extract_lets b q put
  split
  case h_1 h => exact absurd (h.symm.trans hrun) (by simp)
  case h_2 r' h =>
    obtain rfl : r' = r := Option.some.inj (h.symm.trans hrun)
    rw [if_neg (by omega)]
    extract_lets s1 iv e nextT nx last pv nb v cv closed pins susMap cal w tags s2 m2 s3 s4 m4 s5
    replace hclass : ¬ entryClass e = 0 := Nat.ne_of_gt (Nat.zero_lt_of_lt hclass)
    replace hchain : ¬ e.bit 23 = true := ne_true_of_eq_false hchain
    have hjobs : s2.jobs = s.jobs :=
      ((s1.markOver n v.2).feedPort_jobs ..).trans (by rw [State.markOver_eq, State.reach_jobs])
    have h3 : s3 = s2 := by
      simp only [s3]
      split
      · rfl
      · next j hj => exact absurd (hj.symm.trans ((State.findJob_of_jobs hjobs _).trans hsnap)) (by simp)
    have h5 : s5 = s2.sendRing n e w tags := by
      rw [← h3, ← (if_neg hchain : s4 = s3)]
      exact if_pos hring
    rw [if_neg hclass, h5]
    exact ⟨nb, _, cal, last, _, fun hend : e.bit 27 = true => by simp [last, hend], rfl⟩

end Delivery

/-- Settles O40: the delivery of an entry that names a ring, and what it leaves. -/
theorem resultWordsEnterRings : Obligations.ResultWordsEnterRings := by
  intro s c dt smp r n z e hrun hnext hclass hchain hring hsnap
  obtain ⟨nb, sus, cal, last, r', hlast, hexec⟩ :=
    exec_resultWordDelivery_ring (dt := dt) (smp := smp) hrun hnext hclass hchain hring hsnap
  obtain ⟨hmem, hnow, hfilt, hunits⟩ := z.deliverRing_eq hclass
    (packResult ((z.correct n r.t nb smp).1 * 256) r.next (flagBits sus cal (z.correct n r.t nb smp).2 r.pre last))
    (z.correct n r.t nb smp).2 [(seqUnit n, r.tags.1), (convUnit n, r.tags.2)] r'
  have hzmem : z.mem = s.mem := State.reach_mem ..
  exact ⟨_, nb, sus, cal, last, hexec, (congrArg MemSt.rings hmem).trans (congrArg (fun m : MemSt => m.rings ++ _) hzmem),
    hlast, hnow, fun hlate => hnow.le.trans (State.atDelivery_now_le hlate),
    (congrArg MemSt.sram hmem).trans (congrArg MemSt.sram hzmem : z.mem.sram = s.mem.sram),
    (congrArg MemSt.psram hmem).trans (congrArg MemSt.psram hzmem : z.mem.psram = s.mem.psram),
    hfilt.trans (State.reach_filt ..), hunits.trans (State.reach_units ..)⟩

end Sys2Proof.Machine
end

section
/-! PROOFS. Words that are written to a ring (R2, R338, R347, R350, R533, R538, R729). -/

namespace Sys2Proof.Machine

/-! ### Words in memory -/

/-- A word is what its four bytes make (R2). -/
theorem Word.ofBytes_of_bytes (w : Word) :
    Word.ofBytes (w.setWidth 8) ((w >>> 8).setWidth 8) ((w >>> 16).setWidth 8) ((w >>> 24).setWidth 8) = w := by
  unfold Word.ofBytes
  ext i hi
  simp only [BitVec.getElem_or, BitVec.getElem_shiftLeft, BitVec.getElem_setWidth, BitVec.getLsbD_setWidth,
    BitVec.getLsbD_ushiftRight]
  rw [← BitVec.getLsbD_eq_getElem hi]
  grind

/-- Of bytes that are written one after the other each is read at its place. -/
theorem State.sramByte_writeBytes_at {i : Nat} : ∀ (bs : List Byte) {s : State} {a : Nat}, s.memoryWf = true →
    (hi : i < bs.length) → (s.writeBytes State.setSramByte a bs).sramByte (a + i) = bs[i] := by
  induction i with
  | zero =>
    rintro (_ | ⟨b, bs⟩) s a hs hi
    · simp at hi
    · rw [State.writeBytes, State.sramByte_writeBytes bs (State.memoryWf_setSramByte hs a b) _ _ (by omega),
        State.sramByte_set ((State.memoryWf_iff s).1 hs).1, if_pos (Nat.add_zero a)]
      rfl
  | succ i ih =>
    rintro (_ | ⟨b, bs⟩) s a hs hi
    · simp at hi
    · rw [State.writeBytes, show a + (i + 1) = a + 1 + i by omega,
        ih bs (State.memoryWf_setSramByte hs a b) (by simpa using hi)]
      rfl

/-- A word is read where it was written. -/
theorem State.sramWord_setSramWord {s : State} (hs : s.memoryWf = true) (a : Nat) (w : Word) :
    (s.setSramWord a w).sramWord a = w := by
  have hbyte : ∀ i (hi : i < 4), (s.setSramWord a w).sramByte (a + i) = w.bytes[i] :=
    fun _ hi => State.sramByte_writeBytes_at w.bytes hs hi
  rw [State.sramWord, readWord, ← Nat.add_zero a, Nat.add_assoc, Nat.add_assoc, Nat.add_assoc]
  exact (congr (congr (congrArg₂ Word.ofBytes (hbyte 0 (by decide)) (hbyte 1 (by decide))) (hbyte 2 (by decide)))
    (hbyte 3 (by decide))).trans (Word.ofBytes_of_bytes w)

/-- Bytes outside a word that is written stay. -/
theorem State.sramByte_setSramWord {s : State} (hs : s.memoryWf = true) {a b : Nat} (w : Word)
    (hb : b < a ∨ a + 4 ≤ b) : (s.setSramWord a w).sramByte b = s.sramByte b :=
  State.sramByte_writeBytes w.bytes hs a b hb

theorem State.SameBytes.trans {x y z : State} (hxy : State.SameBytes x y) (hyz : State.SameBytes y z) :
    State.SameBytes x z :=
  ⟨hxy.1.trans hyz.1, hxy.2.1.trans hyz.2.1, hxy.2.2.trans hyz.2.2⟩

theorem State.reach_sameBytes (s : State) (t : Nat) : State.SameBytes (s.reach t) s := by simp

theorem State.SameBytes.reads {t s : State} (h : State.SameBytes t s) (b : Nat) :
    t.sramByte b = s.sramByte b ∧ t.psramByte b = s.psramByte b ∧ t.flashByte b = s.flashByte b := by
  obtain ⟨hsram, hpsram, hflash⟩ := h
  simp only [State.sramByte, State.psramByte, State.flashByte, hsram, hpsram, hflash, and_self]

/-- A word that is written changes SRAM alone. -/
theorem State.setSramWord_eq (s : State) (a : Nat) (w : Word) :
    s.setSramWord a w = { s with mem := { s.mem with sram := (s.setSramWord a w).mem.sram } } :=
  State.writeBytes_keeps (P := fun z => z = { s with mem := { s.mem with sram := z.mem.sram } }) (f := State.setSramByte)
    (fun z a b h => by rw [h]; rfl) w.bytes s a rfl

theorem State.setSramWord_reads_other (s : State) (a : Nat) (w : Word) (b : Nat) :
    (s.setSramWord a w).psramByte b = s.psramByte b ∧ (s.setSramWord a w).flashByte b = s.flashByte b := by
  rw [State.setSramWord_eq]
  exact ⟨rfl, rfl⟩

/-- The bytes of a state in which a word has been written, and nothing else. -/
theorem State.SameBytes.reads_word {t s : State} (hs : s.memoryWf = true) {a : Nat} {w : Word}
    (h : State.SameBytes t (s.setSramWord a w)) :
    t.sramWord a = w ∧ (∀ b, b < a ∨ a + 4 ≤ b → t.sramByte b = s.sramByte b) ∧
      ∀ b, t.psramByte b = s.psramByte b ∧ t.flashByte b = s.flashByte b := by
  have hword : t.sramWord a = (s.setSramWord a w).sramWord a := by
    simp only [State.sramWord, readWord, fun b => (h.reads b).1]
  refine ⟨hword.trans (State.sramWord_setSramWord hs a w),
    fun b hb => (h.reads b).1.trans (State.sramByte_setSramWord hs w hb), fun b => ?_⟩
  obtain ⟨-, hpsram, hflash⟩ := h.reads b
  rw [hpsram, hflash]
  exact s.setSramWord_reads_other a w b

/-- Where the bytes of two states are the same, they are so after the same write. -/
theorem State.SameBytes.setSramWord {t s : State} (h : State.SameBytes t s) (a : Nat) (w : Word) :
    State.SameBytes (t.setSramWord a w) (s.setSramWord a w) := by
  obtain ⟨hsram, hpsram, hflash⟩ := h
  refine ⟨?_, hpsram, hflash⟩
  simp [State.setSramWord, Word.bytes, State.writeBytes, State.setSramByte, hsram]

/-! ### Registers -/

theorem State.readsBut_trans {u : Nat} {x y z : State} (hxy : State.ReadsBut u x y) (hyz : State.ReadsBut u y z) :
    State.ReadsBut u x z :=
  ⟨hxy.1, fun id sub hid hsub => (hxy.2 id sub hid hsub).trans (hyz.2 id sub hid hsub)⟩

theorem State.readsBut_of_regs {u : Nat} {x y z : State} (h : x.regs = y.regs) (hyz : State.ReadsBut u y z) :
    State.ReadsBut u x z := by
  have hreg : ∀ id sub, x.reg id sub = y.reg id sub := fun id sub => by rw [State.reg, h, ← State.reg]
  refine ⟨?_, fun id sub hid hsub => (hreg id sub).trans (hyz.2 id sub hid hsub)⟩
  rw [State.regsWf, h]
  exact hyz.1

theorem State.setSramWord_regs (s : State) (a : Nat) (w : Word) : (s.setSramWord a w).regs = s.regs := by
  rw [State.setSramWord_eq]

theorem State.readsBut_reach {s : State} (hs : s.regsWf = true) (t : Nat) : State.ReadsBut 6 (s.reach t) s :=
  State.readsBut_elapse hs _

/-- No register of a ring is one of the log's. -/
theorem ringId_unit {ring idx : Nat} (hidx : idx < 0x80) : ringId ring idx / 256 ≠ 6 := by
  unfold ringId ringUnit seqUnit
  omega

section Rings

variable {s : State}

/-- WR goes on to the next place of the ring, and from the last one to 0 (R533). -/
theorem State.advanceWr_reg (hs : s.regsWf = true) (ring : Nat) : (s.advanceWr ring).regsWf = true ∧
    (s.advanceWr ring).reg (ringId ring 0x60) =
      if s.regN (ringId ring 0x60) + 1 < ringSize (s.reg (ringId ring 0x58))
      then Word.of (s.regN (ringId ring 0x60) + 1) else 0 := by
  have hkey : regKey (ringId ring 0x60) 0 ≠ regKey (ringId ring 0x78) 0 := by
    unfold regKey ringId
    omega
  unfold State.advanceWr
  dsimp only
  split
  · exact ⟨State.regsWf_setReg hs .., State.reg_setReg_same hs ..⟩
  · have hzero := State.regsWf_setReg hs (ringId ring 0x60) 0 0
    refine ⟨State.regsWf_bump hzero .., ?_⟩
    rw [State.reg_bump hzero, if_neg hkey, State.reg_setReg_same hs]

theorem State.advanceWr_sameStored (ring : Nat) : State.SameStored (s.advanceWr ring) s := by
  simp [State.advanceWr]

/-- THRESH and its event leave WR (R536). -/
theorem State.refreshThresh_reg (hs : s.regsWf = true) (ring : Nat) :
    (s.refreshThresh ring).reg (ringId ring 0x60) = s.reg (ringId ring 0x60) := by
  have hstatus : regKey (ringId ring 0x60) 0 ≠ regKey (ringId ring 0x70) 0 := by
    unfold regKey ringId
    omega
  have hlost : regKey (ringId ring 0x60) 0 ≠ regKey 0x0603 0 := by
    have := ringId_unit (ring := ring) (idx := 0x60) (by decide)
    unfold regKey
    omega
  have hbit := State.regsWf_setRegBit hs (ringId ring 0x70) 0
  unfold State.refreshThresh
  dsimp only
  repeat' split
  all_goals simp only [State.reg_emit_other (State.regsWf_setRegBit (hbit ..) ..) hlost,
    State.reg_setRegBit_other (hbit ..) hstatus, State.reg_setRegBit_other hs hstatus]

theorem State.refreshThresh_sameStored (ring : Nat) : State.SameStored (s.refreshThresh ring) s := by
  simp [State.refreshThresh]

/-! ### One word of a ring -/

/-- The end of a ring write: the run or the FILT_EMIT item that it was the last of finishes (R517, R583). -/
def State.ringDone (s : State) (r : RingReq) : State :=
  if r.prod < 2 then s.settleRun r.prod (r.cls == 1) else s.emitDone (r.prod - 2)

/-- A word that waits for its ring no longer. -/
def State.takeRing (s : State) (r : RingReq) : State := { s with mem := { s.mem with rings := s.mem.rings.erase r } }

theorem exec_ringWrite {r : RingReq} (h : nextRing s.mem.rings = some r) (uncorr : Bool) :
    exec (.ringWrite uncorr) s = .next (((s.takeRing r).writeRing r uncorr).ringDone r) := by
  show execRingWrite uncorr s = _
  simp only [execRingWrite, h]
  rfl

theorem State.ringDone_sameStored (r : RingReq) : State.SameStored (s.ringDone r) s := by
  simp [State.ringDone]

theorem State.settleRun_regs (n : Nat) (isA : Bool) : (s.settleRun n isA).regs = s.regs := by
  unfold State.settleRun State.runDone
  dsimp only
  repeat' split
  all_goals rfl

theorem State.emitDone_regs (f : Nat) : (s.emitDone f).regs = s.regs := by
  unfold State.emitDone
  repeat' split
  all_goals rfl

theorem State.ringDone_reg (r : RingReq) (id : Nat) : (s.ringDone r).reg id = s.reg id := by
  unfold State.ringDone State.reg
  split
  · rw [State.settleRun_regs]
  · rw [State.emitDone_regs]

/-- A word that is only counted stores nothing. -/
theorem State.ringDone_bump (hs : s.regsWf = true) (r : RingReq) (id : Nat) :
    State.SameBytes ((s.bump id).ringDone r) s ∧ ((s.bump id).ringDone r).reg id = satAdd (s.reg id) 1 := by
  refine ⟨(State.ringDone_sameStored r).1.trans (State.bumpBy_sameStored s id 0 1).1, ?_⟩
  rw [State.ringDone_reg, State.reg_bump hs, if_pos rfl]

/-- While an access waits for its bank no byte changes, and no register but those of the log (R728). -/
theorem State.grant_waits (hs : s.regsWf = true) (bank cls : Nat) (rmw : Bool) :
    State.SameBytes (s.grant bank cls rmw) s ∧ State.ReadsBut 6 (s.grant bank cls rmw) s :=
  ⟨by simp [State.grant], State.readsBut_reach hs _⟩

/-- SRAM takes a word that meets no uncorrectable error: the word is stored, and while its bank is waited for no register
changes but those of the log (R728, R729). -/
theorem State.ringStore_word (hs : s.regsWf = true) (r : RingReq) (a : Nat) :
    State.SameBytes (s.ringStore r a false) (s.setSramWord a r.word) ∧ State.ReadsBut 6 (s.ringStore r a false) s := by
  unfold State.ringStore
  split
  · exact ⟨⟨rfl, rfl, rfl⟩,
      State.readsBut_of_regs (State.setSramWord_regs ..) (State.readsBut_refl hs 6)⟩
  · split
    · obtain ⟨hbytes, hreads⟩ := State.grant_waits hs (bankOf a) r.cls false
      exact ⟨hbytes.setSramWord a r.word, State.readsBut_of_regs (State.setSramWord_regs ..) hreads⟩
    · have hwait := State.readsBut_reach hs (if a % 8 = 0 then r.at_ + 8 else s.now)
      obtain ⟨hbytes, hreads⟩ := State.grant_waits hwait.1 (bankOf a) r.cls true
      exact ⟨State.SameBytes.setSramWord (hbytes.trans (State.reach_sameBytes ..)) a r.word,
        State.readsBut_of_regs (State.setSramWord_regs ..) (State.readsBut_trans hreads hwait)⟩

/-- A word is stored at its ring's write position, which goes on by one (R533). -/
theorem State.ringStore_done (hs : s.regsWf = true) (r : RingReq) (a : Nat) :
    let t := (((s.ringStore r a false).advanceWr r.ring).refreshThresh r.ring).ringDone r
    State.SameBytes t (s.setSramWord a r.word) ∧ t.reg (ringId r.ring 0x60) =
      if s.regN (ringId r.ring 0x60) + 1 < ringSize (s.reg (ringId r.ring 0x58))
      then Word.of (s.regN (ringId r.ring 0x60) + 1) else 0 := by
  obtain ⟨hbytes, hreads⟩ := State.ringStore_word hs r a
  obtain ⟨hwf, hwr⟩ := State.advanceWr_reg hreads.1 r.ring
  refine ⟨(State.ringDone_sameStored r).1.trans ((State.refreshThresh_sameStored r.ring).1.trans
    ((State.advanceWr_sameStored r.ring).1.trans hbytes)), ?_⟩
  rw [State.ringDone_reg, State.refreshThresh_reg hwf, hwr, State.regN, State.regN,
    hreads.2 _ 0 (ringId_unit (by decide)) (by decide), hreads.2 _ 0 (ringId_unit (by decide)) (by decide)]

/-! ### What becomes of a word (R338, R347, R350, R533, R538) -/

section Outcomes

variable {r : RingReq}

theorem State.writeRing_stale (htags : s.staleTags r.tags = true) (uncorr : Bool) :
    s.writeRing r uncorr = s.discard (ringUnit r.ring) := if_pos htags

variable (htags : s.staleTags r.tags = false)
include htags

theorem State.writeRing_disabled (hoff : (s.reg (ringId r.ring 0x58)).bit 11 = false) (uncorr : Bool) :
    s.writeRing r uncorr = s.absentDrop (prodUnit r.prod) := by
  simp [State.writeRing, htags, hoff]

/-- A ring in SRAM that has room takes the word at its write position, which goes on by one. -/
theorem State.writeRing_room (hon : (s.reg (ringId r.ring 0x58)).bit 11 = true)
    (hseq : s.isRunning (ringUnit r.ring) = true) (hspace : (s.reg (ringId r.ring 0x58)).bit 5 = false)
    (hsram : s.isRunning 0x3C = true) (hroom : s.ringLevel r.ring + 1 < ringSize (s.reg (ringId r.ring 0x58)))
    (uncorr : Bool) : s.writeRing r uncorr =
      ((s.ringStore r (s.ringAddr r.ring) uncorr).advanceWr r.ring).refreshThresh r.ring := by
  have hfull : ¬ ringSize (s.reg (ringId r.ring 0x58)) - 1 ≤ s.ringFill r.ring := by
    have hfill : s.ringFill r.ring = s.ringLevel r.ring := by simp [State.ringFill, hspace]
    omega
  simp [State.writeRing, htags, hon, hseq, hspace, hsram, hfull]

end Outcomes

end Rings

/-- Settles O41: the word that is next meets a ring with room, a ring that is off, or is stale. -/
theorem ringWritesStore : Obligations.RingWritesStore := by
  intro s r hnext hsound cfg a _ _
  obtain ⟨hregs, hmem⟩ : s.regsWf = true ∧ s.memoryWf = true := by
    simp only [State.sound, State.formsWf, Bool.and_eq_true] at hsound
    obtain ⟨⟨⟨⟨⟨⟨hregs, -⟩, -⟩, hmem⟩, -⟩, -⟩, -⟩ := hsound
    exact ⟨hregs, hmem⟩
  have hexec := exec_ringWrite hnext false
  have hcounted := State.ringDone_bump (s := s.takeRing r) hregs r
  refine ⟨fun htags hon hseq hspace hsram hroom => ?room, fun htags hoff => ?disabled, fun htags => ?stale⟩
  case room =>
    rw [State.writeRing_room (s := s.takeRing r) htags hon hseq hspace hsram hroom] at hexec
    obtain ⟨hbytes, hwr⟩ := State.ringStore_done (s := s.takeRing r) hregs r a
    obtain ⟨hword, hrest, hother⟩ := State.SameBytes.reads_word (s := s.takeRing r) hmem hbytes
    exact ⟨_, hexec, hword, hrest, hother, hwr⟩
  case disabled =>
    rw [State.writeRing_disabled (s := s.takeRing r) htags hoff, State.absentDrop_eq] at hexec
    obtain ⟨hbytes, hcount⟩ := hcounted (prodUnit r.prod * 256 + 0xF4)
    exact ⟨_, hexec, hbytes.reads, hcount⟩
  case stale =>
    rw [State.writeRing_stale (s := s.takeRing r) htags, State.discard_eq] at hexec
    obtain ⟨hbytes, hcount⟩ := hcounted (ringUnit r.ring * 256 + 0xF3)
    exact ⟨_, hexec, hbytes.reads, hcount⟩

end Sys2Proof.Machine
end


section
/-! PROOFS. The queue and the canonical forms (R688, R727, R738): the register file, the units, the transports, the converters,
the regions and the three memories. One lemma for each operation says that it leaves the queue and keeps every form
(`KeepsForms`); an operation that another one alone uses is unfolded there. First the relations, and the operations that all
parts share: a map changes by `insert`, the register file by `insertReg`, and both lose entries. -/

namespace Sys2Proof.Machine

/-! ### States that keep their forms -/

/-- The map `y` is in its canonical form if `x` is. -/
def MapKept {α : Type} (wf : List (Nat × α) → Bool) (y x : List (Nat × α)) : Prop := wf x = true → wf y = true

/-- `MapKept` as the side of a rule of `KeepsForms` that simp leaves alone. -/
def MapEased {α : Type} (wf : List (Nat × α) → Bool) (y x : List (Nat × α)) : Prop := MapKept wf y x

/-- The canonical forms of the families of units, transports, converters and regions, by name: simp rewrites the default of a
family that is written out. -/
def unitsForm : List (Nat × UnitSt) → Bool := wfMap {}
def trForm : List (Nat × TrSt) → Bool := wfMap {}
def convForm : List (Nat × ConvSt) → Bool := wfMap {}
def regionForm : List (Nat × RegionSt) → Bool := wfMap {}

/-- `t` has the queue of `s`, and every canonical form that `s` has. -/
@[reducible, simp] def State.FormsKept (t s : State) : Prop :=
  t.pending = s.pending ∧ MapKept (wfRegsFrom 0) t.regs s.regs ∧ MapKept unitsForm t.units s.units ∧
  MapKept trForm t.tr s.tr ∧ MapKept convForm t.conv s.conv ∧ MapKept regionForm t.region s.region ∧
  MapKept (wfMap sramDefault) t.mem.sram s.mem.sram ∧ MapKept (wfMap psramDefault) t.mem.psram s.mem.psram ∧
  MapKept (wfMap flashDefault) t.img.flash s.img.flash

/-- What makes `MapKept wf y` of a map follow from `MapKept wf x` of it, as a rule for simp: a form can hold of `y` where it
does not hold of `x`, and then the second side holds. -/
@[reducible, simp] def KeepsMap {α : Type} (wf : List (Nat × α) → Bool) (y x : List (Nat × α)) : Prop :=
  ∀ m, MapKept wf y m ↔ MapKept wf x m ∨ MapEased wf y m

/-- The same as rules for simp: a goal about `t` becomes one about `s`. -/
@[reducible, simp] def State.KeepsForms (t s : State) : Prop :=
  t.pending = s.pending ∧ KeepsMap (wfRegsFrom 0) t.regs s.regs ∧ KeepsMap unitsForm t.units s.units ∧
  KeepsMap trForm t.tr s.tr ∧ KeepsMap convForm t.conv s.conv ∧ KeepsMap regionForm t.region s.region ∧
  KeepsMap (wfMap sramDefault) t.mem.sram s.mem.sram ∧ KeepsMap (wfMap psramDefault) t.mem.psram s.mem.psram ∧
  KeepsMap (wfMap flashDefault) t.img.flash s.img.flash

section Maps

variable {α : Type} {wf : List (Nat × α) → Bool} {x y z : List (Nat × α)}

theorem MapKept.trans (hz : MapKept wf z y) (hy : MapKept wf y x) : MapKept wf z x := fun h => hz (hy h)
@[simp] theorem MapKept.refl (x : List (Nat × α)) : MapKept wf x x := id
theorem MapKept.keeps (h : MapKept wf y x) : KeepsMap wf y x := fun _ => ⟨.inr, fun h' => h'.elim h.trans id⟩
@[simp] theorem mapKept_ite (c : Prop) [Decidable c] :
    MapKept wf (if c then z else y) x ↔ if c then MapKept wf z x else MapKept wf y x := by split <;> rfl

variable [DecidableEq α] {d : α}

@[simp] theorem mapKept_nil (x : List (Nat × α)) : MapKept (wfMap d) [] x := fun _ => rfl
@[simp] theorem insert_keepsMap (m : List (Nat × α)) (k : Nat) (v : α) : KeepsMap (wfMap d) (insert d m k v) m :=
  MapKept.keeps fun h => wfMap_insert h k v
@[simp] theorem filter_keepsMap (m : List (Nat × α)) (f : Nat × α → Bool) : KeepsMap (wfMap d) (m.filter f) m :=
  MapKept.keeps fun h => wfMap_filter h f

end Maps

theorem State.KeepsForms.of {t s : State} (h : State.FormsKept t s) : State.KeepsForms t s := by
  obtain ⟨hq, hregs, hunits, htr, hconv, hregion, hsram, hpsram, hflash⟩ := h
  exact ⟨hq, hregs.keeps, hunits.keeps, htr.keeps, hconv.keeps, hregion.keeps, hsram.keeps, hpsram.keeps, hflash.keeps⟩

theorem State.FormsKept.trans {u t s : State} (h : State.FormsKept u t) (h' : State.FormsKept t s) : State.FormsKept u s := by
  obtain ⟨hq, hregs, hunits, htr, hconv, hregion, hsram, hpsram, hflash⟩ := h
  obtain ⟨hq', hregs', hunits', htr', hconv', hregion', hsram', hpsram', hflash'⟩ := h'
  exact ⟨hq.trans hq', hregs.trans hregs', hunits.trans hunits', htr.trans htr', hconv.trans hconv', hregion.trans hregion',
    hsram.trans hsram', hpsram.trans hpsram', hflash.trans hflash'⟩

theorem State.FormsKept.refl (s : State) : State.FormsKept s s := by simp

/-- The queue and the maps after one of two ways of going on. -/
@[simp] theorem State.ite_forms (c : Prop) [Decidable c] (a b : State) :
    (if c then a else b).pending = (if c then a.pending else b.pending) ∧
    (if c then a else b).regs = (if c then a.regs else b.regs) ∧
    (if c then a else b).units = (if c then a.units else b.units) ∧
    (if c then a else b).tr = (if c then a.tr else b.tr) ∧
    (if c then a else b).conv = (if c then a.conv else b.conv) ∧
    (if c then a else b).region = (if c then a.region else b.region) := by
  split <;> simp

section Repeated

variable {α : Type} {f : State → α → State}

@[simp] theorem State.foldl_keepsForms (hf : ∀ z a, State.FormsKept (f z a) z) (l : List α) (s : State) :
    State.KeepsForms (l.foldl f s) s :=
  .of (State.each_keeps (P := fun z => State.FormsKept z s) (fun z a hz => (hf z a).trans hz) l s (.refl s))

@[simp] theorem State.each_keepsForms (hf : ∀ z a, State.FormsKept (f z a) z) (l : List α) (s : State) :
    State.KeepsForms (s.each l f) s := State.foldl_keepsForms hf l s

@[simp] theorem State.writeBytes_keepsForms {g : State → Nat → Byte → State}
    (hg : ∀ z a x, State.FormsKept (g z a x) z) (s : State) (a : Nat) (bs : List Byte) :
    State.KeepsForms (s.writeBytes g a bs) s :=
  .of (State.writeBytes_keeps (P := fun z => State.FormsKept z s) (fun z a x hz => (hg z a x).trans hz) bs s a
    (.refl s))

end Repeated

variable (s : State)

/-! ### What changes a map -/

@[simp] theorem State.setReg_keepsMap (id sub : Nat) (v : Word) : KeepsMap (wfRegsFrom 0) (s.setReg id sub v).regs s.regs :=
  MapKept.keeps fun h => State.regsWf_setReg h id sub v
@[simp] theorem State.setUnit_keepsMap (u : Nat) (x : UnitSt) : KeepsMap unitsForm (s.setUnit u x).units s.units :=
  MapKept.keeps fun h => wfMap_insert h _ x
@[simp] theorem State.setTr_keepsMap (n : Nat) (x : TrSt) : KeepsMap trForm (s.setTr n x).tr s.tr :=
  MapKept.keeps fun h => wfMap_insert h _ x
@[simp] theorem State.setConv_keepsMap (n : Nat) (x : ConvSt) : KeepsMap convForm (s.setConv n x).conv s.conv :=
  MapKept.keeps fun h => wfMap_insert h _ x
@[simp] theorem State.setRegion_keepsMap (n : Nat) (x : RegionSt) :
    KeepsMap regionForm (s.setRegion n x).region s.region :=
  MapKept.keeps fun h => wfMap_insert h _ x

@[simp] theorem State.setDma_bytes (n : Nat) (x : DmaSt) :
    (s.setDma n x).mem.sram = s.mem.sram ∧ (s.setDma n x).mem.psram = s.mem.psram := ⟨rfl, rfl⟩
@[simp] theorem State.setQueue_bytes (q : Nat) (x : QueueSt) :
    (s.setQueue q x).mem.sram = s.mem.sram ∧ (s.setQueue q x).mem.psram = s.mem.psram := ⟨rfl, rfl⟩

/-- Registers that are removed leave a register file in its canonical form. -/
theorem wfRegsFrom_filter (f : Nat × Word → Bool) : ∀ {m : List (Nat × Word)} {lo : Nat}, wfRegsFrom lo m = true →
    wfRegsFrom lo (m.filter f) = true
  | [], _, _ => rfl
  | (a, x) :: t, lo, hm => by
    simp only [wfRegsFrom, Bool.and_eq_true] at hm
    obtain ⟨ha, ht⟩ := hm
    have hlo : lo ≤ a := of_decide_eq_true ha.1
    have ih := wfRegsFrom_filter f ht
    by_cases c : f (a, x) = true
    · simp only [List.filter, c, wfRegsFrom, Bool.and_eq_true]
      exact ⟨ha, ih⟩
    · simp only [List.filter, c]
      exact wfRegsFrom_mono (by omega) ih
@[simp] theorem filter_keepsRegs (m : List (Nat × Word)) (f : Nat × Word → Bool) :
    KeepsMap (wfRegsFrom 0) (m.filter f) m := MapKept.keeps fun h => wfRegsFrom_filter f h

/-! ### Counters, events and time -/

@[simp] theorem State.bumpBy_keepsForms (id sub n : Nat) : State.KeepsForms (s.bumpBy id sub n) s := .of <| by
  simp [State.bumpBy]
@[simp] theorem State.bump_keepsForms (id sub : Nat) : State.KeepsForms (s.bump id sub) s := .of <| by
  simp [State.bump]
@[simp] theorem State.setRegBit_keepsForms (id sub i : Nat) (b : Bool) :
    State.KeepsForms (s.setRegBit id sub i b) s := .of <| by
  simp [State.setRegBit]
@[simp] theorem State.clearRegs_keepsForms (u : Nat) (keep : Nat → Bool) :
    State.KeepsForms (s.clearRegs u keep) s := .of <| by
  simp [State.clearRegs]
@[simp] theorem State.enter_keepsForms (e : Event) : State.KeepsForms (s.enter e) s := .of <| by
  unfold State.enter
  dsimp only
  split <;> simp
@[simp] theorem State.emit_keepsForms (u : Nat) (ev : Nat × Nat) (d : Nat) : State.KeepsForms (s.emit u ev d) s := .of <| by
  simp [State.emit]
theorem State.takeEvent_formsKept : State.FormsKept s.takeEvent s := by
  unfold State.takeEvent
  split
  · simp
  · dsimp only
    repeat' split
    all_goals simp
theorem State.takeEvents_formsKept : ∀ (n : Nat) (s : State), State.FormsKept (s.takeEvents n) s
  | 0, s => .refl s
  | n + 1, s => (State.takeEvents_formsKept n s.takeEvent).trans s.takeEvent_formsKept

/-- A cycle of the fabric, and cycles of it, change regions alone, each in its place. -/
theorem State.fabricStep_formsKept (t : Nat) : State.FormsKept (s.fabricStep t) s := by
  unfold State.fabricStep
  dsimp only
  split <;> simp
theorem State.fabricRun_formsKept (n : Nat) : State.FormsKept (s.fabricRun n) s := by
  unfold State.fabricRun
  split
  · simp
  · exact State.each_keeps (P := fun z => State.FormsKept z s) (fun z t hz => (z.fabricStep_formsKept t).trans hz) _ _
      (.refl s)
theorem State.elapse_formsKept (n : Nat) : State.FormsKept (s.elapse n) s := by
  unfold State.elapse
  exact (State.takeEvents_formsKept _ _).trans (s.fabricRun_formsKept n)
@[simp] theorem State.elapse_keepsForms (n : Nat) : State.KeepsForms (s.elapse n) s := .of (s.elapse_formsKept n)
@[simp] theorem State.reach_keepsForms (t : Nat) : State.KeepsForms (s.reach t) s := .of (s.elapse_formsKept _)

/-! ### Jobs -/

@[simp] theorem State.endJob_keepsForms (num status : Nat) (words : List Word) :
    State.KeepsForms (s.endJob num status words) s := .of <| by
  unfold State.endJob
  split <;> simp
@[simp] theorem State.setJob_keepsForms (num : Nat) (kind : JobKind) : State.KeepsForms (s.setJob num kind) s := .of <| by
  rw [State.setJob_eq]
  exact .refl s
@[simp] theorem State.startJob_keepsForms (op : Nat) (kind : JobKind) : State.KeepsForms (s.startJob op kind).1 s := .of <| by
  simp [State.startJob]
@[simp] theorem State.enqueue_keepsForms (op : Nat) (kind : JobKind) (clash : JobKind → Bool) :
    State.KeepsForms (s.enqueue op kind clash).1 s := .of <| by
  unfold State.enqueue
  split <;> simp [State.queued]

/-! ### Memories and counters -/

@[simp] theorem State.setSramByte_keepsForms (a : Nat) (b : Byte) :
    State.KeepsForms (s.setSramByte a b) s := .of <| by
  simp [State.setSramByte]
@[simp] theorem State.setFlashByte_keepsForms (a : Nat) (b : Byte) :
    State.KeepsForms (s.setFlashByte a b) s := .of <| by
  simp [State.setFlashByte]
@[simp] theorem State.setSramWord_keepsForms (a : Nat) (w : Word) :
    State.KeepsForms (s.setSramWord a w) s := .of <| by
  simp [State.setSramWord]
@[simp] theorem State.setPsramWord_keepsForms (a : Nat) (w : Word) :
    State.KeepsForms (s.setPsramWord a w) s := .of <| by
  simp [State.setPsramWord, State.setPsramByte]
@[simp] theorem State.absentDrop_keepsForms (u : Nat) : State.KeepsForms (s.absentDrop u) s := .of <| by
  simp [State.absentDrop]
@[simp] theorem State.gone_keepsForms (u : Nat) : State.KeepsForms (s.gone u) s := .of <| by
  simp [State.gone]

/-! ### The fabric as a netlist -/

@[simp] theorem State.saveGate_keepsForms (r : Nat) : State.KeepsForms (s.saveGate r) s := .of <| by
  unfold State.saveGate
  split <;> simp
@[simp] theorem State.scramble_keepsForms (r : Nat) (f : CellCfg → Bool) :
    State.KeepsForms (s.scramble r f) s := .of <| by
  unfold State.scramble
  split <;> simp
@[simp] theorem State.scrambleMacs_keepsForms (r : Nat) (f : MacCfg → Bool) :
    State.KeepsForms (s.scrambleMacs r f) s := .of <| by
  unfold State.scrambleMacs
  split <;> simp

/-! ### Flags that follow the state -/

@[simp] theorem State.refreshHold_keepsForms (boundary : Bool) :
    State.KeepsForms (s.refreshHold boundary) s := .of <| by
  simp [State.refreshHold]
@[simp] theorem State.refreshThresh_keepsForms (ring : Nat) : State.KeepsForms (s.refreshThresh ring) s := .of <| by
  simp [State.refreshThresh]
@[simp] theorem State.setClosed_keepsForms (at_ : Nat) (l : List (Nat × Nat)) :
    State.KeepsForms (s.setClosed at_ l) s := .of <| by
  simp [State.setClosed]

/-! ### Wire checks -/

@[simp] theorem State.keepUp_keepsForms : State.KeepsForms s.keepUp s := .of <| by
  unfold State.keepUp
  split <;> simp
@[simp] theorem State.mapRun_keepsForms (f : WireRun → WireRun) : State.KeepsForms (s.mapRun f) s := .of <| by
  unfold State.mapRun
  split <;> simp
@[simp] theorem State.withdrawStep_keepsForms (ch : Nat) : State.KeepsForms (s.withdrawStep ch) s := .of <| by
  simp [State.withdrawStep]
@[simp] theorem State.dropWireRuns_keepsForms (f : WireRun → Bool) :
    State.KeepsForms (s.dropWireRuns f) s := .of <| by
  simp [State.dropWireRuns]

/-! ### Converters -/

@[simp] theorem State.refreshStalled_keepsForms (n : Nat) : State.KeepsForms (s.refreshStalled n) s := .of <| by
  simp [State.refreshStalled]
@[simp] theorem State.refreshHealth_keepsForms (n : Nat) : State.KeepsForms (s.refreshHealth n) s := .of <| by
  simp [State.refreshHealth]
@[simp] theorem State.startCold_keepsForms (n : Nat) : State.KeepsForms (s.startCold n) s := .of <| by
  unfold State.startCold
  dsimp only
  repeat' split
  all_goals simp
@[simp] theorem State.stopConv_keepsForms (n : Nat) : State.KeepsForms (s.stopConv n) s := .of <| by
  simp [State.stopConv]

/-! ### Bursts and drains -/

@[simp] theorem State.spaceWrite_keepsForms (xspi : Bool) (a : Nat) (w : Word) :
    State.KeepsForms (s.spaceWrite xspi a w) s := .of <| by
  simp [State.spaceWrite]
@[simp] theorem State.countBytes_keepsForms (x1 : Bool) (n : Nat) :
    State.KeepsForms (s.countBytes x1 n) s := .of <| by
  simp [State.countBytes]
@[simp] theorem State.unpoison_keepsForms (k : Nat) : State.KeepsForms (s.unpoison k) s := .of <| by
  simp [State.unpoison]
@[simp] theorem State.writeBurst_keepsForms (n : Nat) (ws : List Word) :
    State.KeepsForms (s.writeBurst n ws) s := .of <| by
  simp [State.writeBurst]
@[simp] theorem State.eccUncorr_keepsForms (w : Nat) : State.KeepsForms (s.eccUncorr w) s := .of <| by
  simp [State.eccUncorr]
@[simp] theorem State.readSram_keepsForms (src n : Nat) (ecc : Ecc) :
    State.KeepsForms (s.readSram src n ecc).1 s := .of <| by
  unfold State.readSram
  split <;> simp
@[simp] theorem State.cutBurst_keepsForms (n : Nat) : State.KeepsForms (s.cutBurst n) s := .of <| by
  simp [State.cutBurst]
@[simp] theorem State.writeDrain_keepsForms (ws : List (Nat × Word)) :
    State.KeepsForms (s.writeDrain ws) s := .of <| by
  simp [State.writeDrain]
@[simp] theorem State.cutDrain_keepsForms (q : Nat) : State.KeepsForms (s.cutDrain q) s := .of <| by
  unfold State.cutDrain
  dsimp only
  split <;> simp

end Sys2Proof.Machine
end

section
/-! PROOFS. The queue and the canonical forms: units, their runs, plan items, filter chains and sequences. -/

namespace Sys2Proof.Machine

variable (s : State)

/-! ### Units -/

@[simp] theorem State.endCapture_keepsForms (j : Job) : State.KeepsForms (s.endCapture j) s := .of <| by
  unfold State.endCapture
  split <;> simp
@[simp] theorem State.discard_keepsForms (u : Nat) : State.KeepsForms (s.discard u) s := .of <| by
  simp [State.discard]
@[simp] theorem State.feedPort_keepsForms (port prod : Nat) (w : Word) (tags : List Tag) :
    State.KeepsForms (s.feedPort port prod w tags) s := .of <| by
  simp [State.feedPort]
@[simp] theorem State.discardPort_keepsForms (port : Nat) : State.KeepsForms (s.discardPort port) s := .of <| by
  simp [State.discardPort]
@[simp] theorem State.landReplies_keepsForms (before : Nat) : State.KeepsForms (s.landReplies before) s := .of <| by
  simp [State.landReplies, State.landReply, State.sramReply]
@[simp] theorem State.dropFlights_keepsForms (p : Flight → Bool) : State.KeepsForms (s.dropFlights p) s := .of <| by
  simp [State.dropFlights]
@[simp] theorem State.discardRun_keepsForms (n : Nat) (r : Option Run) :
    State.KeepsForms (s.discardRun n r) s := .of <| by
  unfold State.discardRun
  split <;> simp
@[simp] theorem State.abandonRuns_keepsForms (n : Nat) : State.KeepsForms (s.abandonRuns n) s := .of <| by
  simp [State.abandonRuns]
@[simp] theorem State.dropRun_keepsForms (n : Nat) : State.KeepsForms (s.dropRun n) s := .of <| by
  simp [State.dropRun]
@[simp] theorem State.dropSeqItem_keepsForms (n idx : Nat) : State.KeepsForms (s.dropSeqItem n idx) s := .of <| by
  simp [State.dropSeqItem, State.dropRunA]
@[simp] theorem State.dropOuts_keepsForms (f : Nat) : State.KeepsForms (s.dropOuts f) s := .of <| by
  simp [State.dropOuts]
@[simp] theorem State.dropItem_keepsForms (r : RunItem) : State.KeepsForms (s.dropItem r) s := .of <| by
  unfold State.dropItem
  dsimp only
  repeat' split
  all_goals simp
@[simp] theorem State.endSwap_keepsForms (f status : Nat) : State.KeepsForms (s.endSwap f status) s := .of <| by
  unfold State.endSwap
  split <;> simp
@[simp] theorem State.flipBank_keepsForms (f : Nat) : State.KeepsForms (s.flipBank f) s := .of <| by
  simp [State.flipBank]
@[simp] theorem State.endFade_keepsForms (f : Nat) : State.KeepsForms (s.endFade f) s := .of <| by
  simp [State.endFade]
@[simp] theorem State.onLeave_keepsForms (u : Nat) (dst : UState) : State.KeepsForms (s.onLeave u dst) s := .of <| by
  simp [State.onLeave, State.leaveReplies, State.stopSeq]
@[simp] theorem State.onStop_keepsForms (u : Nat) : State.KeepsForms (s.onStop u) s := .of <| by
  simp [State.onStop, State.dropInbox, State.disarm, State.uartStop]
@[simp] theorem State.fabricReset_keepsForms (r : Nat) (ram : Bool) :
    State.KeepsForms (s.fabricReset r ram) s := .of <| by
  unfold State.fabricReset
  split <;> simp
@[simp] theorem State.fabricInit_keepsForms (r : Nat) : State.KeepsForms (s.fabricInit r) s := .of <| by
  simp [State.fabricInit]
@[simp] theorem State.onReset_keepsForms (u : Nat) : State.KeepsForms (s.onReset u) s := .of <| by
  simp [State.onReset]
@[simp] theorem State.onWake_keepsForms (u : Nat) : State.KeepsForms (s.onWake u) s := .of <| by
  simp [State.onWake]
@[simp] theorem State.clearChain_keepsForms (f : Nat) : State.KeepsForms (s.clearChain f) s := .of <| by
  simp [State.clearChain]
@[simp] theorem State.closeSwitches_keepsForms : State.KeepsForms s.closeSwitches s := .of <| by
  simp [State.closeSwitches]
@[simp] theorem State.goState_keepsForms (u : Nat) (dst : UState) (cause : Nat) :
    State.KeepsForms (s.goState u dst cause) s := .of <| by
  simp [State.goState, State.powerLost, State.onAwake, State.onRun, State.startUart]
@[simp] theorem State.drainUnit_keepsForms (u : Nat) (off : Bool) :
    State.KeepsForms (s.drainUnit u off) s := .of <| by
  unfold State.drainUnit
  dsimp only
  repeat' split
  all_goals simp
@[simp] theorem State.unitBoundary_keepsForms (v : View) (u : Nat) :
    State.KeepsForms (State.unitBoundary v s u) s := .of <| by
  unfold State.unitBoundary
  dsimp only
  repeat' split
  all_goals simp
@[simp] theorem State.forceFault_keepsForms (u : Nat) : State.KeepsForms (s.forceFault u) s := .of <| by
  simp [State.forceFault]
@[simp] theorem execWakeFail_formsKept (unit : Fin 64) : s.Leads State.FormsKept (execWakeFail unit s) := by
  unfold execWakeFail
  dsimp only
  split <;> simp

/-! ### Analog cells -/

@[simp] theorem State.powerCell_keepsForms (c : Nat) : State.KeepsForms (s.powerCell c) s := .of <| by
  simp [State.powerCell]
@[simp] theorem State.holdCell_keepsForms (src at_ : Nat) (c : Nat) :
    State.KeepsForms (State.holdCell src at_ s c) s := .of <| by
  simp [State.holdCell]
@[simp] theorem State.holdCells_keepsForms (src at_ : Nat) : State.KeepsForms (s.holdCells src at_) s := .of <| by
  simp [State.holdCells]

/-! ### Lanes and ports -/

@[simp] theorem State.grant_keepsForms (bank cls : Nat) (rmw : Bool) :
    State.KeepsForms (s.grant bank cls rmw) s := .of <| by
  simp [State.grant]
@[simp] theorem State.addMover_keepsForms (m : Mover) : State.KeepsForms (s.addMover m) s := .of <| by
  simp [State.addMover]
@[simp] theorem State.endMover_keepsForms (who : Nat) : State.KeepsForms (s.endMover who) s := .of <| by
  simp [State.endMover]
@[simp] theorem State.moveDrain_keepsForms (q cls k : Nat) (item : Option Nat) :
    State.KeepsForms (s.moveDrain q cls k item) s := .of <| by
  simp [State.moveDrain]

/-! ### Plan items -/

@[simp] theorem State.finishItem_keepsForms (idx : Nat) : State.KeepsForms (s.finishItem idx) s := .of <| by
  simp [State.finishItem]
@[simp] theorem State.startItem_keepsForms (i action : Nat) : State.KeepsForms (s.startItem i action).1 s := .of <| by
  unfold State.startItem
  split
  · simp
  · dsimp only
    repeat' split
    all_goals simp

/-- A plan item starts or does not, and either way the forms are kept. -/
theorem State.startItem_formsCases (i action : Nat) :
    (∃ z, s.startItem i action = (z, none) ∧ State.FormsKept z s) ∨
      ∃ z it, s.startItem i action = (z, some it) ∧ State.FormsKept z s := by
  have h : State.FormsKept (s.startItem i action).1 s := by simp
  rcases hitem : s.startItem i action with ⟨z, _ | it⟩
  · exact .inl ⟨z, rfl, by simpa [hitem] using h⟩
  · exact .inr ⟨z, it, rfl, by simpa [hitem] using h⟩

@[simp] theorem execOverbudget_formsKept (i : Fin 64) : s.Leads State.FormsKept (execOverbudget i s) := by
  unfold execOverbudget
  split <;> simp

/-! ### Filter chains -/

@[simp] theorem State.acceptWord_keepsForms (f n cls : Nat) (w : Word) :
    State.KeepsForms (s.acceptWord f n cls w) s := .of <| by
  simp [State.acceptWord]
@[simp] theorem State.deliverOut_keepsForms (f : Nat) (o : ChainOut) (item : Option Nat) (at_ : Nat) :
    State.KeepsForms (s.deliverOut f o item at_) s := .of <| by
  simp [State.deliverOut]
@[simp] theorem State.emitDone_keepsForms (f : Nat) : State.KeepsForms (s.emitDone f) s := .of <| by
  unfold State.emitDone
  split <;> simp
@[simp] theorem execFiltEmit_formsKept (i : Fin 64) : s.Leads State.FormsKept (execFiltEmit i s) := by
  unfold execFiltEmit
  rcases s.startItem_formsCases i.val 5 with ⟨z, h, hz⟩ | ⟨z, it, h, hz⟩
  · simpa [h] using hz
  · simp [h, hz]
@[simp] theorem execFiltOutput_formsKept (fi : Fin 8) : s.Leads State.FormsKept (execFiltOutput fi s) := by
  unfold execFiltOutput
  dsimp only
  split <;> simp

/-! ### Sequences and rings -/

@[simp] theorem State.ignoreTrig_keepsForms (n : Nat) : State.KeepsForms (s.ignoreTrig n) s := .of <| by
  simp [State.ignoreTrig]
@[simp] theorem State.issueTrig_keepsForms (n order first delay : Nat) (item : Option Nat) (at_ : Nat) :
    State.KeepsForms (s.issueTrig n order first delay item at_).1 s := .of <| by
  simp [State.issueTrig]
@[simp] theorem State.slotTrigs_keepsForms (srcs : List Nat) (edge : Word → Bool) (at_ : Nat) :
    State.KeepsForms (s.slotTrigs srcs edge at_) s := .of <| by
  simp [State.slotTrigs]
@[simp] theorem execSeqStart_formsKept (i : Fin 64) : s.Leads State.FormsKept (execSeqStart i s) := by
  unfold execSeqStart
  rcases s.startItem_formsCases i.val 1 with ⟨z, h, hz⟩ | ⟨z, it, h, hz⟩
  · simpa [h] using hz
  · simp [h, hz]
@[simp] theorem State.timerPulses_keepsForms (ks : List Nat) (at_ : Nat) :
    State.KeepsForms (s.timerPulses ks at_) s := .of <| by
  simp [State.timerPulses]
@[simp] theorem execTtPulse_formsKept (k : Fin 8) : s.Leads State.FormsKept (execTtPulse k s) := by
  unfold execTtPulse
  dsimp only
  split <;> simp
@[simp] theorem State.preempt_keepsForms (n ready lastA : Nat) :
    State.KeepsForms (s.preempt n ready lastA) s := .of <| by
  unfold State.preempt
  dsimp only
  repeat' split
  all_goals simp
@[simp] theorem execTriggerReady_formsKept (c : Side) : s.Leads State.FormsKept (execTriggerReady c s) := by
  unfold execTriggerReady
  dsimp only
  repeat' split
  all_goals simp
@[simp] theorem State.runDone_keepsForms (n : Nat) (isA : Bool) : State.KeepsForms (s.runDone n isA) s := .of <| by
  unfold State.runDone
  dsimp only
  repeat' split
  all_goals simp
@[simp] theorem State.settleRun_keepsForms (n : Nat) (isA : Bool) :
    State.KeepsForms (s.settleRun n isA) s := .of <| by
  unfold State.settleRun
  dsimp only
  split <;> simp
@[simp] theorem execResultWordDelivery_formsKept (c : Side) (dt : Nat) (clsA : Bool) (smp : Sample) :
    s.Leads State.FormsKept (execResultWordDelivery c dt clsA smp s) := by
  unfold execResultWordDelivery
  extract_lets n b q put
  rw [State.leads_next]
  split
  · simp
  · split
    · simp
    · extract_lets s1 iv e nextT nx last pv nb v cv closed pins susMap cal w tags s2 m2 s3 s4 m4 s5
      split
      · simp [s1]
      · have h1 : State.FormsKept s1 s := by simp [s1]
        have h2 : State.FormsKept s2 s1 := by simp [s2]
        have h3 : State.FormsKept s3 s2 := by
          simp only [s3, m2]
          split <;> simp
        have h4 : State.FormsKept s4 s3 := by simp [s4]
        have h5 : State.FormsKept s5 s4 := by simp [s5, m4]
        have hput : State.FormsKept s5 s := (((h5.trans h4).trans h3).trans h2).trans h1
        simp [put, hput]
@[simp] theorem State.advanceWr_keepsForms (ring : Nat) : State.KeepsForms (s.advanceWr ring) s := .of <| by
  simp [State.advanceWr]
@[simp] theorem State.queueWord_keepsForms (q ring : Nat) (w : Word) :
    State.KeepsForms (s.queueWord q ring w) s := .of <| by
  simp [State.queueWord]
@[simp] theorem State.ringStore_keepsForms (r : RingReq) (a : Nat) (uncorr : Bool) :
    State.KeepsForms (s.ringStore r a uncorr) s := .of <| by
  unfold State.ringStore
  dsimp only
  repeat' split
  all_goals simp
@[simp] theorem State.writeRing_keepsForms (r : RingReq) (uncorr : Bool) :
    State.KeepsForms (s.writeRing r uncorr) s := .of <| by
  simp [State.writeRing, State.ringFull, State.advanceRd]
@[simp] theorem State.ringStep_keepsForms (r : RingReq) (uncorr : Bool) :
    State.KeepsForms (s.ringStep r uncorr) s := .of <| by
  simp [State.ringStep]
@[simp] theorem execRingWrite_formsKept (uncorr : Bool) : s.Leads State.FormsKept (execRingWrite uncorr s) := by
  unfold execRingWrite
  split <;> simp
@[simp] theorem execCaptureWord_formsKept (c : Side) : s.Leads State.FormsKept (execCaptureWord c s) := by
  unfold execCaptureWord
  dsimp only
  repeat' split
  all_goals simp
@[simp] theorem execCaptureTimeout_formsKept (c : Side) : s.Leads State.FormsKept (execCaptureTimeout c s) := by
  unfold execCaptureTimeout
  split <;> simp

end Sys2Proof.Machine
end

section
/-! PROOFS. The queue and the canonical forms: the analog cells, the converters, the fabric and the movers. -/

namespace Sys2Proof.Machine

variable (s : State)

/-! ### The analog cells and DACs -/

@[simp] theorem execAcellSat_formsKept (cell : Fin 16) (x : CellInputs) :
    s.Leads State.FormsKept (execAcellSat cell x s) := by
  unfold execAcellSat
  dsimp only
  split <;> simp
@[simp] theorem State.latchDac_keepsForms (ch : Nat) (code : Word) (at_ : Nat) :
    State.KeepsForms (s.latchDac ch code at_) s := .of <| by
  simp [State.latchDac]
@[simp] theorem State.dueHeld_keepsForms (by_ : Nat) (ch : Nat) :
    State.KeepsForms (State.dueHeld by_ s ch) s := .of <| by
  unfold State.dueHeld
  dsimp only
  split <;> simp
@[simp] theorem execDacUpdate_formsKept (i : Fin 64) : s.Leads State.FormsKept (execDacUpdate i s) := by
  unfold execDacUpdate
  rcases s.startItem_formsCases i.val 3 with ⟨z, h, hz⟩ | ⟨z, it, h, hz⟩
  · simpa [h] using hz
  · simp only [h, State.leads_next]
    split
    · exact hz
    · refine State.each_keeps (P := fun z => State.FormsKept z s) (fun z ch hch => ?_) _ _ (by simp [hz])
      split <;> simp [hch]
@[simp] theorem execDacPortWrite_formsKept (ch : Fin 8) (dt : Nat) (code : BitVec 16) :
    s.Leads State.FormsKept (execDacPortWrite ch dt code s) := by
  unfold execDacPortWrite
  dsimp only
  split <;> simp
@[simp] theorem execDacHeldLatch_formsKept (ch : Fin 8) : s.Leads State.FormsKept (execDacHeldLatch ch s) := by
  unfold execDacHeldLatch
  dsimp only
  split <;> simp
@[simp] theorem execDacOutputResume_formsKept (ch : Fin 8) : s.Leads State.FormsKept (execDacOutputResume ch s) := by
  unfold execDacOutputResume
  split <;> simp

/-! ### Wire faults -/

@[simp] theorem State.setSus_keepsForms (pin : Nat) (on : Bool) : State.KeepsForms (s.setSus pin on) s := .of <| by
  simp [State.setSus]
@[simp] theorem execWireCheck_formsKept (i : Fin 64) (meas : List WireMeas) :
    s.Leads State.FormsKept (execWireCheck i meas s) := by
  unfold execWireCheck
  rcases s.startItem_formsCases i.val 4 with ⟨z, h, hz⟩ | ⟨z, it, h, hz⟩
  · simpa [h] using hz
  · simp [h, hz]
@[simp] theorem State.applyVerdict_keepsForms (c : PinFound) : State.KeepsForms (s.applyVerdict c) s := .of <| by
  simp [State.applyVerdict]
@[simp] theorem execWireCheckFinish_formsKept : s.Leads State.FormsKept (execWireCheckFinish s) := by
  unfold execWireCheckFinish
  split <;> simp
@[simp] theorem State.recordClamp_keepsForms (p : Nat) : State.KeepsForms (s.recordClamp p) s := .of <| by
  simp [State.recordClamp]

/-! ### Calibration -/

@[simp] theorem State.keepConv_keepsForms (n : Nat) : State.KeepsForms (s.keepConv n) s := .of <| by
  simp [State.keepConv]
@[simp] theorem State.setTerms_keepsForms (n k : Nat) (m : SliceMeas) :
    State.KeepsForms (s.setTerms n k m) s := .of <| by
  simp [State.setTerms]
@[simp] theorem State.markSlice_keepsForms (n k r warn : Nat) :
    State.KeepsForms (s.markSlice n k r warn) s := .of <| by
  simp [State.markSlice]
@[simp] theorem State.swapSpare_keepsForms (n p : Nat) (w : Waiting) :
    State.KeepsForms (s.swapSpare n p w) s := .of <| by
  simp [State.swapSpare]
@[simp] theorem State.retireSpare_keepsForms (n r : Nat) : State.KeepsForms (s.retireSpare n r) s := .of <| by
  simp [State.retireSpare]
@[simp] theorem State.regrid_keepsForms (n : Nat) : State.KeepsForms (s.regrid n) s := .of <| by
  simp [State.regrid]
@[simp] theorem execCalRotate_formsKept (i : Fin 64) (m : SliceMeas) :
    s.Leads State.FormsKept (execCalRotate i m s) := by
  unfold execCalRotate
  rcases s.startItem_formsCases i.val 8 with ⟨z, h, hz⟩ | ⟨z, it, h, hz⟩
  · simpa [h] using hz
  · simp [h, hz]
@[simp] theorem execCalRotateSwap_formsKept (c : Side) : s.Leads State.FormsKept (execCalRotateSwap c s) := by
  unfold execCalRotateSwap
  dsimp only
  repeat' split
  all_goals simp
@[simp] theorem State.countCold_keepsForms (n k : Nat) (m : SliceMeas) :
    State.KeepsForms (s.countCold n k m) s := .of <| by
  simp [State.countCold]
@[simp] theorem State.judgeCold_keepsForms (n warn : Nat) : State.KeepsForms (s.judgeCold n warn) s := .of <| by
  simp [State.judgeCold]
@[simp] theorem execColdStep_formsKept (c : Side) (terms : Terms) (resid : Nat) :
    s.Leads State.FormsKept (execColdStep c terms resid s) := by
  unfold execColdStep
  dsimp only
  split <;> simp
@[simp] theorem execColdSpareSwap_formsKept (c : Side) : s.Leads State.FormsKept (execColdSpareSwap c s) := by
  unfold execColdSpareSwap
  dsimp only
  split <;> simp
@[simp] theorem execConvCalTimeout_formsKept (c : Side) : s.Leads State.FormsKept (execConvCalTimeout c s) := by
  unfold execConvCalTimeout
  extract_lets n b x s1
  have hturn : ∀ t y, State.FormsKept (((((s.reach t).setConv n y).setRegBit (b + 6) 0 3 true).refreshHealth n).emit
      (convUnit n) evConvCalTimeout 0) s := fun t y => by simp
  rw [State.leads_next]
  split
  · simp
  · exact hturn _ _

/-! ### The fabric -/

@[simp] theorem State.pulseStrobe_keepsForms (r k : Nat) : State.KeepsForms (s.pulseStrobe r k) s := .of <| by
  simp [State.pulseStrobe]
@[simp] theorem execFabricStrobe_formsKept (i : Fin 64) : s.Leads State.FormsKept (execFabricStrobe i s) := by
  unfold execFabricStrobe
  rcases s.startItem_formsCases i.val 6 with ⟨z, h, hz⟩ | ⟨z, it, h, hz⟩
  · simpa [h] using hz
  · simp [h, hz]
@[simp] theorem execFabricStrobeDone_formsKept (r strobe : Fin 8) :
    s.Leads State.FormsKept (execFabricStrobeDone r strobe s) := by
  unfold execFabricStrobeDone
  dsimp only
  repeat' split
  all_goals simp
@[simp] theorem State.startWaiting_keepsForms (r : Nat) : State.KeepsForms (s.startWaiting r) s := .of <| by
  simp [State.startWaiting]
@[simp] theorem execRegionFreezeEnd_formsKept (r : Fin 8) : s.Leads State.FormsKept (execRegionFreezeEnd r s) := by
  unfold execRegionFreezeEnd
  dsimp only
  repeat' split
  all_goals simp
@[simp] theorem execRegionLoadStep_formsKept (r : Fin 8) : s.Leads State.FormsKept (execRegionLoadStep r s) := by
  unfold execRegionLoadStep
  dsimp only
  repeat' split
  all_goals simp
@[simp] theorem execFabPortInputWord_formsKept (r : Fin 8) (kind : StreamPort) (n : Fin 8) (dt : Nat) :
    s.Leads State.FormsKept (execFabPortInputWord r kind n dt s) := by
  unfold execFabPortInputWord
  dsimp only
  split <;> simp
@[simp] theorem State.ringsBefore_keepsForms (bank cls : Nat) : ∀ (n : Nat) (s : State),
    State.KeepsForms (State.ringsBefore bank cls n s) s
  | 0, s => .of (.refl s)
  | n + 1, s => .of <| by
    unfold State.ringsBefore
    split
    · simp
    · split
      · simp
      · simp [State.ringsBefore_keepsForms bank cls n]
@[simp] theorem State.launchReply_keepsForms (f : Flight) : State.KeepsForms (s.launchReply f) s := .of <| by
  simp [State.launchReply]
@[simp] theorem execFabricSramRequest_formsKept (port : Fin 8) (addr : Word) (wr : Option (BitVec 64))
    (answer : BankAnswer) : s.Leads State.FormsKept (execFabricSramRequest port addr wr answer s) := by
  unfold execFabricSramRequest
  dsimp only
  repeat' split
  all_goals simp

/-! ### SRAM, Geyser and DMA -/

@[simp] theorem State.endDesc_keepsForms (n status : Nat) : State.KeepsForms (s.endDesc n status) s := .of <| by
  simp [State.endDesc]
@[simp] theorem State.dmaAbsent_keepsForms (n : Nat) : State.KeepsForms (s.dmaAbsent n) s := .of <| by
  simp [State.dmaAbsent]
@[simp] theorem State.startBurst_keepsForms (n : Nat) (item : Option Nat) :
    State.KeepsForms (s.startBurst n item).1 s := .of <| by
  simp [State.startBurst, State.moveBurst]
@[simp] theorem execDmaBurst_formsKept (i : Fin 64) : s.Leads State.FormsKept (execDmaBurst i s) := by
  unfold execDmaBurst
  rcases s.startItem_formsCases i.val 2 with ⟨z, h, hz⟩ | ⟨z, it, h, hz⟩
  · simpa [h] using hz
  · simp [h, hz]
@[simp] theorem State.advanceDring_keepsForms (n bytes : Nat) :
    State.KeepsForms (s.advanceDring n bytes) s := .of <| by
  simp [State.advanceDring]
@[simp] theorem execDmaBurstComplete_formsKept (ch : Fin 24) (ecc : Ecc) :
    s.Leads State.FormsKept (execDmaBurstComplete ch ecc s) := by
  unfold execDmaBurstComplete
  extract_lets n z _ s0 len sp src bad strobe tag r s2 s3 s4 s5 s6
  rw [State.leads_next]
  split
  · simp
  · extract_lets fin
    have hfin : ∀ z, State.KeepsForms (fin z) z := fun z => .of <| by
      simp only [fin]
      split <;> simp
    split
    · simp
    · have h0 : State.FormsKept s0 s := by simp [s0, z]
      have hr : State.FormsKept r.1 s0 := by simp [r]
      have h2 : State.FormsKept s2 r.1 := by simp [s2]
      have h4 : State.FormsKept s4 s2 := by simp [s4, s3]
      have h6 : State.FormsKept s6 s4 := by simp [s6, s5]
      have hmoved : State.FormsKept s6 s := (((h6.trans h4).trans h2).trans hr).trans h0
      simp [hfin, h0, hmoved]
@[simp] theorem State.putStream_keepsForms (n : Nat) (ws : List Word) :
    State.KeepsForms (s.putStream n ws) s := .of <| by
  simp [State.putStream, State.writeStream]
@[simp] theorem execDmaStreamWord_formsKept (ch : Fin 4) (w : Word) (busy : Bool) :
    s.Leads State.FormsKept (execDmaStreamWord ch w busy s) := by
  unfold execDmaStreamWord
  dsimp only
  split <;> simp
@[simp] theorem execGeyserDrain_formsKept (i : Fin 64) : s.Leads State.FormsKept (execGeyserDrain i s) := by
  unfold execGeyserDrain
  rcases s.startItem_formsCases i.val 7 with ⟨z, h, hz⟩ | ⟨z, it, h, hz⟩
  · simpa [h] using hz
  · simp [h, hz]
@[simp] theorem execDrainComplete_formsKept (qi : Fin 16) : s.Leads State.FormsKept (execDrainComplete qi s) := by
  unfold execDrainComplete
  dsimp only
  repeat' split
  all_goals simp

end Sys2Proof.Machine
end

section
/-! PROOFS. The queue and the canonical forms: the transports, the serial ports and the random source. -/

namespace Sys2Proof.Machine

variable (s : State)

/-! ### Transports -/

@[simp] theorem State.transportError_keepsForms (n kind : Nat) (seq : Byte) :
    State.KeepsForms (s.transportError n kind seq) s := .of <| by
  simp [State.transportError]
@[simp] theorem State.errReply_keepsForms (n : Nat) (r : Reply) : State.KeepsForms (s.errReply n r) s := .of <| by
  simp [State.errReply]
@[simp] theorem State.frameBad_keepsForms (n : Nat) (seq : Byte) : State.KeepsForms (s.frameBad n seq) s := .of <| by
  simp [State.frameBad]
@[simp] theorem State.announce_keepsForms (n : Nat) (r : Reply) : State.KeepsForms (s.announce n r) s := .of <| by
  simp [State.announce]
@[simp] theorem State.errorReady_keepsForms (n : Nat) : State.KeepsForms (s.errorReady n) s := .of <| by
  unfold State.errorReady
  dsimp only
  split <;> simp
@[simp] theorem State.discardRx_keepsForms (n kind : Nat) : State.KeepsForms (s.discardRx n kind) s := .of <| by
  simp [State.discardRx]
@[simp] theorem State.gapCheck_keepsForms (u : Nat) : State.KeepsForms (s.gapCheck u) s := .of <| by
  simp [State.gapCheck]
@[simp] theorem execTransportReplySend_formsKept (u : Fin 4) :
    s.Leads State.FormsKept (execTransportReplySend u s) := by
  unfold execTransportReplySend
  dsimp only
  split <;> simp
@[simp] theorem State.transportByte_keepsForms (u : Nat) (b : Byte) (bad brk : Bool) :
    State.KeepsForms (s.transportByte u b bad brk) s := .of <| by
  simp [State.transportByte]

/-! ### Serial ports -/

@[simp] theorem State.rxLevelled_keepsForms (u old : Nat) : State.KeepsForms (s.rxLevelled u old) s := .of <| by
  simp [State.rxLevelled]
@[simp] theorem State.txLevelled_keepsForms (u old : Nat) : State.KeepsForms (s.txLevelled u old) s := .of <| by
  simp [State.txLevelled]
@[simp] theorem State.popTx_keepsForms (u : Nat) : State.KeepsForms (s.popTx u) s := .of <| by
  simp [State.popTx]
@[simp] theorem State.popRx_keepsForms (u : Nat) : State.KeepsForms (s.popRx u) s := .of <| by
  simp [State.popRx]
@[simp] theorem State.countEntry_keepsForms (u : Nat) (e : BitVec 12) :
    State.KeepsForms (s.countEntry u e) s := .of <| by
  simp [State.countEntry]
@[simp] theorem State.storeEntry_keepsForms (u : Nat) (e : BitVec 12) :
    State.KeepsForms (s.storeEntry u e) s := .of <| by
  simp [State.storeEntry]
@[simp] theorem State.deliverEntry_keepsForms (u : Nat) (e : BitVec 12) :
    State.KeepsForms (s.deliverEntry u e) s := .of <| by
  simp [State.deliverEntry]
@[simp] theorem State.linEnd_keepsForms (u outcome : Nat) : State.KeepsForms (s.linEnd u outcome) s := .of <| by
  simp [State.linEnd]
@[simp] theorem State.linStart_keepsForms (u : Nat) (pid : Byte) (nf : Bool) :
    State.KeepsForms (s.linStart u pid nf) s := .of <| by
  simp [State.linStart]
@[simp] theorem State.linChar_keepsForms (u : Nat) (data : Byte) (fe nf : Bool) :
    State.KeepsForms (s.linChar u data fe nf) s := .of <| by
  unfold State.linChar
  dsimp only
  split <;> simp
@[simp] theorem execUartStartBit_formsKept (ui : Fin 4) (edges : List Nat) :
    s.Leads State.FormsKept (execUartStartBit ui edges s) := by
  unfold execUartStartBit
  dsimp only
  repeat' split
  all_goals simp
@[simp] theorem State.takeChar_keepsForms (u : Nat) (x : UartSt) (c : RxChar) :
    State.KeepsForms (s.takeChar u x c) s := .of <| by
  simp [State.takeChar]
@[simp] theorem State.turnIdle_keepsForms (u : Nat) : State.KeepsForms (s.turnIdle u) s := .of <| by
  simp [State.turnIdle]
@[simp] theorem State.sent_keepsForms (u bits : Nat) : State.KeepsForms (s.sent u bits) s := .of <| by
  simp [State.sent]
@[simp] theorem execXoffSend_formsKept (ui : Fin 4) : s.Leads State.FormsKept (execXoffSend ui s) := by
  unfold execXoffSend
  dsimp only
  split <;> simp
@[simp] theorem execUartAutobaud_formsKept (ui : Fin 4) (stamps : List Nat) (stopHigh : Bool) :
    s.Leads State.FormsKept (execUartAutobaud ui stamps stopHigh s) := by
  unfold execUartAutobaud
  dsimp only
  repeat' split
  all_goals simp
@[simp] theorem execLinHeader_formsKept (ui : Fin 4) (readBackOk : Bool) :
    s.Leads State.FormsKept (execLinHeader ui readBackOk s) := by
  unfold execLinHeader
  dsimp only
  split <;> simp
@[simp] theorem execUartFabricWrite_formsKept (ui : Fin 4) (b : Byte) :
    s.Leads State.FormsKept (execUartFabricWrite ui b s) := by
  unfold execUartFabricWrite
  dsimp only
  split <;> simp
@[simp] theorem execUartFabricHandoff_formsKept (ui : Fin 4) (dt : Nat) :
    s.Leads State.FormsKept (execUartFabricHandoff ui dt s) := by
  unfold execUartFabricHandoff
  dsimp only
  repeat' split
  all_goals simp

/-! ### The random source -/

@[simp] theorem State.refreshRng_keepsForms : State.KeepsForms s.refreshRng s := .of <| by
  simp [State.refreshRng]
@[simp] theorem State.countRandom_keepsForms (n : Nat) : State.KeepsForms (s.countRandom n) s := .of <| by
  simp [State.countRandom]
@[simp] theorem State.feedRequest_keepsForms (n : Nat) : State.KeepsForms (s.feedRequest n) s := .of <| by
  unfold State.feedRequest
  dsimp only
  split <;> simp
@[simp] theorem State.feedJob_keepsForms : State.KeepsForms s.feedJob s := .of <| by
  unfold State.feedJob
  dsimp only
  repeat' split
  all_goals simp
@[simp] theorem State.feedRandom_keepsForms : State.KeepsForms s.feedRandom s := .of <| by
  simp [State.feedRandom]
@[simp] theorem State.healthEvent_keepsForms (source : Nat) (proportion start : Bool) (retest : Nat) :
    State.KeepsForms (s.healthEvent source proportion start retest) s := .of <| by
  simp [State.healthEvent]
@[simp] theorem State.failRandom_keepsForms : State.KeepsForms s.failRandom s := .of <| by
  unfold State.failRandom
  extract_lets s1
  have hjob : State.FormsKept s1 s := by
    simp only [s1]
    split <;> simp
  refine State.each_keeps (P := fun z => State.FormsKept z s) (fun z n hz => ?_) _ _ hjob
  dsimp only
  repeat' split
  all_goals exact State.FormsKept.trans (by simp) hz
@[simp] theorem execRngHealthFail_formsKept (before window : List (List Bool)) :
    s.Leads State.FormsKept (execRngHealthFail before window s) := by
  unfold execRngHealthFail
  dsimp only
  repeat' split
  all_goals simp
@[simp] theorem execRngRetestEnd_formsKept (sources : List (List Bool)) :
    s.Leads State.FormsKept (execRngRetestEnd sources s) := by
  unfold execRngRetestEnd
  split <;> simp
@[simp] theorem State.seedDrbg_keepsForms (seed : BitVec 384) : State.KeepsForms (s.seedDrbg seed) s := .of <| by
  simp [State.seedDrbg]

end Sys2Proof.Machine
end

section
/-! PROOFS. The queue and the canonical forms: start-up, the boundary with its commit and the tick bus. -/

namespace Sys2Proof.Machine

variable (s : State)

/-! ### Values that take effect -/

@[simp] theorem State.afterCell_keepsForms (old : View) (c : Nat) :
    State.KeepsForms (State.afterCell old s c) s := .of <| by
  simp [State.afterCell]
@[simp] theorem State.afterDac_keepsForms (old : View) (touched : Nat → Bool) (ch : Nat) :
    State.KeepsForms (State.afterDac old touched s ch) s := .of <| by
  simp [State.afterDac]
@[simp] theorem State.restartRing_keepsForms (ring : Nat) : State.KeepsForms (s.restartRing ring) s := .of <| by
  simp [State.restartRing]
@[simp] theorem State.afterSegment_keepsForms (old : View) (q : Nat) :
    State.KeepsForms (State.afterSegment old s q) s := .of <| by
  unfold State.afterSegment
  dsimp only
  repeat' split
  all_goals simp
@[simp] theorem State.hunt_keepsForms : State.KeepsForms s.hunt s := .of <| by
  simp [State.hunt]
@[simp] theorem State.afterRole_keepsForms (old : View) (roleSet : Bool) :
    State.KeepsForms (State.afterRole old roleSet s) s := .of <| by
  simp [State.afterRole]
@[simp] theorem State.applyValues_keepsForms (ws : List (Nat × Nat × Word)) :
    State.KeepsForms (s.applyValues ws) s := .of <| by
  simp [State.applyValues, State.keepEntries, State.openSwitches, State.afterRing, State.afterPin, State.afterUart]

/-! ### The programming job and scans -/

@[simp] theorem State.closeTap_keepsForms : State.KeepsForms s.closeTap s := .of <| by
  simp [State.closeTap]
@[simp] theorem State.relock_keepsForms (cause : Nat) : State.KeepsForms (s.relock cause) s := .of <| by
  simp [State.relock]
@[simp] theorem State.warnHeadroom_keepsForms (c : Nat) : State.KeepsForms (s.warnHeadroom c) s := .of <| by
  simp [State.warnHeadroom]
@[simp] theorem State.dropShadows_keepsForms (f : RegionCfg → Bool) :
    State.KeepsForms (s.dropShadows f) s := .of <| by
  simp [State.dropShadows]
@[simp] theorem State.endFuse_keepsForms (num : Nat) (f : FuseJob) (status reason : Nat) :
    State.KeepsForms (s.endFuse num f status reason) s := .of <| by
  unfold State.endFuse
  split <;> simp
@[simp] theorem State.burnDone_keepsForms (p : Nat × Nat) : State.KeepsForms (s.burnDone p) s := .of <| by
  simp [State.burnDone]
@[simp] theorem State.copyDone_keepsForms (num : Nat) (f : FuseJob) (p : Nat × Nat) :
    State.KeepsForms (s.copyDone num f p) s := .of <| by
  unfold State.copyDone
  dsimp only
  repeat' split
  all_goals simp
@[simp] theorem execSinterScanDone_formsKept : s.Leads State.FormsKept (execSinterScanDone s) := by
  unfold execSinterScanDone
  split <;> simp

/-! ### Images -/

@[simp] theorem State.setVerify_keepsForms (t : Nat) (v : Verify) : State.KeepsForms (s.setVerify t v) s := .of <| by
  simp [State.setVerify]
@[simp] theorem State.eraseFlash_keepsForms (a n : Nat) : State.KeepsForms (s.eraseFlash a n) s := .of <| by
  simp [State.eraseFlash]
@[simp] theorem State.writeFlash_keepsForms (a : Nat) (ws : List Word) :
    State.KeepsForms (s.writeFlash a ws) s := .of <| by
  simp [State.writeFlash]
@[simp] theorem execImageEraseDone_formsKept : s.Leads State.FormsKept (execImageEraseDone s) := by
  unfold execImageEraseDone
  repeat' split
  all_goals simp
@[simp] theorem execImageWriteDone_formsKept : s.Leads State.FormsKept (execImageWriteDone s) := by
  unfold execImageWriteDone
  repeat' split
  all_goals simp
@[simp] theorem execImageVerifyDone_formsKept (readErr : Bool) :
    s.Leads State.FormsKept (execImageVerifyDone readErr s) := by
  unfold execImageVerifyDone
  dsimp only
  repeat' split
  all_goals simp

/-! ### Start-up -/

@[simp] theorem State.beginPhase1_keepsForms (b : BitVec 2) : State.KeepsForms (s.beginPhase1 b) s := .of <| by
  simp [State.beginPhase1, State.strap]
@[simp] theorem State.deliver_keepsForms (first : Nat) (rows : List Word) :
    State.KeepsForms (s.deliver first rows) s := .of <| by
  simp [State.deliver]
@[simp] theorem State.alarm_keepsForms (region outcome : Nat) :
    State.KeepsForms (s.alarm region outcome) s := .of <| by
  simp [State.alarm]
@[simp] theorem State.endPhase2_keepsForms : State.KeepsForms s.endPhase2 s := .of <| by
  simp [State.endPhase2]
@[simp] theorem State.enterLimited_keepsForms (reason : Nat) : State.KeepsForms (s.enterLimited reason) s := .of <| by
  simp [State.enterLimited]
@[simp] theorem State.takeTemp_keepsForms (temp : BitVec 16) : State.KeepsForms (s.takeTemp temp) s := .of <| by
  simp [State.takeTemp]
@[simp] theorem State.failSlot_keepsForms (slot code : Nat) : State.KeepsForms (s.failSlot slot code) s := .of <| by
  unfold State.failSlot
  dsimp only
  split <;> simp
@[simp] theorem State.loadSet_keepsForms (slot : Nat) : State.KeepsForms (s.loadSet slot) s := .of <| by
  simp [State.loadSet, State.loadCoef, State.loadRegion, State.powerAtBoot]

/-! ### Clocks and doze -/

@[simp] theorem State.loseLock_keepsForms : State.KeepsForms s.loseLock s := .of <| by
  simp [State.loseLock]
@[simp] theorem State.shiftGrid_keepsForms (from_ : Nat) (n : Nat) :
    State.KeepsForms (State.shiftGrid from_ s n) s := .of <| by
  simp [State.shiftGrid]
@[simp] theorem State.clocksResume_keepsForms : State.KeepsForms s.clocksResume s := .of <| by
  simp [State.clocksResume, State.restartLine, State.holdOff]

/-! ### The tick bus -/

@[simp] theorem State.setLocked_keepsForms (b : Bool) : State.KeepsForms (s.setLocked b) s := .of <| by
  simp [State.setLocked]
@[simp] theorem State.missEdge_keepsForms : State.KeepsForms s.missEdge s := .of <| by
  simp [State.missEdge]
@[simp] theorem State.closeWindow_keepsForms (e : Nat) : State.KeepsForms (s.closeWindow e) s := .of <| by
  unfold State.closeWindow
  split <;> simp
@[simp] theorem State.loseSync_keepsForms (e : Int) : State.KeepsForms (s.loseSync e) s := .of <| by
  simp [State.loseSync]
@[simp] theorem State.expire_keepsForms : State.KeepsForms s.expire s := .of <| by
  simp [State.expire]
@[simp] theorem State.steer_keepsForms (e : Int) : State.KeepsForms (s.steer e) s := .of <| by
  simp [State.steer]
@[simp] theorem State.placeEdge_keepsForms (e : Nat) (marked : Bool) :
    State.KeepsForms (s.placeEdge e marked) s := .of <| by
  simp [State.placeEdge]
@[simp] theorem State.confirmEdge_keepsForms : State.KeepsForms s.confirmEdge s := .of <| by
  simp [State.confirmEdge]
@[simp] theorem State.offEdge_keepsForms (hope : Option Int) (e : Int) :
    State.KeepsForms (s.offEdge hope e) s := .of <| by
  unfold State.offEdge
  split <;> simp
@[simp] theorem State.lateEdge_keepsForms (t e : Nat) : State.KeepsForms (s.lateEdge t e) s := .of <| by
  simp [State.lateEdge]
@[simp] theorem State.nextEdge_keepsForms (e : Nat) (marked : Bool) :
    State.KeepsForms (s.nextEdge e marked) s := .of <| by
  simp [State.nextEdge]
@[simp] theorem State.meetEdge_keepsForms (e : Nat) (marked : Bool) :
    State.KeepsForms (s.meetEdge e marked) s := .of <| by
  unfold State.meetEdge
  dsimp only
  repeat' split
  all_goals simp
@[simp] theorem execMissedEdge_formsKept : s.Leads State.FormsKept (execMissedEdge s) := by
  unfold execMissedEdge
  split <;> simp

/-! ### The boundary -/

@[simp] theorem State.countUnreached_keepsForms : State.KeepsForms s.countUnreached s := .of <| by
  unfold State.countUnreached
  repeat' split
  all_goals simp
@[simp] theorem State.cut_keepsForms : State.KeepsForms s.cut s := .of <| by
  simp [State.cut, State.freeTriggers]
@[simp] theorem State.tbusTurn_keepsForms (b : Nat × Bool) (checked : Bool) :
    State.KeepsForms (s.tbusTurn b checked) s := .of <| by
  unfold State.tbusTurn
  dsimp only
  split <;> simp
@[simp] theorem State.beginDoze_keepsForms : State.KeepsForms s.beginDoze s := .of <| by
  simp [State.beginDoze, State.dozeCell, State.dozeUart]
@[simp] theorem State.endDrained_keepsForms (j : Job) : State.KeepsForms (s.endDrained j) s := .of <| by
  unfold State.endDrained
  dsimp only
  repeat' split
  all_goals simp
@[simp] theorem State.swapJob_keepsForms (j : Job) : State.KeepsForms (s.swapJob j) s := .of <| by
  unfold State.swapJob
  split <;> simp
@[simp] theorem State.planJob_keepsForms (j : Job) : State.KeepsForms (s.planJob j) s := .of <| by
  unfold State.planJob
  split <;> simp
@[simp] theorem State.checkFit_keepsForms : State.KeepsForms s.checkFit s := .of <| by
  unfold State.checkFit
  split <;> simp
@[simp] theorem State.cycleZero_keepsForms (temp : BitVec 16) : State.KeepsForms (s.cycleZero temp) s := .of <| by
  simp [State.cycleZero, State.holdLine, State.fromPin, State.flushStream, State.markEpoch, State.countRefs,
    State.endDoze, State.release, State.swaps, State.rearm, State.prune]
@[simp] theorem State.cycle128_keepsForms (fresh : Bool) : State.KeepsForms (s.cycle128 fresh) s := .of <| by
  simp [State.cycle128, State.startLine, State.commit, State.commitRelease, State.fallDue, State.leaveReset,
    State.dropHunted, State.earlyPulses]

end Sys2Proof.Machine
end

section
/-! PROOFS. The queue and the canonical forms: requests while they are served. -/

namespace Sys2Proof.Machine

variable (s : State)

/-! ### How a request is served -/

@[simp] theorem State.refuse_keepsForms (status : Nat) : State.KeepsForms (s.refuse status).1 s := .of <| by
  simp [State.refuse]
@[simp] theorem State.refuseAt_keepsForms (status i : Nat) : State.KeepsForms (s.refuseAt status i).1 s := .of <| by
  simp [State.refuseAt]
@[simp] theorem State.bad_keepsForms (i : Nat) : State.KeepsForms (s.bad i).1 s := .of <| by
  simp [State.bad]
@[simp] theorem State.done_keepsForms (ws : List Word) : State.KeepsForms (s.done ws).1 s := .of <| by
  simp [State.done]
@[simp] theorem State.answer_keepsForms {run : State → Answer} (hrun : ∀ z, State.FormsKept (run z).1 z) (s : State)
    (op : Nat) (ws : List Word) : State.KeepsForms (s.answer op ws run).1 s := .of <| by
  unfold State.answer
  split
  · simp
  · split
    · simp
    · split
      · simp
      · exact hrun s
@[simp] theorem State.toCommit_keepsForms (n dt : Nat) : State.KeepsForms (s.toCommit n dt) s := .of <| by
  simp [State.toCommit]
@[simp] theorem State.taken_keepsForms (n : Nat) : State.KeepsForms (s.taken n) s := .of <| by
  simp [State.taken]
@[simp] theorem State.garbage_keepsForms : State.KeepsForms s.garbage s := .of <| by
  simp [State.garbage]
@[simp] theorem State.execute_formsKept {run : State → Answer} (hrun : ∀ z, State.FormsKept (run z).1 z) (s : State)
    (n : Nat) (seq : Byte) (op : Nat) (ws : List Word) : State.KeepsForms (s.execute n seq op ws run) s := .of <| by
  simp [State.execute, hrun]
@[simp] theorem State.commitRequest_keepsForms {run : State → Answer} (hrun : ∀ z, State.FormsKept (run z).1 z)
    (s : State) (n : Nat) (seq : Byte) (op : Nat) (ws : List Word) :
    State.KeepsForms (s.commitRequest n seq op ws run) s := .of <| by
  simp [State.commitRequest, hrun]
@[simp] theorem State.serve_keepsForms {run : State → Answer} (hrun : ∀ z, State.FormsKept (run z).1 z) (s : State)
    (h : Hdr) (op : Nat) (ws : List Word) : State.KeepsForms (s.serve h op ws run) s := .of <| by
  simp [State.serve, hrun]

@[simp] theorem State.readyRun_keepsForms {s : State} {ok : Answer} (hok : State.FormsKept ok.1 s) (u i : Nat) :
    State.KeepsForms (s.readyRun u i ok).1 s :=
  .of (State.readyRun_keeps (P := fun z => State.FormsKept z s) (.refl s) hok u i)
@[simp] theorem State.unlessDraining_keepsForms {s : State} {ok : Answer} (hok : State.FormsKept ok.1 s) (u i : Nat) :
    State.KeepsForms (s.unlessDraining u i ok).1 s := .of <| by
  unfold State.unlessDraining
  split
  · simp
  · exact hok

/-! ### Housekeeping -/

@[simp] theorem State.doPoll_keepsForms (ws : List Word) : State.KeepsForms (State.doPoll ws s).1 s := .of <| by
  unfold State.doPoll
  dsimp only
  repeat' split
  all_goals simp
@[simp] theorem State.doPower_keepsForms (ws : List Word) : State.KeepsForms (State.doPower ws s).1 s := .of <| by
  simp [State.doPower, State.powerUnit]
@[simp] theorem State.doReset_keepsForms (ws : List Word) : State.KeepsForms (State.doReset ws s).1 s := .of <| by
  simp [State.doReset]
@[simp] theorem State.doState_keepsForms (ws : List Word) : State.KeepsForms (State.doState ws s).1 s := .of <| by
  simp [State.doState]
@[simp] theorem State.doLogRead_keepsForms (ws : List Word) : State.KeepsForms (State.doLogRead ws s).1 s := .of <| by
  simp [State.doLogRead]
@[simp] theorem State.doLogClear_keepsForms (ws : List Word) :
    State.KeepsForms (State.doLogClear ws s).1 s := .of <| by
  simp [State.doLogClear]
@[simp] theorem State.dueRestart_keepsForms (cause n : Nat) : State.KeepsForms (s.dueRestart cause n) s := .of <| by
  simp [State.dueRestart]
@[simp] theorem State.doSoftReset_keepsForms (n : Nat) (ws : List Word) :
    State.KeepsForms (State.doSoftReset n ws s).1 s := .of <| by
  simp [State.doSoftReset]

/-! ### Jobs -/

@[simp] theorem State.doPlanLoad_keepsForms (ws : List Word) :
    State.KeepsForms (State.doPlanLoad ws s).1 s := .of <| by
  unfold State.doPlanLoad
  dsimp only
  repeat' split
  all_goals simp
@[simp] theorem State.doPlanSwap_keepsForms (ws : List Word) :
    State.KeepsForms (State.doPlanSwap ws s).1 s := .of <| by
  unfold State.doPlanSwap
  repeat' split
  all_goals simp
@[simp] theorem State.doRegionLoad_keepsForms (ws : List Word) :
    State.KeepsForms (State.doRegionLoad ws s).1 s := .of <| by
  simp [State.doRegionLoad]
@[simp] theorem State.doRegionSwap_keepsForms (ws : List Word) :
    State.KeepsForms (State.doRegionSwap ws s).1 s := .of <| by
  unfold State.doRegionSwap
  split <;> simp
@[simp] theorem State.doCoefLoad_keepsForms (ws : List Word) :
    State.KeepsForms (State.doCoefLoad ws s).1 s := .of <| by
  unfold State.doCoefLoad
  split <;> simp
@[simp] theorem State.doCoefSwap_keepsForms (ws : List Word) :
    State.KeepsForms (State.doCoefSwap ws s).1 s := .of <| by
  unfold State.doCoefSwap
  split <;> simp
@[simp] theorem State.doConvert_keepsForms (ws : List Word) : State.KeepsForms (State.doConvert ws s).1 s := .of <| by
  simp [State.doConvert]
@[simp] theorem State.doArm_keepsForms (ws : List Word) : State.KeepsForms (State.doArm ws s).1 s := .of <| by
  simp [State.doArm]
@[simp] theorem State.readSpace_keepsForms (x1 : Bool) (addr n : Nat) (ecc : Ecc) :
    State.KeepsForms (s.readSpace x1 addr n ecc).1 s := .of <| by
  simp [State.readSpace]
@[simp] theorem State.doRead_keepsForms (ws : List Word) (ecc : Ecc) :
    State.KeepsForms (State.doRead ws ecc s).1 s := .of <| by
  simp [State.doRead]
@[simp] theorem State.doCapture_keepsForms (ws : List Word) (ecc : Ecc) :
    State.KeepsForms (State.doCapture ws ecc s).1 s := .of <| by
  simp [State.doCapture]
@[simp] theorem State.doFuseRead_keepsForms (ws : List Word) :
    State.KeepsForms (State.doFuseRead ws s).1 s := .of <| by
  simp [State.doFuseRead]
@[simp] theorem State.program_keepsForms (op : Nat) (counter : Option Nat) (bits : List (Nat × Nat)) :
    State.KeepsForms (s.program op counter bits).1 s := .of <| by
  unfold State.program
  dsimp only
  repeat' split
  all_goals simp
@[simp] theorem State.doFuseProg_keepsForms (ws : List Word) :
    State.KeepsForms (State.doFuseProg ws s).1 s := .of <| by
  simp [State.doFuseProg]
@[simp] theorem State.doAdvance_keepsForms (ws : List Word) : State.KeepsForms (State.doAdvance ws s).1 s := .of <| by
  simp [State.doAdvance]
@[simp] theorem State.drawRandom_keepsForms (n : Nat) : State.KeepsForms (s.drawRandom n) s := .of <| by
  simp [State.drawRandom]
@[simp] theorem State.queueRandom_keepsForms (n : Nat) (got : List Byte) :
    State.KeepsForms (s.queueRandom n got).1 s :=
  .of (State.readyRun_keeps (P := fun z => State.FormsKept z s) (.refl s) (by simp) 0x05 0)
@[simp] theorem State.doRandom_keepsForms (tr : Nat) (ws : List Word) :
    State.KeepsForms (State.doRandom tr ws s).1 s := .of <| by
  simp [State.doRandom]

/-! ### Images and unlock -/

@[simp] theorem State.doImageOpen_keepsForms (ws : List Word) :
    State.KeepsForms (State.doImageOpen ws s).1 s := .of <| by
  simp [State.doImageOpen]
@[simp] theorem State.doImageWrite_keepsForms (ws : List Word) (slow : Bool) :
    State.KeepsForms (State.doImageWrite ws slow s).1 s := .of <| by
  simp [State.doImageWrite]
@[simp] theorem State.doImageVerify_keepsForms (ws : List Word) :
    State.KeepsForms (State.doImageVerify ws s).1 s := .of <| by
  simp [State.doImageVerify]
@[simp] theorem State.imgRefused_keepsForms (status : Nat) : State.KeepsForms (s.imgRefused status).1 s := .of <| by
  simp [State.imgRefused]
@[simp] theorem State.doImageActivate_keepsForms (n : Nat) (ws : List Word) :
    State.KeepsForms (State.doImageActivate n ws s).1 s := .of <| by
  unfold State.doImageActivate
  split <;> simp
@[simp] theorem State.doChallenge_keepsForms : State.KeepsForms s.doChallenge.1 s := .of <| by
  simp [State.doChallenge, State.topUp]
@[simp] theorem State.doResponse_keepsForms (ws : List Word) :
    State.KeepsForms (State.doResponse ws s).1 s := .of <| by
  simp [State.doResponse]
@[simp] theorem State.doUnlock_keepsForms (ws : List Word) : State.KeepsForms (State.doUnlock ws s).1 s := .of <| by
  simp [State.doUnlock]

/-! ### Parameters -/

@[simp] theorem State.getParam_keepsForms (id sub : Nat) : State.KeepsForms (s.getParam id sub).1 s := .of <| by
  simp [State.getParam, State.afterGet]
@[simp] theorem State.doGet_keepsForms (ws : List Word) : State.KeepsForms (State.doGet ws s).1 s := .of <| by
  unfold State.doGet
  split <;> simp
@[simp] theorem State.writeAction_keepsForms (id : Nat) (w : Word) :
    State.KeepsForms (s.writeAction id w) s := .of <| by
  simp [State.writeAction, State.clearCounters, State.pushTx]
@[simp] theorem State.armAutobaud_keepsForms (u : Nat) (w : Word) :
    State.KeepsForms (s.armAutobaud u w) s := .of <| by
  simp [State.armAutobaud]
@[simp] theorem State.resumeTx_keepsForms (u : Nat) : State.KeepsForms (s.resumeTx u) s := .of <| by
  simp [State.resumeTx]
@[simp] theorem State.writeNow_keepsForms (id sub : Nat) (w : Word) :
    State.KeepsForms (s.writeNow id sub w) s := .of <| by
  unfold State.writeNow
  dsimp only
  repeat' split
  all_goals simp
@[simp] theorem State.putNow_keepsForms (id sub : Nat) (w : Word) :
    State.KeepsForms (s.putNow id sub w) s := .of <| by
  simp [State.putNow]
@[simp] theorem State.without_keepsForms (xs : List Setting) : State.KeepsForms (s.without xs) s := .of <| by
  simp [State.without]
@[simp] theorem State.checkValue_keepsForms {s : State} {ok : Answer} (hok : State.FormsKept ok.1 s) (z : State)
    (sets : List Setting) (d id sub : Nat) (w : Word) (vi : Nat) :
    State.KeepsForms (s.checkValue z sets d id sub w vi ok).1 s := .of <| by
  simp [State.checkValue, hok]
@[simp] theorem State.setTick_keepsForms (id sub : Nat) (w : Word) (vi : Nat) :
    State.KeepsForms (s.setTick id sub w vi).1 s := .of <| by
  simp [State.setTick]
@[simp] theorem State.setAtOnce_keepsForms (sets : List Setting) (id sub : Nat) (w : Word) (vi : Nat) :
    State.KeepsForms (s.setAtOnce sets id sub w vi).1 s := .of <| by
  simp [State.setAtOnce]
@[simp] theorem State.setParam_keepsForms (id sub : Nat) (w : Word) (vi : Nat) :
    State.KeepsForms (s.setParam id sub w vi).1 s := .of <| by
  simp [State.setParam]
@[simp] theorem State.doSet_keepsForms (ws : List Word) : State.KeepsForms (State.doSet ws s).1 s := .of <| by
  unfold State.doSet
  split <;> simp
@[simp] theorem State.doSetNow_keepsForms (ws : List Word) : State.KeepsForms (State.doSetNow ws s).1 s := .of <| by
  unfold State.doSetNow
  split <;> simp
@[simp] theorem State.doSetGroup_keepsForms (ws : List Word) :
    State.KeepsForms (State.doSetGroup ws s).1 s := .of <| by
  unfold State.doSetGroup
  dsimp only
  repeat' split
  all_goals simp
@[simp] theorem State.doCancel_keepsForms (ws : List Word) : State.KeepsForms (State.doCancel ws s).1 s := .of <| by
  unfold State.doCancel
  dsimp only
  repeat' split
  all_goals simp
@[simp] theorem State.setOne_keepsForms (h : Hdr) (id : Nat) (w : Word) :
    State.KeepsForms (s.setOne h id w) s := .of <| by
  simp [State.setOne]
@[simp] theorem State.getOne_keepsForms (h : Hdr) (id : Nat) : State.KeepsForms (s.getOne h id) s := .of <| by
  simp [State.getOne]

/-! ### Transactions -/

@[simp] theorem runOpcode_keepsForms (n op : Nat) (ws : List Word) :
    State.KeepsForms (runOpcode n op ws s).1 s := .of <| by
  simp [runOpcode]
@[simp] theorem State.finalReply_keepsForms (n : Nat) (r : Reply) :
    State.KeepsForms (s.finalReply n r).1 s := .of <| by
  simp [State.finalReply]
@[simp] theorem execReplyReady_formsKept (p : Prepared) : s.Leads State.FormsKept (execReplyReady p s) := by
  unfold execReplyReady
  dsimp only
  repeat' split
  all_goals simp

/-! ### The test access port -/

@[simp] theorem State.loadTap_keepsForms (code : BitVec 8) (captured : BitVec 164) :
    State.KeepsForms (s.loadTap code captured) s := .of <| by
  simp [State.loadTap]
@[simp] theorem execPrivateDebug_formsKept (code : BitVec 8) :
    s.Leads State.FormsKept (execPrivateDebug code s) := by
  unfold execPrivateDebug
  repeat' split
  all_goals simp

end Sys2Proof.Machine
end

section
/-! PROOFS. Every step takes the front command from the queue and keeps the canonical forms (R688, R727, R738): resets, the
programming job, and all commands. -/

namespace Sys2Proof.Machine

variable (s : State)

/-! ### Resets and the programming job -/

@[simp] theorem State.burnCopy_keepsForms (c : Nat) (p : Nat × Nat) : State.KeepsForms (s.burnCopy c p) s := .of <| by
  simp [State.burnCopy]
@[simp] theorem State.interrupt_keepsForms (hard : Bool) : State.KeepsForms (s.interrupt hard) s := .of <| by
  unfold State.interrupt
  dsimp only
  repeat' split
  all_goals simp

/-- A family that is made of pairs is in its canonical form. -/
theorem wfMap_ofPairs {α : Type} [DecidableEq α] (d : α) (l : List (Nat × α)) : wfMap d (ofPairs d l) = true := by
  have key : ∀ (l m : List (Nat × α)), wfMap d m = true → wfMap d (l.foldl (fun m p => insert d m p.1 p.2) m) = true := by
    intro l
    induction l with
    | nil => exact fun _ h => h
    | cons p l ih => exact fun m h => ih _ (wfMap_insert h p.1 p.2)
  exact key l [] rfl

/-- A start takes over the queue and the registers it keeps; of the families it keeps the transports alone (R113, R151). -/
@[simp] theorem State.freshStart_keepsForms (hard : Bool) : State.KeepsForms (s.freshStart hard) s :=
  .of <| by
  have hunits : MapKept unitsForm State.reset.units s.units := mapKept_nil _
  have hconv : MapKept convForm State.reset.conv s.conv := mapKept_nil _
  have hregion : MapKept regionForm State.reset.region s.region := mapKept_nil _
  have htr : ∀ l, MapKept trForm (ofPairs {} l) s.tr := fun l _ => wfMap_ofPairs ({} : TrSt) l
  have hnone : MapKept trForm [] s.tr := mapKept_nil _
  simp [State.freshStart, hunits, hconv, hregion, htr, hnone]

@[simp] theorem execRstNAssert_formsKept (ns : Nat) : s.Leads State.FormsKept (execRstNAssert ns s) := by
  unfold execRstNAssert
  repeat' split
  · simp
  · simp [State.Leads]
  · simp
@[simp] theorem execRestart_formsKept (bootsel : BitVec 2) : s.Leads State.FormsKept (execRestart bootsel s) := by
  unfold execRestart
  repeat' split
  all_goals simp
@[simp] theorem execFuseStep_formsKept (verified : Bool) : s.Leads State.FormsKept (execFuseStep verified s) := by
  unfold execFuseStep
  dsimp only
  repeat' split
  all_goals simp

/-! ### Commands after a long time -/

/-- Neither the phase nor the clocks bear on a form. Stated of any state: of one that is reached after millions of cycles
the kernel would compute with their number. -/
theorem State.FormsKept.phaseAndClocks {z s : State} (h : State.FormsKept z s) (b : BootSt) (p : PwrSt) :
    State.FormsKept { z with boot := b, pwr := p } s := h
@[simp] theorem execPhase3Timeout_formsKept (dt : Nat) : s.Leads State.FormsKept (execPhase3Timeout dt s) := by
  unfold execPhase3Timeout
  rw [State.leads_next]
  split
  · exact .refl s
  · exact (((s.elapse dt).elapse_formsKept _).trans (s.elapse_formsKept dt)).phaseAndClocks _ _
@[simp] theorem execPllRestart_formsKept : s.Leads State.FormsKept (execPllRestart s) := by
  unfold execPllRestart
  rw [State.leads_next]
  repeat' split
  · exact .refl s
  · exact .refl s
  · exact .refl s
  · exact (s.elapse_formsKept _).phaseAndClocks _ _

/-! ### Commands -/

/-- The commands that store to no memory leave the queue and keep the forms; first those that have a lemma of their own. -/
theorem exec_formsKept_of_storesNothing (i : Instr) (hi : storesNothing i = true) :
    s.Leads State.FormsKept (exec i s) := by
  unfold exec
  cases i with
  | filtOutput | ttPulse | triggerReady | resultWordDelivery | captureTimeout | acellSat | dacPortWrite | dacHeldLatch
      | dacOutputResume | calRotateSwap | coldStep | coldSpareSwap | convCalTimeout | regionLoadStep | fabPortInputWord
      | transportReplySend | uartStartBit | xoffSend | uartAutobaud | linHeader | uartFabricWrite | uartFabricHandoff
      | rngHealthFail | rngRetestEnd | sinterScanDone | missedEdge | replyReady | privateDebug | fuseStep
      | phase3Timeout | pllRestart =>
    simp
  | fumaLogTake => simp [execFumaLogTake]
  | fevEdge => simp [execFevEdge]
  | amtxSwitchClose | cellPowerUp | cellSettled | comparatorEdge | shHold | shTrackReturn | cellDozePowerUp
      | dacCompliance =>
    simp [execAmtxSwitchClose, execCellPowerUp, execCellSettled, execComparatorEdge, execShHold, execShTrackReturn,
      execCellDozePowerUp, execDacCompliance]
  | wireClamp | clampRelease | clampSwitchReturn => simp [execWireClamp, execClampRelease, execClampSwitchReturn]
  | fabScrubFix | fabExtClockLost => simp [execFabScrubFix, execFabExtClockLost]
  | sramScrubStep | sramEccUncorr => simp [execSramScrubStep, execSramEccUncorr]
  | spiFrameStart | spiFirstByte | spiFrameEnd | gapTimeout =>
    simp [execSpiFrameStart, execSpiFirstByte, execSpiFrameEnd, execGapTimeout]
  | uartCharComplete | uartRxIdle | uartTxChar | uartTxContend | autobaudAbandon | linBreak | linResponseTimeout
      | linPublishResponse =>
    simp [execUartCharComplete, execUartRxIdle, execUartTxChar, execUartTxContend, execAutobaudAbandon, execLinBreak,
      execLinResponseTimeout, execLinPublishResponse]
  | rngTake | rngRecovered | drbgReseed | drbgGenerate =>
    simp [execRngTake, execRngRecovered, execDrbgReseed, execDrbgGenerate]
  | powerUp | referencesSettled => simp [execPowerUp, execReferencesSettled]
  | pwrPllUnlock | pwrPllRelock | pllRelock => simp [execPwrPllUnlock, execPwrPllRelock, execPllRelock]
  | tickPulse | tickEdge | guardExpiry => simp [execTickPulse, execTickEdge, execGuardExpiry]
  | tapReset | extest | idcode | samplePreload | clamp | highz | bypass =>
    simp [execTapReset, execExtest, execIdcode, execSamplePreload, execClamp, execHighz, execBypass]
  | _ => exact absurd hi Bool.false_ne_true

/-- So do the commands that can store to a memory. -/
theorem exec_formsKept_of_stores (i : Instr) (hi : storesNothing i = false) : s.Leads State.FormsKept (exec i s) := by
  unfold exec
  cases i with
  | wakeFail | overbudget | filtEmit | seqStart | ringWrite | captureWord | dacUpdate | wireCheck | wireCheckFinish
      | calRotate | fabricStrobe | fabricStrobeDone | regionFreezeEnd | fabricSramRequest | dmaBurst | dmaBurstComplete
      | dmaStreamWord | geyserDrain | drainComplete | imageEraseDone | imageWriteDone | imageVerifyDone | rstNAssert
      | restart =>
    simp
  | wakeComplete | stateSkew => simp [execWakeComplete, execStateSkew]
  | fabConfigUpset => simp [execFabConfigUpset]
  | dmaAutoBurst | geyserBackgroundDrain | xspiPattern =>
    simp [execDmaAutoBurst, execGeyserBackgroundDrain, execXspiPattern]
  | markerBlockErase => simp [execMarkerBlockErase]
  | rstNRelease | sinterDelivery | pllLock | trimReread | slotAttempt | slotAttemptTimeout =>
    simp [execRstNRelease, execSinterDelivery, execPllLock, execTrimReread, execSlotAttempt, execSlotAttemptTimeout]
  | tickBoundary => simp [execTickBoundary]
  | ident | status | poll | echo | nop | unitPowerOn | unitPowerOff | unitReset | unitState | logRead | logClear
      | softReset =>
    simp [execIdent, execStatus, execPoll, execEcho, execNop, execUnitPowerOn, execUnitPowerOff, execUnitReset,
      execUnitState, execLogRead, execLogClear, execSoftReset]
  | planLoad | planSwap | regionLoad | regionSwap | coefLoad | coefSwap | convert | captureArm | captureRead | fuseRead
      | fuseProg | counterRead | counterAdvance | random =>
    simp [execPlanLoad, execPlanSwap, execRegionLoad, execRegionSwap, execCoefLoad, execCoefSwap, execConvert,
      execCaptureArm, execCaptureRead, execFuseRead, execFuseProg, execCounterRead, execCounterAdvance, execRandom]
  | imageOpen | imageWrite | imageVerify | imageActivate | imageInfo | debugUnlockChallenge | debugUnlockResponse =>
    simp [execImageOpen, execImageWrite, execImageVerify, execImageActivate, execImageInfo, execDebugUnlockChallenge,
      execDebugUnlockResponse]
  | get | set | setNow | setGroup | cancelPending | tickCountLoRead | tickCntClr | hostCntClr | sinterScan | ringRdWrite
      | dmaHeadWrite | rxPop | txPush | autobaudArm | secRelock | alertLatchClear | txContendClear =>
    simp [execGet, execSet, execSetNow, execSetGroup, execCancelPending, execTickCountLoRead, execTickCntClr,
      execHostCntClr, execSinterScan, execRingRdWrite, execDmaHeadWrite, execRxPop, execTxPush, execAutobaudArm,
      execSecRelock, execAlertLatchClear, execTxContendClear]
  | requestCommit => simp [execRequestCommit]
  | _ => exact absurd hi.symm Bool.false_ne_true

/-- No command changes the queue or loses a canonical form. -/
theorem exec_formsKept (i : Instr) : s.Leads State.FormsKept (exec i s) := by
  cases hi : storesNothing i with
  | true => exact exec_formsKept_of_storesNothing s i hi
  | false => exact exec_formsKept_of_stores s i hi

/-! ### Steps -/

/-- A state with the forms of one that is in its canonical forms is in them. -/
theorem State.FormsKept.formsWf {t s : State} (h : State.FormsKept t s) (hs : s.formsWf = true) : t.formsWf = true := by
  obtain ⟨_, hregs, hunits, htr, hconv, hregion, hsram, hpsram, hflash⟩ := h
  simp only [State.formsWf, State.mapsWf, State.memoryWf, Bool.and_eq_true] at hs ⊢
  obtain ⟨⟨⟨wregs, wunits⟩, ⟨wtr, wconv⟩, wregion⟩, ⟨wsram, wpsram⟩, wflash⟩ := hs
  exact ⟨⟨⟨hregs wregs, hunits wunits⟩, ⟨htr wtr, hconv wconv⟩, hregion wregion⟩, ⟨hsram wsram, hpsram wpsram⟩,
    hflash wflash⟩

/-- A register file in its canonical form stays in it. -/
theorem State.FormsKept.regsWf {t s : State} (h : State.FormsKept t s) (hs : s.regsWf = true) : t.regsWf = true := by
  obtain ⟨_, hregs, _⟩ := h
  exact hregs hs

/-- A step with a command in front runs it on the state with the queue's rest. -/
theorem step_cons (c : Instr) (rest : List Instr) (h : s.pending = c :: rest) :
    step s = exec c { s with pending := rest } := by
  unfold step
  rw [h]

/-- Settles O1: the step of a queue that is not empty (`step_cons`). -/
theorem stepRunsFrontCommand : Obligations.StepRunsFrontCommand := by
  unfold Obligations.StepRunsFrontCommand
  exact fun s c rest => step_cons { s with pending := c :: rest } c rest rfl

/-- Settles O56: the command runs on the queue's rest, and no command changes the queue (`exec_formsKept`). -/
theorem queueLosesItsFront : Obligations.QueueLosesItsFront := by
  unfold Obligations.QueueLosesItsFront
  intro s t c rest hp ht
  rw [step_cons s c rest hp] at ht
  exact (exec_formsKept { s with pending := rest } c t ht).1

/-- Settles O58: no command and no cycle loses a canonical form (`exec_formsKept`, `State.elapse_formsKept`). -/
theorem stepKeepsCanonicalForms : Obligations.StepKeepsCanonicalForms := by
  unfold Obligations.StepKeepsCanonicalForms
  intro s t hs ht
  cases hp : s.pending with
  | nil =>
    simp only [step, hp, Host.Outcome.next.injEq] at ht
    subst ht
    exact (s.elapse_formsKept 1).formsWf hs
  | cons c rest =>
    rw [step_cons s c rest hp] at ht
    have hrest : ({ s with pending := rest } : State).formsWf = true := hs
    exact (exec_formsKept { s with pending := rest } c t ht).formsWf hrest

end Sys2Proof.Machine
end


section
/-! PROOFS. Protected identifiers and frame checksums (R807). -/

namespace Sys2Proof.Machine

/-- The addition of one byte to a carry sum: a carry is added back. -/
def carryAdd (a : Nat) (b : Byte) : Nat := if a + b.toNat < 256 then a + b.toNat else a + b.toNat - 255

theorem carrySum_eq_foldl (bs : List Byte) : carrySum bs = bs.foldl carryAdd 0 := rfl

theorem carryAdd_lt {a : Nat} (ha : a < 256) (b : Byte) : carryAdd a b < 256 := by
  have hb := b.isLt
  unfold carryAdd
  split <;> omega

theorem carryAdd_mod (a : Nat) (b : Byte) : carryAdd a b % 255 = (a + b.toNat) % 255 := by
  unfold carryAdd
  split <;> omega

/-- A carry that is added back never leaves 0. -/
theorem carryAdd_eq_zero (a : Nat) (b : Byte) : carryAdd a b = 0 ↔ a = 0 ∧ b = 0 := by
  have hb : b = 0 ↔ b.toNat = 0 := by rw [BitVec.toNat_eq]; rfl
  rw [hb]
  unfold carryAdd
  split <;> omega

theorem foldl_carryAdd_lt : ∀ (bs : List Byte) {a : Nat}, a < 256 → bs.foldl carryAdd a < 256
  | [], _, ha => ha
  | b :: bs, _, ha => foldl_carryAdd_lt bs (carryAdd_lt ha b)

theorem foldl_carryAdd_mod : ∀ (bs : List Byte) (a : Nat),
    bs.foldl carryAdd a % 255 = (a + (bs.map BitVec.toNat).sum) % 255
  | [], _ => rfl
  | b :: bs, a => by
    have hb := carryAdd_mod a b
    have ih := foldl_carryAdd_mod bs (carryAdd a b)
    simp only [List.foldl_cons, List.map_cons, List.sum_cons]
    omega

theorem foldl_carryAdd_eq_zero : ∀ (bs : List Byte) (a : Nat), bs.foldl carryAdd a = 0 ↔ a = 0 ∧ ∀ b ∈ bs, b = 0
  | [], a => by simp
  | b :: bs, a => by
    rw [List.foldl_cons, foldl_carryAdd_eq_zero bs, carryAdd_eq_zero, List.forall_mem_cons, and_assoc]

/-- Settles O49: the 64 identifiers by their bits, and the carry sum by induction over the bytes. -/
theorem identifierAndChecksum : Obligations.IdentifierAndChecksum := by
  unfold Obligations.IdentifierAndChecksum
  refine ⟨by decide, fun _ _ _ _ _ => rfl, fun bs => ?_⟩
  rw [carrySum_eq_foldl]
  exact ⟨foldl_carryAdd_lt bs (by omega), by simpa using foldl_carryAdd_mod bs 0, by simpa using foldl_carryAdd_eq_zero bs 0⟩

end Sys2Proof.Machine
end

section
/-! PROOFS. A clock edge of a MAC slice (R607 to R609, R647). -/

namespace Sys2Proof.Machine

theorem fits48_iff (x : Int) : fits48 x = true ↔ -2 ^ 47 ≤ x ∧ x < 2 ^ 47 := by simp [fits48]

theorem toInt_ofInt48 {x : Int} (h : fits48 x = true) : (BitVec.ofInt 48 x).toInt = x := by
  rw [fits48_iff] at h
  exact BitVec.toInt_ofInt_eq_self (by omega) (by omega) (by omega)

/-- A product of two 18-bit numbers fits the accumulator. -/
theorem fits48_mul (a b : BitVec 18) : fits48 (a.toInt * b.toInt) = true := by
  have ha1 : -131072 ≤ a.toInt := a.le_toInt
  have ha2 : a.toInt < 131072 := a.toInt_lt
  have hb1 : -131072 ≤ b.toInt := b.le_toInt
  have hb2 : b.toInt < 131072 := b.toInt_lt
  rw [fits48_iff]
  constructor <;> nlinarith

/-- What an edge adds up, in exact arithmetic. -/
def MacSt.total (x : MacSt) (c : MacCfg) (casc : BitVec 48) : Int :=
  macSum c.mode x.load x.p.toInt casc.toInt (x.a.toInt * x.b.toInt)

theorem MacSt.total_acc {x : MacSt} {c : MacCfg} (hm : c.mode = 1) (hl : x.load = false) (casc : BitVec 48) :
    x.total c casc = x.p.toInt + x.a.toInt * x.b.toInt := by simp [MacSt.total, macSum, hm, hl]

theorem MacSt.total_load {x : MacSt} {c : MacCfg} (hm : c.mode < 3) (hl : x.load = true) (casc : BitVec 48) :
    x.total c casc = x.a.toInt * x.b.toInt := by simp [MacSt.total, macSum, hl, show c.mode ≠ 3 by omega]

section Edge

variable (c : MacCfg) (x : MacSt) (casc : BitVec 48) (a b : BitVec 18) (load : Bool)

/-- An edge with CE high, in terms of its total. -/
theorem macEdge_enabled : macEdge c x casc a b true load =
    { a := a, b := b, load := load
      p := if fits48 (x.total c casc) ∨ !c.sat then BitVec.ofInt 48 (x.total c casc)
        else if 0 ≤ x.total c casc then BitVec.ofInt 48 (2 ^ 47 - 1) else BitVec.ofInt 48 (-2 ^ 47)
      ovf := !x.load && (x.ovf || !fits48 (x.total c casc)) } := rfl

/-- A total that fits reaches P as it is. -/
theorem macEdge_fits (h : fits48 (x.total c casc) = true) :
    (macEdge c x casc a b true load).p.toInt = x.total c casc ∧
      (macEdge c x casc a b true load).ovf = (!x.load && x.ovf) := by
  simp [macEdge_enabled, h, toInt_ofInt48 h]

/-- A total that does not fit sets OVF but for a LOAD, and wraps or saturates. -/
theorem macEdge_overflows (h : fits48 (x.total c casc) = false) :
    (macEdge c x casc a b true load).ovf = !x.load ∧
    (c.sat = false → (macEdge c x casc a b true load).p = BitVec.ofInt 48 (x.total c casc)) ∧
    (c.sat = true → (macEdge c x casc a b true load).p.toInt = if 0 ≤ x.total c casc then 2 ^ 47 - 1 else -2 ^ 47) := by
  refine ⟨by simp [macEdge_enabled, h], fun hs => by simp [macEdge_enabled, hs], fun hs => ?_⟩
  by_cases hn : 0 ≤ x.total c casc <;> simp [macEdge_enabled, h, hs, hn]

end Edge

/-- Settles O54: in ACC mode by whether the sum fits (`macEdge_fits`, `macEdge_overflows`); the product of a LOAD always fits. -/
theorem macSliceAccumulates : Obligations.MacSliceAccumulates := by
  unfold Obligations.MacSliceAccumulates
  intro c x casc a b load
  refine ⟨rfl, rfl, rfl, rfl, fun hm hl => ⟨fun h1 h2 => ?_, fun h => ?_⟩, fun hl => ⟨?_, fun hm => ?_⟩, fun ho hl => ?_⟩
  · have hfit : fits48 (x.total c casc) = true := by
      rw [MacSt.total_acc hm hl]
      exact (fits48_iff _).2 ⟨h1, h2⟩
    obtain ⟨hp, hovf⟩ := macEdge_fits c x casc a b load hfit
    exact ⟨by rw [hp, MacSt.total_acc hm hl], by simp [hovf, hl]⟩
  · have hfit : fits48 (x.total c casc) = false := by
      rw [MacSt.total_acc hm hl, Bool.eq_false_iff, ne_eq, fits48_iff]
      omega
    obtain ⟨hovf, hwrap, hsat⟩ := macEdge_overflows c x casc a b load hfit
    rw [MacSt.total_acc hm hl] at hwrap hsat
    exact ⟨by simp [hovf, hl], hwrap, hsat⟩
  · simp [macEdge_enabled, hl]
  · obtain ⟨hp, _⟩ := macEdge_fits c x casc a b load (by rw [MacSt.total_load hm hl]; exact fits48_mul x.a x.b)
    rw [hp, MacSt.total_load hm hl]
  · simp [macEdge_enabled, ho, hl]

end Sys2Proof.Machine
end

section
/-! PROOFS. The test access port (R660, R863 to R869, Table PKG-4). -/

namespace Sys2Proof.Machine

section Load

variable {s : State}

/-- While the controller is held no instruction loads (R863). -/
theorem State.loadTap_held (h : s.tapHeld = true) (code : BitVec 8) (captured : BitVec 164) :
    s.loadTap code captured = s := by simp [State.loadTap, h]

/-- While it is not, its code and its data register load. -/
theorem State.loadTap_free (h : s.tapHeld = false) (code : BitVec 8) (captured : BitVec 164) :
    s.loadTap code captured = { s with tap := { s.tap with ir := code, captured := captured } } := by
  simp [State.loadTap, h]

theorem execSamplePreload_free (h : s.tapHeld = false) (sample preload : BitVec 164) : execSamplePreload sample preload s =
    .next { s with tap := { ir := 0x02, captured := sample, boundary := preload } } := by
  simp [execSamplePreload, h]

/-- A debug instruction acts as BYPASS while debug access is closed (R660, R864). -/
theorem execPrivateDebug_closed (h : s.tapHeld = false) (hd : s.debugOpen = false) {code : BitVec 8}
    (hc : 0x80 ≤ code.toNat) : execPrivateDebug code s =
      .next { s with tap := { s.tap with ir := code, captured := 0 } } := by
  simp [execPrivateDebug, h, hd, hc, State.loadTap_free h]

theorem execPrivateDebug_open (h : s.tapHeld = false) (hd : s.debugOpen = true) {code : BitVec 8} (hc : 0x80 ≤ code.toNat)
    (hc' : code.toNat ≤ 0xFE) : execPrivateDebug code s = .refused .privateDebugEffectNotGiven := by
  simp [execPrivateDebug, h, hd, hc, hc']

end Load

/-- Settles O52: each instruction loads where the controller is not held (`State.loadTap_free`), and a debug one by whether
debug access is open. -/
theorem tapCommands : Obligations.TapCommands := by
  unfold Obligations.TapCommands
  refine ⟨fun s => ⟨fun _ => rfl, fun h => ?_, fun h => ?_⟩, fun s code h hc hc' =>
    ⟨fun hd => execPrivateDebug_closed h hd hc, fun hd => execPrivateDebug_open h hd hc hc'⟩⟩
  · have load : ∀ code captured, Host.Outcome.next (φ := Fault) (ρ := Refusal) (s.loadTap code captured) =
        .next { s with tap := { s.tap with ir := code, captured := captured } } := fun code captured => by
      rw [State.loadTap_free h]
    exact ⟨load .., load .., execSamplePreload_free h, load .., load .., load ..⟩
  · have stay : ∀ code captured, Host.Outcome.next (φ := Fault) (ρ := Refusal) (s.loadTap code captured) = .next s :=
      fun code captured => by rw [State.loadTap_held h]
    exact ⟨stay .., stay .., stay .., stay .., stay .., fun _ _ => by simp [exec, execSamplePreload, h]⟩

end Sys2Proof.Machine
end

section
/-! PROOFS. The PLL in work and in doze (R96, R841, R842). -/

namespace Sys2Proof.Machine

variable (s : State)

@[simp] theorem State.refreshHold_pwr (boundary : Bool) : (s.refreshHold boundary).pwr = s.pwr := by
  unfold State.refreshHold
  split
  · rfl
  · simp only [State.setReg_pwr]
    exact State.each_proj (p := State.pwr) (fun z f => by simp) _ s

/-- A loss of lock is recorded with its instant (R841). -/
theorem State.loseLock_pwr : s.loseLock.pwr = { s.pwr with locked := false, lostT := s.now } := by simp [State.loseLock]

theorem execPwrPllUnlock_locked (ha : s.alive = true) (hl : s.pwr.locked = true) (hs : s.pwr.stopped = false) :
    execPwrPllUnlock s = .next s.loseLock := by simp [execPwrPllUnlock, ha, hl, hs]

/-- A relock takes effect 10 µs after the loss at the soonest (R842). -/
theorem execPwrPllRelock_lost (dt : Nat) (h : s.regBit 0x0018 0 0 = true) : ∃ t : State,
    execPwrPllRelock dt s = .next t ∧ t.pwr.locked = true ∧ t.now = max (s.now + dt) (s.pwr.lostT + 4000) := by
  have hnow := State.reach_now (s.elapse dt) (s.pwr.lostT + 4000)
  rw [State.elapse_now] at hnow
  simp only [execPwrPllRelock, h, Bool.not_true, Bool.false_eq_true, if_false]
  exact ⟨_, rfl, by simp, by simp only [State.emit_now, State.setRegBit_now, hnow]⟩

/-- A PLL that restarts, of any state: of one that is reached after many cycles the kernel would compute with their number. -/
theorem State.restarting_reads {z : State} {n : Nat} (hz : z.now = n) : ∃ t : State,
    Host.Outcome.next (φ := Fault) (ρ := Refusal) { z with pwr := { z.pwr with restarting := true } } = .next t ∧
      t.pwr.restarting = true ∧ t.now = n := ⟨_, rfl, rfl, hz⟩

/-- In doze the PLL restarts 40 µs before a wake boundary where no trigger calls for it before (R96). -/
theorem execPllRestart_wake (hs : s.pwr.stopped = true) (hr : s.pwr.restarting = false) (ht : s.trigPending = false)
    (hd : s.dozeNext = false) : ∃ t : State, execPllRestart s = .next t ∧ t.pwr.restarting = true ∧
      t.now = max s.now (s.exactEnd - 16000) := by
  simp only [execPllRestart, hs, hr, ht, hd, Bool.not_true, Bool.or_self, Bool.false_eq_true, if_false]
  exact State.restarting_reads (State.reach_now ..)

/-- The clocks that go on leave the PLL neither stopped nor restarting (R96). -/
theorem State.clocksResume_pwr : s.clocksResume.pwr = { s.pwr with stopped := false, restarting := false } := by
  have leaves : ∀ {α : Type} (f : State → α → State), (∀ z a, (f z a).pwr = z.pwr) → ∀ l z, (State.each z l f).pwr = z.pwr :=
    fun f hf l z => State.each_proj (p := State.pwr) hf l z
  have hgrid : ∀ from_ z n, (State.shiftGrid from_ z n).pwr = z.pwr := fun _ _ _ => rfl
  have hold : ∀ z u, (State.holdOff z u).pwr = z.pwr := fun z u => by
    unfold State.holdOff
    dsimp only
    split <;> simp
  have hline : ∀ z k, (State.restartLine z k).pwr = z.pwr := fun z k => by
    unfold State.restartLine
    split <;> rfl
  unfold State.clocksResume
  simp only [leaves _ hline, leaves _ hold, leaves _ (hgrid _), leaves _ fun _ _ => State.setSeq_pwr ..]

theorem execPllRelock_restarting (h : s.pwr.restarting = true) : execPllRelock s = .next { s.clocksResume with
    pwr := { s.clocksResume.pwr with locked := true } } := by
  simp only [execPllRelock, h, Bool.not_true, Bool.false_eq_true, if_false]

/-- Settles O30: the loss of lock, the relock, and the restart in doze with the clocks that go on after it. -/
theorem pllCommands : Obligations.PllCommands := by
  unfold Obligations.PllCommands
  refine fun s => ⟨fun ha hl hs => ⟨_, execPwrPllUnlock_locked s ha hl hs, ?_, ?_, ?_⟩,
    execPwrPllRelock_lost s, execPllRestart_wake s,
    fun h => ⟨_, execPllRelock_restarting s h, ?_, ?_, rfl, ?_⟩⟩
  · rw [State.loseLock_pwr]
  · rw [State.loseLock_pwr]
  · simp
  · simp only [State.clocksResume_pwr]
  · simp only [State.clocksResume_pwr]
  · simp

end Sys2Proof.Machine
end

section
/-! PROOFS. The random source (R666 to R674). -/

namespace Sys2Proof.Machine

variable (s : State)

/-! ### What the operations of the source leave -/

@[simp] theorem State.refreshRng_leaves :
    s.refreshRng.rng = s.rng ∧ s.refreshRng.now = s.now ∧ s.refreshRng.mem = s.mem := ⟨rfl, rfl, rfl⟩

@[simp] theorem State.healthEvent_leaves (source : Nat) (prop start : Bool) (retest : Nat) :
    (s.healthEvent source prop start retest).rng = s.rng ∧ (s.healthEvent source prop start retest).now = s.now ∧
    (s.healthEvent source prop start retest).mem = s.mem := by
  simp [State.healthEvent]

@[simp] theorem State.endJob_leaves (num status : Nat) (words : List Word) :
    (s.endJob num status words).rng = s.rng ∧ (s.endJob num status words).mem = s.mem := by
  unfold State.endJob
  split <;> exact ⟨rfl, rfl⟩

@[simp] theorem State.failRandom_leaves :
    s.failRandom.rng = s.rng ∧ s.failRandom.now = s.now ∧ s.failRandom.mem = s.mem := by
  unfold State.failRandom
  extract_lets s1
  have hjob : s1.rng = s.rng ∧ s1.now = s.now ∧ s1.mem = s.mem := by
    simp only [s1]
    split <;> simp
  refine State.each_keeps (P := fun z => z.rng = s.rng ∧ z.now = s.now ∧ z.mem = s.mem) (fun z n hz => ?_) _ _ hjob
  dsimp only
  repeat' split
  all_goals exact hz

theorem State.seedDrbg_rng (seed : BitVec 384) : (s.seedDrbg seed).rng = { s.rng with
    key := (ctrUpdate seed s.rng.key s.rng.v).1, v := (ctrUpdate seed s.rng.key s.rng.v).2, calls := 0, live := true } := rfl
@[simp] theorem State.seedDrbg_now (seed : BitVec 384) : (s.seedDrbg seed).now = s.now := rfl

/-! ### The record of a failure (R671) -/

section Record

variable {s : State} (hs : s.regsWf = true)
include hs

theorem State.healthEvent_record (source : Nat) (prop : Bool) (retest : Nat) :
    (s.healthEvent source prop false retest).reg 0x0503 = Word.of (source + prop.toNat * 4) := by
  have hset := State.regsWf_setReg hs 0x0503 0 (Word.of (source + prop.toNat * 4 + false.toNat * 8))
  have hcount := State.regsWf_bump hset (if prop then 0x0505 else 0x0504) 0
  unfold State.healthEvent
  rw [State.reg_emit_other (State.regsWf_setRegBit hcount ..) (by decide), State.reg_setRegBit_other hcount (by decide),
    State.reg_bump hset, if_neg (by cases prop <;> decide), State.reg_setReg_same hs]
  simp

theorem State.refreshRng_reg {id : Nat} (hid : regKey id 0 ≠ regKey 0x0501 0) : s.refreshRng.reg id = s.reg id := by
  unfold State.refreshRng
  rw [State.reg_setRegBit_other (State.regsWf_setRegBit hs ..) hid, State.reg_setRegBit_other hs hid]

end Record

/-! ### Commands of the source -/

theorem execRngTake_word (hrun : s.isRunning 0x05 = true) (hlen : 4 ≤ s.rng.buf.length) : execRngTake s =
    .next (({ s with rng := { s.rng with buf := s.rng.buf.drop 4 } } : State).countRandom 4).refreshRng := by
  simp [execRngTake, hrun, show ¬s.rng.buf.length < 4 by omega]

/-- The source after a continuous test has failed: flushed, zeroized, and in its first retest. -/
def State.zeroized (s : State) : State := { s with rng := { s.rng with
  buf := [], key := 0, v := 0, calls := 0, live := false, seeding := false, retest := 1, errPort := true, since := s.now } }

theorem execRngHealthFail_fails {before window : List (List Bool)} {src : Nat} {prop : Bool}
    (hfail : continuousFail before window = some (src, prop)) (hact : s.isActive 0x05 = true) (hstop : s.rng.stopped = false)
    (hlive : s.rng.live = true) : execRngHealthFail before window s =
      .next ((s.zeroized.failRandom.healthEvent src prop false 0).refreshRng) := by
  simp [execRngHealthFail, hfail, hact, hstop, hlive, State.zeroized]

section Retest

variable {s : State} {sources : List (List Bool)} (hstop : s.rng.stopped = false) (hseed : s.rng.seeding = false)
  (hret : 0 < s.rng.retest)
include hstop hseed hret

/-- A start-up test that every source passes is followed by seed collection (R672). -/
theorem execRngRetestEnd_passes (hpass : startFail sources = none) (hlen : sources.length = 4)
    (hall : ∀ l ∈ sources, l.length = 1024) : execRngRetestEnd sources s =
      let z := s.reach (s.rng.since + 81920)
      .next ((({ z with rng := { s.rng with seeding := true, since := z.now } } : State).setReg 0x0502 0 0).refreshRng) := by
  have hret' : s.rng.retest ≠ 0 := by omega
  have hall' : (sources.all fun l => l.length == 1024) = true := List.all_eq_true.2 fun l hl => by simp [hall l hl]
  simp [execRngRetestEnd, hstop, hseed, hret', hpass, hlen, hall']

/-- One that fails ends at its failure: the third stops the sources, any other is followed by the next (R672, R674). -/
theorem execRngRetestEnd_fails {k src : Nat} {prop : Bool} (hfail : startFail sources = some (k, src, prop)) : ∃ t : State,
    execRngRetestEnd sources s = .next t ∧ t.now = max s.now (s.rng.since + 80 * k) ∧
      t.rng.stopped = (s.rng.retest == 3) ∧ t.rng.retest = (if s.rng.retest = 3 then 0 else s.rng.retest + 1) ∧
      t.rng.live = s.rng.live ∧ t.mem = s.mem := by
  have hret' : s.rng.retest ≠ 0 := by omega
  unfold execRngRetestEnd
  rw [hfail]
  by_cases h3 : s.rng.retest = 3
  · exact ⟨_, by simp only [hstop, hseed, h3]; rfl, by simp [State.reach_now], by simp [h3], by simp [h3], by simp, by simp⟩
  · exact ⟨_, by simp [hstop, hseed, hret', h3]; rfl, by simp [State.reach_now], by simp [h3], by simp [h3], by simp, by simp⟩

end Retest

/-- Two conditioned blocks instantiate the generator from zeros (R669). -/
theorem execRngRecovered_seeds (a b : List Bool) (hseed : s.rng.seeding = true) (hstop : s.rng.stopped = false) : ∃ t : State,
    execRngRecovered ⟨a, b⟩ s = .next t ∧ t.now = max s.now (s.rng.since + 81920) ∧ t.rng.live = true ∧ t.rng.retest = 0 ∧
      t.rng.seeding = false ∧ t.rng.calls = 0 ∧ (t.rng.key, t.rng.v) = ctrUpdate (seedOf a b) 0 0 ∧
      t.rng.buf = s.rng.buf := by
  simp only [execRngRecovered, hseed, hstop, Bool.not_true, Bool.or_self, Bool.false_eq_true, if_false]
  refine ⟨_, rfl, ?_⟩
  by_cases h : s.rng.retest = 0
  · simp [h, State.seedDrbg_rng, State.reach_now]
  · simp [h, State.seedDrbg_rng, State.reach_now]

theorem execDrbgReseed_due (a b : List Bool) (hlive : s.rng.live = true) (hcalls : 4096 ≤ s.rng.calls)
    (hrun : s.isRunning 0x05 = true) (hdoze : s.dozeTick = false) :
    execDrbgReseed ⟨a, b⟩ s = .next (s.seedDrbg (seedOf a b)).refreshRng := by
  simp [execDrbgReseed, State.reseeds, hlive, hcalls, hrun, hdoze]

theorem execDrbgReseed_early (a b : List Bool) (hcalls : s.rng.calls < 4096) : execDrbgReseed ⟨a, b⟩ s = .next s := by
  simp [execDrbgReseed, State.reseeds, show ¬4096 ≤ s.rng.calls by omega]

/-! ### A generate call (R670) -/

/-- A job that collects random bytes. -/
def JobKind.isRandom : JobKind → Bool
  | .random .. => true
  | _ => false

/-- No request waits for random bytes. -/
def State.noAsker (s : State) : Prop :=
  ∀ n r, n < 5 → (s.trOf n).exec = some r → r.op ≠ 0x48 ∨ r.status ≠ stQueued

theorem State.feedJob_idle (h : s.findJob JobKind.isRandom = none) : s.feedJob = s := by
  unfold State.feedJob
  split
  · rfl
  · next j hj => exact absurd (hj.symm.trans h) (Option.some_ne_none j)

/-- Where nothing waits for random bytes none are drawn. -/
theorem State.feedRandom_idle (hjob : s.findJob JobKind.isRandom = none) (hask : s.noAsker) : s.feedRandom = s := by
  have hreq : ∀ n ∈ List.range 5, s.feedRequest n = s := fun n hn => by
    unfold State.feedRequest
    dsimp only
    split
    · rfl
    · next r hr => rw [if_pos (hask n r (List.mem_range.1 hn) hr)]
  have hall : ∀ l : List Nat, (∀ n ∈ l, s.feedRequest n = s) → s.each l State.feedRequest = s := fun l hl => by
    induction l with
    | nil => rfl
    | cons n l ih =>
      rw [State.each, List.foldl_cons, hl n List.mem_cons_self]
      exact ih fun m hm => hl m (List.mem_cons_of_mem n hm)
  rw [State.feedRandom, s.feedJob_idle hjob, hall _ hreq]

/-- A generate call with room for its 64 bytes, and nothing that waits for them (R669, R670). -/
theorem execDrbgGenerate_room (hact : s.isActive 0x05 = true) (hlive : s.rng.live = true) (hdoze : s.dozeTick = false)
    (hcalls : s.rng.calls < 4096) (hroom : s.rng.buf.length + 64 ≤ 256) (hjob : s.findJob JobKind.isRandom = none)
    (hask : s.noAsker) : execDrbgGenerate s = .next ({ s with rng := { s.rng with
      buf := s.rng.buf ++ (ctrGenerate s.rng.key s.rng.v).1, key := (ctrGenerate s.rng.key s.rng.v).2.1
      v := (ctrGenerate s.rng.key s.rng.v).2.2, calls := s.rng.calls + 1 } } : State).refreshRng := by
  simp only [execDrbgGenerate, hact, hlive, hdoze, s.feedRandom_idle hjob hask, hcalls, hroom, and_self, if_true,
    Bool.not_true, Bool.or_self, Bool.false_eq_true, if_false]
  rw [State.feedRandom_idle]
  · exact hjob
  · exact hask

/-- Settles O50: each command in the case that its premises name. -/
theorem randomSourceCommands : Obligations.RandomSourceCommands := by
  unfold Obligations.RandomSourceCommands
  refine fun s => ⟨execRngTake_word s, fun before window src prop hfail hact hstop hlive =>
    ⟨_, execRngHealthFail_fails s hfail hact hstop hlive, ?_⟩, fun sources hstop hseed hret =>
    ⟨execRngRetestEnd_passes hstop hseed hret, fun k src prop => execRngRetestEnd_fails hstop hseed hret⟩,
    execRngRecovered_seeds s, execDrbgReseed_due s, execDrbgReseed_early s,
    fun hact hlive hdoze hcalls hroom hjob hask =>
      ⟨_, execDrbgGenerate_room s hact hlive hdoze hcalls hroom hjob hask, by simp⟩⟩
  refine ⟨by simp [State.zeroized], by simp [State.zeroized], by simp [State.zeroized], by simp [State.zeroized],
    by simp [State.zeroized], by simp [State.zeroized], by simp [State.zeroized], fun hs => ?_⟩
  have hwf : s.zeroized.failRandom.regsWf = true :=
    State.FormsKept.regsWf (s := s.zeroized) (by simp) hs
  have hwf' : (s.zeroized.failRandom.healthEvent src prop false 0).regsWf = true :=
    State.FormsKept.regsWf (s := s.zeroized.failRandom) (by simp) hwf
  rw [State.refreshRng_reg hwf' (by decide), State.healthEvent_record hwf]

end Sys2Proof.Machine
end

section
/-! PROOFS. Outputs of a filter chain and the words of a snapshot (R306, R307, R575, R578, R579, R582). -/

namespace Sys2Proof.Machine

/-! ### Outputs -/

section Output

variable {s : State} {f : Fin 8} {o : ChainOut} {rest : List ChainOut} (htaken : (s.filtOf f.val).taken = none)
  (houts : (s.filtOf f.val).outs = o :: rest)
include htaken houts

/-- The output of a chain that is not primed is suppressed and counted (R575). -/
theorem execFiltOutput_unprimed (hprimed : o.primed = false) : execFiltOutput f s =
    .next ((s.setFilt f.val { s.filtOf f.val with outs := rest }).bump ((0x10 + f.val) * 256 + 0x1C)) := by
  simp [execFiltOutput, htaken, houts, hprimed]

/-- With DELIVER = 0 an output goes out by the instant it is due (R578, R579). -/
theorem execFiltOutput_delivers (hprimed : o.primed = true) (hovr : o.ovr = false) (hlast : o.last = false)
    (hmode : s.reg ((0x10 + f.val) * 256 + 0x0D) = 0) : execFiltOutput f s =
      .next ((s.setFilt f.val { s.filtOf f.val with outs := rest }).deliverOut f.val o none (min s.now o.due)) := by
  have hmode' : ∀ x, (s.setFilt f.val x).reg ((0x10 + f.val) * 256 + 0x0D) = 0 := fun _ => hmode
  simp [execFiltOutput, htaken, houts, hprimed, hovr, hlast, hmode']

/-- Otherwise it is held while the buffer has room (R582). -/
theorem execFiltOutput_holds (hprimed : o.primed = true) (hovr : o.ovr = false) (hlast : o.last = false)
    (hmode : s.reg ((0x10 + f.val) * 256 + 0x0D) ≠ 0) (hroom : (s.filtOf f.val).held.length < 256) : execFiltOutput f s =
      let z := s.setFilt f.val { s.filtOf f.val with outs := rest }
      .next (z.setFilt f.val { z.filtOf f.val with held := (s.filtOf f.val).held ++ [o] }) := by
  have hmode' : ∀ x, (s.setFilt f.val x).reg ((0x10 + f.val) * 256 + 0x0D) ≠ 0 := fun _ => hmode
  simp only [execFiltOutput, htaken, houts, hprimed, hovr, hlast, hroom, if_neg (hmode' _), Bool.not_true, Bool.false_eq_true,
    if_false, if_true]

end Output

/-! ### Snapshots -/

section Capture

/-- A snapshot of a converter. -/
def JobKind.isCapture (c : Side) : JobKind → Bool
  | .capture cc .. => cc == c
  | _ => false

variable {s : State} {c : Side} {j : Job} {e a cnt stored dl : Nat} (hjob : s.findJob (JobKind.isCapture c) = some j)
  (hkind : j.kind = .capture c e a cnt stored dl)
include hjob hkind

/-- The state in which the next word of a snapshot stands at its address. -/
def State.captured (s : State) (p : Nat × Word) (at_ : Nat) : State :=
  (({ s with mem := { s.mem with caps := s.mem.caps.erase p } } : State).grant (bankOf at_) 3 true).setSramWord at_ p.2

/-- A word of a snapshot is stored; the last one ends the job (R306). -/
theorem execCaptureWord_stores (hover : s.captureOver dl = false) {p : Nat × Word}
    (hword : s.mem.caps.find? (fun p => p.1 == j.num) = some p) (hrun : s.isRunning 0x3C = true) : execCaptureWord c s =
      let z := s.captured p (a + 4 * stored)
      .next (if stored + 1 = cnt then
          ({ z with mem := { z.mem with caps := z.mem.caps.filter fun p => p.1 != j.num } } : State).endJob j.num stDone
            [Word.of cnt]
        else z.setJob j.num (.capture c e a cnt (stored + 1) dl)) := by
  have hrun' : ∀ m, ({ s with mem := m } : State).isRunning 0x3C = true := fun _ => hrun
  unfold execCaptureWord
  split
  · next h => exact absurd (h.symm.trans hjob) (Option.some_ne_none j).symm
  · next k h =>
    obtain rfl : k = j := Option.some.inj (h.symm.trans hjob)
    rw [hword, hkind]
    simp [hover, hrun', State.captured]

/-- Its timeout boundary ends the job LATE (R307). -/
theorem execCaptureTimeout_late (hover : s.captureOver dl = true) : execCaptureTimeout c s =
    .next (({ s with mem := { s.mem with caps := s.mem.caps.filter fun p => p.1 != j.num } } : State).endJob j.num stLate
      [Word.of stored]) := by
  unfold execCaptureTimeout
  split
  · next h => exact absurd (h.symm.trans hjob) (Option.some_ne_none j).symm
  · next k h =>
    obtain rfl : k = j := Option.some.inj (h.symm.trans hjob)
    simp [State.endCapture, hkind, hover]

end Capture

/-- Settles O42: an output by whether the chain is primed and where DELIVER sends it, a snapshot by whether its time is over. -/
theorem outputsAndSnapshots : Obligations.OutputsAndSnapshots := by
  unfold Obligations.OutputsAndSnapshots
  refine fun s => ⟨fun f o rest htaken houts => ⟨execFiltOutput_unprimed htaken houts,
    execFiltOutput_delivers htaken houts, execFiltOutput_holds htaken houts⟩,
    fun c j e a cnt stored dl hjob hkind => ⟨fun hover p hword hrun => ?_, execCaptureTimeout_late hjob hkind⟩⟩
  have hstore := execCaptureWord_stores hjob hkind hover hword hrun
  exact ⟨fun hlast => hstore.trans (congrArg Host.Outcome.next (if_pos hlast)),
    fun hmore => hstore.trans (congrArg Host.Outcome.next (if_neg hmore))⟩

end Sys2Proof.Machine
end

section
/-! PROOFS. The fabric's stream, transmit and receive ports (R338, R646, R762, R793). -/

namespace Sys2Proof.Machine

variable {s : State}

/-! ### Words of a stream port -/

section Stream

variable {ch : Fin 4} {r : Nat} (howner : s.portOwner (12 + ch.val) = some r) (w : Word)
include howner

/-- A word meets an absent sink where DMA or its channel does not take stream words (R338). -/
theorem execDmaStreamWord_absent (h : s.isRunning 0x38 = false ∨ (s.dmaCfg ch.val).bit 0 = false ∨
    (s.dmaCfg ch.val).bit 4 = false) (busy : Bool) : execDmaStreamWord ch w busy s = .next (s.absentDrop (0x20 + r)) := by
  rcases h with h | h | h <;> simp [execDmaStreamWord, howner, h]

variable (hdma : s.isRunning 0x38 = true) (hon : (s.dmaCfg ch.val).bit 0 = true) (hstream : (s.dmaCfg ch.val).bit 4 = true)
  (hdst : s.isRunning (if (s.dmaCfg ch.val).bit 15 then 0x3B else 0x3C) = true)
include hdma hon hstream hdst

/-- A word of a channel that works waits while its lane or port is busy, and is dropped where the buffer is full (R762). -/
theorem execDmaStreamWord_works (busy : Bool) : execDmaStreamWord ch w busy s =
    let x := s.dmaOf ch.val
    let full : Bool := decide (64 ≤ x.stream.length)
    .next (if busy || s.streamWaits ch.val then
        (if full then s.bump 0x38E1 else s.setDma ch.val { x with stream := x.stream ++ [w] })
      else ((if full then s.bump 0x38E1 else s).setDma ch.val { x with stream := [] }).putStream ch.val
        (if full then x.stream else x.stream ++ [w])) := by
  simp only [execDmaStreamWord, howner, hdma, hon, hstream, hdst, Bool.not_true, Bool.or_self, Bool.false_eq_true, if_false]

theorem execDmaStreamWord_writes (hroom : (s.dmaOf ch.val).stream.length < 64) (hfree : s.streamWaits ch.val = false) :
    execDmaStreamWord ch w false s = .next ((s.setDma ch.val { s.dmaOf ch.val with stream := [] }).putStream ch.val
      ((s.dmaOf ch.val).stream ++ [w])) := by
  rw [execDmaStreamWord_works howner w hdma hon hstream hdst]
  simp [hfree, show ¬64 ≤ (s.dmaOf ch.val).stream.length by omega]

theorem execDmaStreamWord_waits (hroom : (s.dmaOf ch.val).stream.length < 64) (busy : Bool)
    (hheld : busy = true ∨ s.streamWaits ch.val = true) : execDmaStreamWord ch w busy s =
      .next (s.setDma ch.val { s.dmaOf ch.val with stream := (s.dmaOf ch.val).stream ++ [w] }) := by
  have hheld' : (busy || s.streamWaits ch.val) = true := by simpa using hheld
  rw [execDmaStreamWord_works howner w hdma hon hstream hdst]
  simp [hheld', show ¬64 ≤ (s.dmaOf ch.val).stream.length by omega]

theorem execDmaStreamWord_drops (hfull : 64 ≤ (s.dmaOf ch.val).stream.length) (busy : Bool)
    (hheld : busy = true ∨ s.streamWaits ch.val = true) : execDmaStreamWord ch w busy s = .next (s.bump 0x38E1) := by
  have hheld' : (busy || s.streamWaits ch.val) = true := by simpa using hheld
  rw [execDmaStreamWord_works howner w hdma hon hstream hdst]
  simp [hheld', hfull]

end Stream

/-! ### Transmit writes and receive hand-offs of a serial channel -/

section Channel

variable {u : Fin 4}

section Write

variable {r : Nat} (howner : s.portOwner (8 + u.val) = some r) (b : Byte)
include howner

theorem execUartFabricWrite_absent (hrun : s.isRunning (0x30 + u.val) = false) :
    execUartFabricWrite u b s = .next (s.absentDrop (0x20 + r)) := by simp [execUartFabricWrite, howner, hrun]

variable (hrun : s.isRunning (0x30 + u.val) = true) (htr : s.isTransport u.val = false) (hfab : s.reg (uartId u.val 5) ≠ 0)
include hrun htr hfab

/-- A fabric write enters a transmit queue with room (R646). -/
theorem execUartFabricWrite_enters (hroom : (s.uartOf u.val).txq.length < (s.depths u.val).2) : execUartFabricWrite u b s =
    .next (s.setUart u.val { s.uartOf u.val with txq := (s.uartOf u.val).txq ++ [b] }) := by
  have hfab' : (s.reg (uartId u.val 5) == 0) = false := beq_false_of_ne hfab
  simp only [execUartFabricWrite, howner, hrun, htr, hfab', Bool.not_true, Bool.or_self, Bool.false_eq_true, if_false,
    if_neg (Nat.not_le.2 hroom)]

theorem execUartFabricWrite_drops (hfull : (s.depths u.val).2 ≤ (s.uartOf u.val).txq.length) :
    execUartFabricWrite u b s = .next (s.bump (uartId u.val 0x1C)) := by
  have hfab' : (s.reg (uartId u.val 5) == 0) = false := beq_false_of_ne hfab
  simp only [execUartFabricWrite, howner, hrun, htr, hfab', Bool.not_true, Bool.or_self, Bool.false_eq_true, if_false,
    if_pos hfull]

end Write

/-- What a hand-off of an entry does, at the instant that it is made. -/
def State.handOff (y : State) (u : Nat) (e : BitVec 12) : State :=
  ((y.setUart u { y.uartOf u with handT := some y.now }).popRx u).feedPort (10 + u) (0x30 + u) (e.setWidth 32)
    [y.tagNow (0x30 + u)]

/-- The instant of the next hand-off: 64 cycles after the one before. -/
def State.handTurn (z : State) (u : Nat) : State := match (z.uartOf u).handT with
  | none => z
  | some t => z.reach (t + 64)

/-- A receive queue hands its oldest entry to the fabric no sooner than 64 cycles after the one before (R793). -/
theorem execUartFabricHandoff_gives {dt : Nat} (hact : (s.elapse dt).isActive (0x30 + u.val) = true)
    (htr : (s.elapse dt).isTransport u.val = false) (hfab : (s.elapse dt).reg (uartId u.val 5) ≠ 0) {e : BitVec 12}
    {rest : List (BitVec 12)} (hq : ((s.elapse dt).uartOf u.val).rxq = e :: rest) :
    execUartFabricHandoff u dt s = .next (((s.elapse dt).handTurn u.val).handOff u.val e) := by
  have hfab' : ((s.elapse dt).reg (uartId u.val 5) == 0) = false := beq_false_of_ne hfab
  have hsome : ((s.elapse dt).uartOf u.val).rxq.isEmpty = false := by rw [hq]; rfl
  have hhead : ((s.elapse dt).uartOf u.val).rxq.headD 0 = e := by rw [hq]; rfl
  simp only [execUartFabricHandoff, hact, htr, hfab', hsome, hhead, Bool.not_true, Bool.or_self, Bool.false_eq_true, if_false]
  rfl

end Channel

/-- Settles O45: words of a stream port, transmit writes and hand-offs, each by the state of its channel. -/
theorem fabricPortsMoveWords : Obligations.FabricPortsMoveWords := by
  unfold Obligations.FabricPortsMoveWords
  refine fun s => ⟨fun ch w r howner => ⟨execDmaStreamWord_absent howner w, fun hdma hon hstream hdst =>
      ⟨execDmaStreamWord_writes howner w hdma hon hstream hdst, execDmaStreamWord_waits howner w hdma hon hstream hdst,
        execDmaStreamWord_drops howner w hdma hon hstream hdst⟩⟩,
    fun u b r howner => ⟨execUartFabricWrite_absent howner b, fun hrun htr hfab =>
      ⟨execUartFabricWrite_enters howner b hrun htr hfab, execUartFabricWrite_drops howner b hrun htr hfab⟩⟩,
    fun u dt hact htr hfab e rest hq => ⟨fun hnone => ?_, fun t hsome => ?_⟩⟩
  · exact (execUartFabricHandoff_gives hact htr hfab hq).trans (by rw [State.handTurn, hnone]; rfl)
  · exact (execUartFabricHandoff_gives hact htr hfab hq).trans (by rw [State.handTurn, hsome]; rfl)

end Sys2Proof.Machine
end

section
/-! PROOFS. Memory in the background: the scrubber, uncorrectable reads, background drains and bursts, and the pattern check
(R731, R735 to R737, R744, R751, R759, R764). -/

namespace Sys2Proof.Machine

variable (s : State)

/-! ### The scrubber -/

@[simp] theorem State.eccUncorr_mem (w : Nat) : (s.eccUncorr w).mem = s.mem := by simp [State.eccUncorr]

/-- The state in which the scrubber has read its next word, which reads as uncorrectable where it is poisoned (R736). -/
def State.scrubRead (s : State) : State :=
  if lookup false s.mem.poison s.scrubWord then (s.reach s.scrubSlot).eccUncorr s.scrubWord else s.reach s.scrubSlot

theorem State.scrubRead_mem : s.scrubRead.mem = s.mem := by
  unfold State.scrubRead
  split <;> simp

/-- The scrubber goes on in slot `t`: to the next word, or with a pass counted to the first. -/
def State.scrubOn (y : State) (t : Nat) : State :=
  if y.mem.scrubAt + 1 < sramBytes / 8 then { y with mem := { y.mem with scrubAt := y.mem.scrubAt + 1, scrubT := t + 1 } }
  else ({ y with mem := { y.mem with scrubAt := 0, scrubT := t + 1 } } : State).bump 0x3C05

theorem execSramScrubStep_reads (h : s.scrubs = true) :
    execSramScrubStep false s = .next (s.scrubRead.scrubOn s.scrubSlot) := by
  have hword : (s.reach s.scrubSlot).scrubWord = s.scrubWord := by simp only [State.scrubWord, State.reach_mem]
  have hread : (if lookup false (s.reach s.scrubSlot).mem.poison (s.reach s.scrubSlot).scrubWord then
      (s.reach s.scrubSlot).eccUncorr (s.reach s.scrubSlot).scrubWord else s.reach s.scrubSlot) = s.scrubRead := by
    simp only [State.scrubRead, hword, State.reach_mem]
  simp only [execSramScrubStep, h, Bool.not_true, Bool.false_eq_true, if_false]
  exact congrArg (fun y : State => Host.Outcome.next (y.scrubOn s.scrubSlot)) hread

/-- The scrubber goes to the next word (R737). -/
theorem execSramScrubStep_next (h : s.scrubs = true) (hat : s.mem.scrubAt + 1 < 1048576) : execSramScrubStep false s =
    .next { s.scrubRead with mem := { s.scrubRead.mem with scrubAt := s.mem.scrubAt + 1, scrubT := s.scrubSlot + 1 } } := by
  rw [execSramScrubStep_reads s h, State.scrubOn, State.scrubRead_mem]
  exact congrArg Host.Outcome.next (if_pos hat)

/-- At the end of SRAM a pass is counted (R737). -/
theorem execSramScrubStep_pass (h : s.scrubs = true) (hat : s.mem.scrubAt + 1 = 1048576) : execSramScrubStep false s =
    .next (({ s.scrubRead with mem := { s.scrubRead.mem with scrubAt := 0, scrubT := s.scrubSlot + 1 } } : State).bump
      0x3C05) := by
  rw [execSramScrubStep_reads s h, State.scrubOn, State.scrubRead_mem]
  exact congrArg Host.Outcome.next (if_neg (show ¬s.mem.scrubAt + 1 < 1048576 by omega))

/-! ### Errors, drains, bursts and the pattern check -/

/-- An uncorrectable read of an aligned address is counted with its address and logged (R735). -/
theorem execSramEccUncorr_aligned (addr : Word) (hrun : s.isRunning 0x3C = true) (hin : addr.toNat < 0x800000)
    (h8 : addr.toNat % 8 = 0) : execSramEccUncorr addr s =
      .next (((s.bump 0x3C02).setReg 0x3C03 0 addr).emit 0x3C evSramEccUncorr
        (addr.toNat + (lookup false s.mem.poison (addr.toNat / 8)).toNat * 2 ^ 23)) := by
  have hmod : addr.toNat % 2 ^ 23 = addr.toNat := Nat.mod_eq_of_lt hin
  have haddr : 8 * (addr.toNat / 8) = addr.toNat := by omega
  simp only [execSramEccUncorr, hrun, hmod, State.eccUncorr, haddr, Word.of, BitVec.ofNat_toNat, BitVec.setWidth_eq,
    Bool.not_true, Bool.false_eq_true, if_false]

/-- A queue whose level has reached DRAIN_MIN starts a burst (R744). -/
theorem execGeyserBackgroundDrain_starts (q : Fin 16) (hgey : s.isRunning 0x39 = true) (hx : s.isRunning 0x3B = true)
    (hdoze : s.dozeTick = false) (hon : s.regBit 0x3982 0 0 = true) (hlevel : s.regN 0x3981 ≤ 4 * (s.queue q.val).words.length)
    (hidle : (s.queue q.val).burst = none) : execGeyserBackgroundDrain q s =
      .next (s.moveDrain q.val 3 (min (s.queue q.val).words.length (s.regN 0x3980 / 4)) none) := by
  simp [execGeyserBackgroundDrain, hgey, hx, hdoze, hon, hidle, Nat.not_lt.2 hlevel, State.drainSize]

section Auto

variable {s : State} {ch : Fin 24} (hdma : s.isRunning 0x38 = true) (hdoze : s.dozeTick = false)
  (hon : (s.dmaCfg ch.val).bit 0 = true) (hauto : (s.dmaCfg ch.val).bit 3 = true) (hcls : (s.dmaCfg ch.val).bits 1 2 = 3)
  (hpend : s.dmaPending (fun a b => s.reg a b) ch.val ≠ 0) (hidle : (s.dmaOf ch.val).burst = none)
  (hsram : s.isRunning 0x3C = true)
include hdma hdoze hon hauto hcls hpend hidle hsram

/-- A class C AUTO channel starts its next descriptor, or ends a faulty one with its STATUS (R759, R764). -/
theorem execDmaAutoBurst_pending : execDmaAutoBurst ch s =
    .next (if s.descStatus ch.val ≠ 0 then
        (if s.descStatus ch.val = 4 then s.dmaAbsent ch.val else s).endDesc ch.val (s.descStatus ch.val)
      else s.moveBurst ch.val none) := by
  simp only [execDmaAutoBurst, hdma, hdoze, hon, hauto, hcls, hidle, beq_false_of_ne hpend, State.startBurst, hsram,
    Bool.not_true, bne_self_eq_false, Option.isSome_none, Bool.or_self, Bool.false_eq_true, if_false]
  split <;> rfl

end Auto

/-- The lanes and ports with the pattern check in its place: 128 bytes of class C work on XSPI1 (R751). -/
def State.patternAsked (s : State) : State :=
  s.addMover { who := 40, cls := 3, lane := false, legs := [{ port := 1, addr := s.psramBytes, rem := 128, unit := 64 }] }

/-- The check has been made. -/
def State.patternMade (s : State) : State :=
  let z := s.patternAsked.endMover 40
  ({ z with mem := { z.mem with checked := some z.tick.count } } : State).countBytes true 128

/-- The pattern check counts what fails (R751). -/
theorem execXspiPattern_due (ok : Bool) (hrun : s.isRunning 0x3B = true) (hticks : s.reg 0x3B07 ≠ 0)
    (hdoze : s.dozeTick = false) (hdue : s.patternDue = true)
    (hin : (s.patternAsked.moverEnd 40).1 ≤ s.patternAsked.tickEnd) : execXspiPattern ok s =
      .next (if ok then s.patternMade else (s.patternMade.bump 0x3B09).emit 0x3B evXspiPattern 0) := by
  have hcut : decide (s.patternAsked.tickEnd < (s.patternAsked.moverEnd 40).1) = false := decide_eq_false (Nat.not_lt.2 hin)
  have h := hcut
  rw [State.patternAsked] at h
  simp only [execXspiPattern, hrun, hdoze, hdue, beq_false_of_ne hticks, h, Bool.not_true, Bool.or_self, Bool.false_eq_true,
    if_false]
  rfl

/-- Settles O51: each background step in the case that its premises name. -/
theorem memoryBackgroundSteps : Obligations.MemoryBackgroundSteps := by
  unfold Obligations.MemoryBackgroundSteps
  refine fun s => ⟨fun h => ⟨execSramScrubStep_next s h, execSramScrubStep_pass s h⟩, execSramEccUncorr_aligned s,
    execGeyserBackgroundDrain_starts s, fun ch hdma hdoze hon hauto hcls hpend hidle hsram => ?_,
    fun hrun hticks hdoze hdue hin => ⟨execXspiPattern_due s true hrun hticks hdoze hdue hin,
      execXspiPattern_due s false hrun hticks hdoze hdue hin⟩⟩
  have hburst := execDmaAutoBurst_pending hdma hdoze hon hauto hcls hpend hidle hsram
  exact ⟨fun h0 => hburst.trans (congrArg Host.Outcome.next (if_neg (not_not.2 h0))),
    fun hbad => hburst.trans (congrArg Host.Outcome.next (if_pos hbad))⟩

end Sys2Proof.Machine
end

section
/-! PROOFS. The fabric's scrubber, upsets and clock lines, and the words that reach its input ports (R338, R347, R350, R618, R626,
R628, R648). -/

namespace Sys2Proof.Machine

variable {s : State} {r : Fin 8}

/-- The scrubber's correction is counted and logged outside a freeze (R626, R648). -/
theorem execFabScrubFix_works (k : Fin 128) (h : (s.unit (0x20 + r.val)).st ≠ .reloading) : execFabScrubFix r k s =
    .next ((s.bump ((0x20 + r.val) * 256 + 10)).emit (0x20 + r.val) evFabScrubFix k.val) :=
  congrArg Host.Outcome.next (if_neg h)

/-- A multi-bit upset forces a RUNNING region into FAULT (R626). -/
theorem execFabConfigUpset_running (k : Fin 128) (h : (s.unit (0x20 + r.val)).st = .running)
    (hskew : (s.unit (0x20 + r.val)).skewed = false) : execFabConfigUpset r k s =
      .next ((s.emit (0x20 + r.val) evFabConfigUpset k.val).forceFault (0x20 + r.val)) := by
  simp [execFabConfigUpset, h, hskew]

theorem execFabConfigUpset_off (k : Fin 128) (h : (s.unit (0x20 + r.val)).st = .off) : execFabConfigUpset r k s =
    .next ((s.emit (0x20 + r.val) evFabConfigUpset k.val).setRegion r.val { s.regionOf r.val with invalid := true }) := by
  simp [execFabConfigUpset, h]

/-- A pin-sourced line that runs and shows no edge is lost (R618). -/
theorem execFabExtClockLost_runs (l : Fin 6) (hact : s.isActive 0x28 = true) (hon : s.regBit 0x2810 0 l.val = true)
    (hsrc : s.reg (0x2808 + l.val) ≠ 0) : execFabExtClockLost l s =
      .next ((s.setRegBit 0x2812 0 l.val true).emit 0x28 evFabExtClockLost l.val) := by
  simp only [execFabExtClockLost, hact, hon, beq_false_of_ne hsrc, Bool.not_true, Bool.or_self, Bool.false_eq_true, if_false]

section Word

variable {kind : StreamPort} {n : Fin 8} {dt : Nat} {x : StreamWord} (hx : (s.elapse dt).nextWord r.val kind n.val = some x)
include hx

/-- The state in which the oldest word on its way to a region has left for its input port. -/
def State.wordTaken (y : State) (r : Nat) (x : StreamWord) : State :=
  y.setRegion r { y.regionOf r with inbox := (y.regionOf r).inbox.erase x }

/-- A region that is not RUNNING is an absent sink (R338). -/
theorem execFabPortInputWord_absent (hrun : (s.elapse dt).isRunning (0x20 + r.val) = false) :
    execFabPortInputWord r kind n dt s = .next (((s.elapse dt).wordTaken r.val x).absentDrop x.prod) := by
  have hrun' : ∀ g, ((s.elapse dt).setRegion r.val g).isRunning (0x20 + r.val) = false := fun _ => hrun
  simp [execFabPortInputWord, hx, hrun', State.wordTaken]

variable (hrun : (s.elapse dt).isRunning (0x20 + r.val) = true)
include hrun

/-- A word with a stale tag is discarded (R347, R350). -/
theorem execFabPortInputWord_stale (hstale : (s.elapse dt).staleTags x.tags = true) :
    execFabPortInputWord r kind n dt s = .next (((s.elapse dt).wordTaken r.val x).discard (0x20 + r.val)) := by
  have hrun' : ∀ g, ((s.elapse dt).setRegion r.val g).isRunning (0x20 + r.val) = true := fun _ => hrun
  have hstale' : ∀ g, ((s.elapse dt).setRegion r.val g).staleTags x.tags = true := fun _ => hstale
  simp [execFabPortInputWord, hx, hrun', hstale', State.wordTaken]

variable (hfresh : (s.elapse dt).staleTags x.tags = false)
include hfresh

/-- A word is held for the region that samples the port (R628). -/
theorem execFabPortInputWord_holds (hfree : lookup none ((s.elapse dt).regionOf r.val).held x.port = none) :
    execFabPortInputWord r kind n dt s =
      let z := (s.elapse dt).wordTaken r.val x
      .next (z.setRegion r.val { z.regionOf r.val with
        held := insert none ((s.elapse dt).regionOf r.val).held x.port (some x.word) }) := by
  have hrun' : ∀ g, ((s.elapse dt).setRegion r.val g).isRunning (0x20 + r.val) = true := fun _ => hrun
  have hfresh' : ∀ g, ((s.elapse dt).setRegion r.val g).staleTags x.tags = false := fun _ => hfresh
  simp [execFabPortInputWord, hx, hrun', hfresh', hfree, State.wordTaken]

/-- While the word before waits, one is dropped and counted (R628). -/
theorem execFabPortInputWord_drops (hheld : lookup none ((s.elapse dt).regionOf r.val).held x.port ≠ none)
    (hlogged : ((s.elapse dt).regionOf r.val).dropTick = true) : execFabPortInputWord r kind n dt s =
      .next (((s.elapse dt).wordTaken r.val x).bump ((0x20 + r.val) * 256 + 11)) := by
  have hrun' : ∀ g, ((s.elapse dt).setRegion r.val g).isRunning (0x20 + r.val) = true := fun _ => hrun
  have hfresh' : ∀ g, ((s.elapse dt).setRegion r.val g).staleTags x.tags = false := fun _ => hfresh
  simp [execFabPortInputWord, hx, hrun', hfresh', hheld, hlogged, State.wordTaken]

end Word

/-- Settles O43: corrections, upsets and lines by the state of their unit, and a word by what it meets at its port. -/
theorem fabricEventsAct : Obligations.FabricEventsAct := by
  unfold Obligations.FabricEventsAct
  exact fun s r k => ⟨execFabScrubFix_works k, execFabConfigUpset_running k, execFabConfigUpset_off k,
    execFabExtClockLost_runs, fun kind n dt x hx => ⟨execFabPortInputWord_absent hx, execFabPortInputWord_stale hx,
      execFabPortInputWord_holds hx, execFabPortInputWord_drops hx⟩⟩

end Sys2Proof.Machine
end

section
/-! PROOFS. The serial receiver (R780 to R786, R790, R795, R796, R799 to R802, R814). -/

namespace Sys2Proof.Machine

/-- Transitions that become known are all that changes of a channel. -/
theorem UartSt.see_eq (from_ : Nat) : ∀ (edges : List Nat) (x : UartSt),
    x.see from_ edges = { x with wave := (x.see from_ edges).wave }
  | [], _ => rfl
  | e :: es, x => by
    have hfirst : ∃ l, x.see from_ [e] = { x with wave := l } := by
      unfold UartSt.see
      simp only [List.foldl_cons, List.foldl_nil]
      split
      · exact ⟨_, rfl⟩
      · exact ⟨_, rfl⟩
    obtain ⟨l, hl⟩ := hfirst
    have hrest : x.see from_ (e :: es) = (x.see from_ [e]).see from_ es := by
      simp only [UartSt.see, List.foldl_cons, List.foldl_nil]
    rw [hrest, hl, UartSt.see_eq from_ es]

@[simp] theorem UartSt.see_inChar (x : UartSt) (from_ : Nat) (edges : List Nat) :
    (x.see from_ edges).inChar = x.inChar := by rw [UartSt.see_eq]
@[simp] theorem UartSt.see_waits (x : UartSt) (from_ : Nat) (edges : List Nat) :
    (x.see from_ edges).waits = x.waits := by rw [UartSt.see_eq]

section Receiver

variable {s : State} {u : Fin 4}

/-! ### Start bits -/

section StartBit

variable {edges : List Nat} (hrun : s.isRunning (0x30 + u.val) = true) (hclk : s.pwr.stopped = false)
  (hchar : (s.uartOf u.val).inChar = false) (hwaits : (s.uartOf u.val).waits = false)
  (hauto : s.regBit (uartId u.val 8) 0 0 = false)
include hrun hclk hchar hwaits hauto

theorem execUartStartBit_none (hnone : ((s.uartOf u.val).see s.now edges).startSample = none) : execUartStartBit u edges s =
    .next (s.setUart u.val ((s.uartOf u.val).see s.now edges)) := by
  simp [execUartStartBit, hrun, hclk, hchar, hwaits, hauto, hnone]

/-- The state in which a level samples as a start bit, which ends RX_IDLE and BREAK (R795, R814). -/
def State.startFound (s : State) (u : Nat) (w : UartSt) (j : Nat) : State :=
  (((s.reach (w.sampleAt j)).setRegBit (uartId u 0x0D) 0 3 false).setRegBit (uartId u 0x0D) 0 4 false).gapCheck u

/-- The receiver at sample 0 of a start bit. -/
def State.startSt (z : State) (u : Nat) (w : UartSt) (j : Nat) : UartSt :=
  { (w.huntFrom j true).afterHigh with divLive := z.rxDiv u w.afterHigh.lin }

section Found

variable {j : Nat} (hfound : ((s.uartOf u.val).see s.now edges).startSample = some j)
include hfound

/-- A start bit takes the settings of its character (R786). -/
theorem execUartStartBit_starts :
    let w := (s.uartOf u.val).see s.now edges
    let z := s.startFound u.val w j
    let y := z.startSt u.val w j
    y.bitOf (z.format u.val) 0 = false → execUartStartBit u edges s = .next (z.setUart u.val { y with
      inChar := true, fmtLive := z.format u.val, fcLive := z.reg (uartId u.val 6), chLive := z.reg (uartId u.val 7) }) := by
  intro w z y hlow
  simp only [y, z, w, State.startFound, State.startSt] at hlow
  simp only [execUartStartBit, hrun, hclk, hchar, hwaits, hauto, hfound, hlow, y, z, w, State.startFound, State.startSt,
    UartSt.see_inChar, UartSt.see_waits, Bool.not_true, Bool.or_self, Bool.false_eq_true, if_false]

/-- One that bit 0 decides high is a glitch and is counted (R785). -/
theorem execUartStartBit_glitch :
    let w := (s.uartOf u.val).see s.now edges
    let z := s.startFound u.val w j
    let y := z.startSt u.val w j
    y.bitOf (z.format u.val) 0 = true →
      let k := if (z.format u.val).bit 4 then 9 else 10
      execUartStartBit u edges s = .next (((z.reach (y.sampleAt (k - 1))).setUart u.val
        (y.huntFrom k (y.sample (k - 1)))).bump (uartId u.val 0x17)) := by
  intro w z y hhigh
  simp only [y, z, w, State.startFound, State.startSt] at hhigh
  simp only [execUartStartBit, hrun, hclk, hchar, hwaits, hauto, hfound, hhigh, y, z, w, State.startFound, State.startSt,
    UartSt.see_inChar, UartSt.see_waits, Bool.not_true, Bool.or_self, Bool.false_eq_true, if_false, if_true]

end Found

end StartBit

/-! ### Characters -/

section Character

variable {edges : List Nat} (hact : s.isActive (0x30 + u.val) = true) (hchar : (s.uartOf u.val).inChar = true)
include hact hchar

/-- The channel once the character in progress is decided, at sample 16n + 8 of its first stop bit (R781). -/
def UartSt.decided (w : UartSt) : UartSt :=
  let n := stopBit w.fmtLive
  { w.huntFrom (16 * n + if w.decide.stop then 10 else 9) w.decide.stop with
    highT := w.sampleAt (16 * n + 8), linT := w.sampleAt (16 * (n + 1)) }

theorem execUartCharComplete_decides : execUartCharComplete u edges s =
    let x := s.uartOf u.val
    let w := x.see (x.sampleAt 0) edges
    .next (((s.reach (w.sampleAt (16 * stopBit w.fmtLive + 8))).setUart u.val w.decided).takeChar u.val w.decided
      w.decide) := by
  simp only [execUartCharComplete, hact, hchar, UartSt.see_inChar, Bool.not_true, Bool.or_self, Bool.false_eq_true, if_false]
  rfl

end Character

section Taken

variable {z : State} {x : UartSt} {c : RxChar} (hlin : z.linMode u.val = false)
  (hbrk : (charTags x.fmtLive c).2.2.2.2 = false)
include hlin hbrk

/-- Without flow control a character is delivered with its tags (R784, R790). -/
theorem State.takeChar_delivers (hfc : x.fcLive.bit 0 = false) : z.takeChar u.val x c =
    let t := charTags x.fmtLive c
    z.deliverEntry u.val (rxEntry t.1 t.2.1 t.2.2.1 t.2.2.2.1 false) := by
  simp [State.takeChar, hlin, hbrk, hfc]

/-- With flow control the stop code sets the pause and is not stored (R796). -/
theorem State.takeChar_stop (hfc : x.fcLive.bit 0 = true) (hfe : (charTags x.fmtLive c).2.1 = false)
    (hpe : (charTags x.fmtLive c).2.2.1 = false) (hcode : (charTags x.fmtLive c).1 = x.chLive.setWidth 8) :
    z.takeChar u.val x c = (z.setRegBit (uartId u.val 0x0D) 0 1 true).bump (uartId u.val 0x1B) := by
  simp [State.takeChar, hlin, hbrk, hfc, hfe, hpe, hcode]

end Taken

/-! ### Idle line -/

/-- One character time of high line turns the line idle (R795). -/
theorem execUartRxIdle_turns (hact : s.isActive (0x30 + u.val) = true) (hchar : (s.uartOf u.val).inChar = false)
    (hclk : s.pwr.stopped = false) (hwaits : (s.uartOf u.val).waits = false) (hhigh : (s.uartOf u.val).endsHigh = true)
    (hidle : s.regBit (uartId u.val 0x0D) 0 3 = false) : execUartRxIdle u s =
      let x := s.uartOf u.val
      .next ((((s.reach (x.highSince x.highT + s.charCycles u.val 1)).setUart u.val x.afterHigh).setRegBit
        (uartId u.val 0x0D) 0 4 false).turnIdle u.val) := by
  simp only [execUartRxIdle, hact, hchar, hclk, hwaits, hhigh, hidle, Bool.not_true, Bool.or_self, Bool.false_and,
    Bool.false_eq_true, if_false]

/-- A line that turns idle shows it. -/
theorem State.turnIdle_idle {z : State} (hz : z.regsWf = true) (u : Nat) :
    (z.turnIdle u).regBit (uartId u 0x0D) 0 3 = true := by
  have hset := State.regBit_setRegBit_same hz (uartId u 0x0D) 0 (i := 3) (by omega) true
  have hwf := State.regsWf_setRegBit hz (uartId u 0x0D) 0 3 true
  have htrig : ((z.setRegBit (uartId u 0x0D) 0 3 true).setRegBit (uartId u 0x0D) 0 6 true).regBit (uartId u 0x0D) 0 3 =
      true := by
    rw [State.regBit, State.setRegBit_eq _ _ _ 6, State.reg_setReg_same hwf]
    exact Word.bit_setBit_true hset 6
  have hlost : regKey (uartId u 0x0D) 0 ≠ regKey 0x0603 0 := by
    unfold regKey uartId
    omega
  unfold State.turnIdle
  dsimp only
  repeat' split
  · rw [State.regBit, State.reg_emit_other (State.regsWf_setRegBit hwf ..) hlost]
    exact htrig
  · exact htrig
  · exact hset

/-! ### Auto-baud -/

section Autobaud

variable {stamps : List Nat} {stop : Bool} (hrun : s.isRunning (0x30 + u.val) = true) (hlin : s.linMode u.val = false)
  (harmed : s.regBit (uartId u.val 8) 0 0 = true)
include hrun hlin harmed

theorem execUartAutobaud_fails (hfail : measureDiv (s.regN (uartId u.val 9)) (if s.regBit (uartId u.val 2) 0 0 then 7 else 8)
    stamps stop = none) : execUartAutobaud u stamps stop s = .next (s.bump (uartId u.val 0x18)) := by
  simp only [execUartAutobaud, hrun, hlin, harmed, hfail, Bool.not_true, Bool.false_eq_true, if_false]

/-- The state after a measurement that has succeeded: the divisor is set, and the hunt begins anew (R799, R800). -/
def State.autobauded (s : State) (u d : Nat) : State :=
  let y := ((s.setReg (uartId u 1) 0 (Word.of d)).setRegBit (uartId u 8) 0 0 false).setRegBit (uartId u 0x0D) 0 5 false
  (y.setUart u { (y.uartOf u).freshHunt y.now with divLive := Word.of d }).emit (0x30 + u) evUartAutobaud d

theorem execUartAutobaud_sets {d : Nat} (hok : measureDiv (s.regN (uartId u.val 9))
    (if s.regBit (uartId u.val 2) 0 0 then 7 else 8) stamps stop = some d)
    (hquiet : (s.autobauded u.val d).regBit (uartId u.val 8) 0 1 = false) : execUartAutobaud u stamps stop s =
      .next (s.autobauded u.val d) := by
  rw [State.autobauded] at hquiet
  simp only [execUartAutobaud, hrun, hlin, harmed, hok, hquiet, State.autobauded, Bool.not_true, Bool.false_eq_true, if_false]

end Autobaud

theorem execAutobaudAbandon_fails (hrun : s.isRunning (0x30 + u.val) = true) (harmed : s.regBit (uartId u.val 8) 0 0 = true) :
    execAutobaudAbandon u false s = .next (s.bump (uartId u.val 0x18)) := by
  simp [execAutobaudAbandon, hrun, harmed]

end Receiver

/-- Settles O46: start bits and glitches, characters, the idle line, and measurements. -/
theorem receiverCommands : Obligations.ReceiverCommands := by
  unfold Obligations.ReceiverCommands
  refine fun s u => ⟨fun edges hrun hclk hchar hwaits hauto => ⟨execUartStartBit_none hrun hclk hchar hwaits hauto,
      fun j hfound => ⟨execUartStartBit_starts hrun hclk hchar hwaits hauto hfound,
        execUartStartBit_glitch hrun hclk hchar hwaits hauto hfound⟩⟩,
    fun edges hact hchar hlin hbrk => ?_, fun hact hchar hclk hwaits hhigh hidle =>
      ⟨execUartRxIdle_turns hact hchar hclk hwaits hhigh hidle, fun hs => State.turnIdle_idle ?_ u.val⟩,
    fun stamps stop hrun hlin harmed => ⟨execUartAutobaud_fails hrun hlin harmed,
      fun d => execUartAutobaud_sets hrun hlin harmed⟩, execAutobaudAbandon_fails⟩
  · have htake := execUartCharComplete_decides (edges := edges) hact hchar
    exact ⟨fun hfc => htake.trans (congrArg Host.Outcome.next (State.takeChar_delivers hlin hbrk hfc)),
      fun hfc hfe hpe hcode => htake.trans (congrArg Host.Outcome.next (State.takeChar_stop hlin hbrk hfc hfe hpe hcode))⟩
  · exact State.FormsKept.regsWf (s := s) (by simp) hs

end Sys2Proof.Machine
end

section
/-! PROOFS. The serial transmitter (R788, R797, R798, R804, R816, R823). -/

namespace Sys2Proof.Machine

section Transmitter

variable {s : State} {u : Fin 4} (hfree : s.txFree u.val = true)
include hfree

section Character

variable (hheld : s.txHeld (s.txEnd u.val (charBits (s.reg (uartId u.val 2)))) = false)
include hheld

/-- An owed stop character goes first and sets XOFF_SENT; no other is owed while the level is above the low mark (R797, R798). -/
theorem execXoffSend_stop {c : Byte} (howed : (s.uartOf u.val).owed = some c) (hfc : s.regBit (uartId u.val 6) 0 1 = true)
    (hsent : s.regBit (uartId u.val 0x0D) 0 2 = false)
    (hlevel : (s.reg (uartId u.val 6)).bits 16 8 < (s.uartOf u.val).rxq.length) : execXoffSend u s =
      .next (((s.setUart u.val { s.uartOf u.val with owed := none }).setRegBit (uartId u.val 0x0D) 0 2 true).sent u.val
        (charBits (s.reg (uartId u.val 2)))) := by
  have hlow : decide ((s.uartOf u.val).rxq.length ≤ (s.reg (uartId u.val 6)).bits 16 8) = false :=
    decide_eq_false (Nat.not_le.2 hlevel)
  simp only [execXoffSend, howed, hfc, hfree, hheld, hsent, hlow, Bool.not_true, Bool.not_false, Bool.and_false,
    Bool.false_and, Bool.or_self, Bool.false_eq_true, if_false]

variable (howed : (s.uartOf u.val).owed = none) (hlin : s.linMode u.val = false)
include howed hlin

/-- A byte of a reply leaves before one of the queue (R797). -/
theorem execUartTxChar_reply {b : Byte} {rest : List Byte} (hout : (s.trOf (u.val + 1)).out = b :: rest) :
    execUartTxChar u s = .next ((s.setTr (u.val + 1) { s.trOf (u.val + 1) with out := rest }).sent u.val
      (charBits (s.reg (uartId u.val 2)))) := by
  simp [execUartTxChar, hfree, hheld, howed, hlin, hout]

/-- A byte of the queue leaves unless the partner has paused it (R797). -/
theorem execUartTxChar_queued {b : Byte} {rest : List Byte} (hout : (s.trOf (u.val + 1)).out = [])
    (hq : (s.uartOf u.val).txq = b :: rest) (hpause : s.regBit (uartId u.val 0x0D) 0 1 = false) : execUartTxChar u s =
      .next (((s.setUart u.val { s.uartOf u.val with txq := rest }).txLevelled u.val (rest.length + 1)).sent u.val
        (charBits (s.reg (uartId u.val 2)))) := by
  simp [execUartTxChar, hfree, hheld, howed, hlin, hout, hq, hpause, State.popTx]

end Character

/-- Contention releases the ball and drops the byte that was being sent (R804, R823). -/
theorem execUartTxContend_queued (hlin : s.linMode u.val = false) (htest : s.tapOverrides = false)
    (hout : (s.trOf (u.val + 1)).out = []) {b : Byte} {rest : List Byte} (hq : (s.uartOf u.val).txq = b :: rest)
    (hpause : s.regBit (uartId u.val 0x0D) 0 1 = false) : execUartTxContend u s =
      .next ((((s.setRegBit (uartId u.val 0x0D) 0 0 true).bump (uartId u.val 0x19)).emit (0x30 + u.val) evUartTxContend
        1).popTx u.val) := by
  simp [execUartTxContend, hfree, hlin, htest, hout, hq, hpause]

end Transmitter

/-- Settles O47: an owed character, a byte of a reply or of the queue, and contention. -/
theorem transmitterCommands : Obligations.TransmitterCommands := by
  unfold Obligations.TransmitterCommands
  refine fun s u hfree => ⟨fun hheld => ⟨fun c howed hfc hsent hlevel => execXoffSend_stop hfree hheld howed hfc hsent hlevel,
    fun howed hlin => ⟨fun b rest hout => execUartTxChar_reply hfree hheld howed hlin hout,
      fun b rest hout hq hpause => execUartTxChar_queued hfree hheld howed hlin hout hq hpause⟩⟩,
    fun hlin htest hout b rest hq hpause => execUartTxContend_queued hfree hlin htest hout hq hpause⟩

end Sys2Proof.Machine
end

section
/-! PROOFS. Frame mode of a serial channel (R806, R808 to R812). -/

namespace Sys2Proof.Machine

/-- Bytes that all come back as they were sent. -/
theorem readsBack_self : ∀ l : List Byte, readsBack l l = l.length
  | [] => rfl
  | a :: l => by simp [readsBack, readsBack_self l, Nat.add_comm]

section Frames

variable {s : State} {u : Fin 4}

section Break

variable (hrun : s.isRunning (0x30 + u.val) = true) (hlin : s.linMode u.val = true) (hclk : s.pwr.stopped = false)
  (hhunt : (s.uartOf u.val).lin = .hunt)
include hrun hlin hclk hhunt

/-- A break that spoils a character starts a frame 11 bit times after its fall (R808). -/
theorem execLinBreak_inChar (hchar : (s.uartOf u.val).inChar = true) : execLinBreak u s =
    let z := s.reach ((s.uartOf u.val).sampleAt (16 * 11))
    .next ((z.setUart u.val { (s.uartOf u.val).freshHunt z.now with
      high := false, seen := false, lin := .delim, linGot := [] }).setRegBit (uartId u.val 0x0D) 0 4 true) := by
  simp [execLinBreak, hrun, hlin, hclk, hhunt, hchar]

theorem execLinBreak_idle (hchar : (s.uartOf u.val).inChar = false) (hbrk : s.regBit (uartId u.val 0x0D) 0 4 = false) :
    execLinBreak u s = .next ((s.setUart u.val { s.uartOf u.val with lin := .delim, linGot := [] }).setRegBit
      (uartId u.val 0x0D) 0 4 true) := by
  simp [execLinBreak, hrun, hlin, hclk, hhunt, hchar, hbrk]

end Break

/-- A subscribed response that is not complete in time ends by whether a byte of it has come (R810). -/
theorem execLinResponseTimeout_subscribed (hsub : (s.uartOf u.val).lin = .subscribe)
    (hact : s.isActive (0x30 + u.val) = true) : execLinResponseTimeout u s =
      let x := s.uartOf u.val
      .next ((s.reach (x.linT + 14 * (s.linLen u.val x.linId + 1) * s.linBit u.val / 16 + 1)).linEnd u.val
        (if x.linGot.isEmpty then 4 else 5)) := by
  simp only [execLinResponseTimeout, hsub, hact, and_self, if_true]

/-- The bytes of a published response: those of the queue, and their checksum (R807, R811). -/
def State.linResponse (s : State) (u : Nat) : List Byte :=
  let x := s.uartOf u
  let data := x.txq.take (s.linLen u x.linId)
  data ++ [s.linSum u x.linId x.pid data]

/-- A published response of which every byte reads back ends OK (R811). -/
theorem execLinPublishResponse_reads (hpub : (s.uartOf u.val).lin = .publish) (hlin : s.linMode u.val = true)
    (hfree : s.txFree u.val = true) : execLinPublishResponse u (s.linResponse u.val) s =
      let x := s.uartOf u.val
      let all := s.linResponse u.val
      let y := (s.setUart u.val { x with txq := x.txq.drop (s.linLen u.val x.linId) }).txLevelled u.val x.txq.length
      let z := y.reach (x.linT + ((s.reg (uartId u.val 0x20)).bits 3 3 + 10 * all.length) * s.linBit u.val / 16)
      .next (((z.setUart u.val { z.uartOf u.val with txT := z.now }).bumpBy (uartId u.val 0x11) 0 all.length).linEnd
        u.val 0) := by
  have hsame := readsBack_self (s.linResponse u.val)
  rw [State.linResponse] at hsame
  simp only [execLinPublishResponse, State.linResponse, hpub, hlin, hfree, hsame, ne_eq, not_true_eq_false, Bool.not_true,
    Bool.false_eq_true, or_self, if_false, if_true]

section Header

variable {b : Byte} {rest : List Byte} (hq : (s.uartOf u.val).txq = b :: rest) (hlin : s.linMode u.val = true)
  (hcmd : s.regBit (uartId u.val 0x20) 0 1 = true) (hhunt : (s.uartOf u.val).lin = .hunt) (hfree : s.txFree u.val = true)
  (hpause : s.regBit (uartId u.val 0x0D) 0 1 = false)
include hq hlin hcmd hhunt hfree hpause

/-- A header that does not read back ends 6 (R812). -/
theorem execLinHeader_mismatch : execLinHeader u false s =
    let z := s.popTx u.val
    .next ((z.setReg (uartId u.val 0x22) 0 ((z.reg (uartId u.val 0x22)).setBits 0 6 (b.toNat % 64))).linEnd u.val 6) := by
  simp [execLinHeader, hq, hlin, hcmd, hhunt, hfree, hpause]

/-- The state in which a header has been sent: it counts two characters (R788, R812). -/
def State.headerSent (s : State) (u : Nat) : State :=
  let z := s.popTx u
  let cfg := s.reg (uartId u 0x20)
  let y := z.reach (z.txEnd u (cfg.bits 6 5 + cfg.bits 11 2 + 1 + 20))
  (y.setUart u { y.uartOf u with txT := y.now, linT := y.now }).bumpBy (uartId u 0x11) 0 2

/-- One that does starts what its identifier's direction says (R812). -/
theorem execLinHeader_reads (hdiv : (s.headerSent u.val).regBit (uartId u.val 0x20) 0 2 = false) : execLinHeader u true s =
    .next ((s.headerSent u.val).linStart u.val (linPid (b.toNat % 64)) false) := by
  rw [State.headerSent] at hdiv
  simp only [execLinHeader, hq, hlin, hcmd, hhunt, hfree, hpause, hdiv, State.headerSent, Bool.not_true, Bool.or_self,
    beq_self_eq_true, Bool.true_or, Bool.false_eq_true, if_false]

end Header

end Frames

/-- Settles O48: breaks, time limits, published responses and headers. -/
theorem frameCommands : Obligations.FrameCommands := by
  unfold Obligations.FrameCommands
  refine fun s u => ⟨fun hrun hlin hclk hhunt => ⟨execLinBreak_inChar hrun hlin hclk hhunt,
      execLinBreak_idle hrun hlin hclk hhunt⟩, fun hsub hact => ?_, execLinPublishResponse_reads,
    fun b rest hq hlin hcmd hhunt hfree hpause => ⟨execLinHeader_mismatch hq hlin hcmd hhunt hfree hpause,
      execLinHeader_reads hq hlin hcmd hhunt hfree hpause⟩⟩
  have hend := execLinResponseTimeout_subscribed hsub hact
  exact ⟨fun hnone => hend.trans (by simp [hnone]), fun hsome => hend.trans (by simp [hsome])⟩

end Sys2Proof.Machine
end

section
/-! PROOFS. Writes to the memories change the memories alone (R736, R743, R754). -/

namespace Sys2Proof.Machine

/-- A state differs from another in its memories, and in nothing else. -/
def State.OnlyMemory (t s : State) : Prop := t = { s with mem := t.mem }

/-- What does not depend on the memories stays. -/
theorem State.OnlyMemory.proj {β : Type} {t s : State} (h : State.OnlyMemory t s) (p : State → β)
    (hp : ∀ (z : State) (m : MemSt), p { z with mem := m } = p z := by exact fun _ _ => rfl) : p t = p s :=
  (congrArg p h).trans (hp s t.mem)

theorem State.OnlyMemory.refl (s : State) : State.OnlyMemory s s := rfl

theorem State.OnlyMemory.trans {t z s : State} (htz : State.OnlyMemory t z) (hzs : State.OnlyMemory z s) :
    State.OnlyMemory t s := Eq.trans htz (congrArg (fun (y : State) => { y with mem := t.mem }) hzs)

theorem State.foldl_onlyMemory {α : Type} {f : State → α → State} (hf : ∀ z a, State.OnlyMemory (f z a) z) :
    ∀ (l : List α) (s : State), State.OnlyMemory (l.foldl f s) s
  | [], s => .refl s
  | a :: l, s => (State.foldl_onlyMemory hf l (f s a)).trans (hf s a)

theorem State.setSramWord_onlyMemory (s : State) (a : Nat) (w : Word) : State.OnlyMemory (s.setSramWord a w) s :=
  State.writeBytes_keeps (P := fun z => State.OnlyMemory z s) (f := State.setSramByte)
    (fun z _ _ h => .trans (z := z) rfl h) w.bytes s a (.refl s)

theorem State.setPsramWord_onlyMemory (s : State) (a : Nat) (w : Word) : State.OnlyMemory (s.setPsramWord a w) s :=
  State.writeBytes_keeps (P := fun z => State.OnlyMemory z s) (f := State.setPsramByte)
    (fun z _ _ h => .trans (z := z) rfl h) w.bytes s a (.refl s)

theorem State.spaceWrite_onlyMemory (s : State) (xspi : Bool) (a : Nat) (w : Word) :
    State.OnlyMemory (s.spaceWrite xspi a w) s := by
  cases xspi
  · exact s.setSramWord_onlyMemory a w
  · exact s.setPsramWord_onlyMemory a w

theorem State.unpoison_onlyMemory (s : State) (k : Nat) : State.OnlyMemory (s.unpoison k) s := rfl

theorem State.writeBurst_onlyMemory (s : State) (n : Nat) (ws : List Word) : State.OnlyMemory (s.writeBurst n ws) s := by
  have hwords := State.foldl_onlyMemory (f := fun z (p : Nat × Word) => z.spaceWrite (s.dmaToX n) (s.dmaDst n (4 * p.1)) p.2)
    (fun z _ => z.spaceWrite_onlyMemory ..) ((List.range ws.length).zip ws) s
  unfold State.writeBurst
  split
  · exact hwords
  · refine (State.foldl_onlyMemory (fun z i => ?_) _ _).trans hwords
    dsimp only
    split
    · exact z.unpoison_onlyMemory _
    · exact .refl z

theorem State.writeDrain_onlyMemory (s : State) (ws : List (Nat × Word)) : State.OnlyMemory (s.writeDrain ws) s :=
  State.foldl_onlyMemory (fun z _ => z.setPsramWord_onlyMemory ..) _ _

section Writes

variable (s : State)

@[simp] theorem State.writeBurst_tick (n : Nat) (ws : List Word) : (s.writeBurst n ws).tick = s.tick :=
  (s.writeBurst_onlyMemory n ws).proj State.tick
@[simp] theorem State.writeBurst_region (n : Nat) (ws : List Word) : (s.writeBurst n ws).region = s.region :=
  (s.writeBurst_onlyMemory n ws).proj State.region
@[simp] theorem State.writeBurst_regs (n : Nat) (ws : List Word) : (s.writeBurst n ws).regs = s.regs :=
  (s.writeBurst_onlyMemory n ws).proj State.regs

@[simp] theorem State.writeDrain_tick (ws : List (Nat × Word)) : (s.writeDrain ws).tick = s.tick :=
  (s.writeDrain_onlyMemory ws).proj State.tick
@[simp] theorem State.writeDrain_region (ws : List (Nat × Word)) : (s.writeDrain ws).region = s.region :=
  (s.writeDrain_onlyMemory ws).proj State.region

end Writes

end Sys2Proof.Machine
end

section
/-! PROOFS. Requests of the fabric to SRAM (R346, R630, R731, R735, R736), and what a clean read of SRAM delivers (R734). -/

namespace Sys2Proof.Machine

/-- A clean read delivers the words as they stand and counts those that it finds uncorrectable (R734, R735). -/
theorem State.readSram_clean_eq (s : State) (src n : Nat) : s.readSram src n .clean =
    ((s.uncorrWords src n .clean).foldl State.eccUncorr s, readWords s.sramByte src n) := by
  have hlen := readWords_length s.sramByte src n
  have hfree : (s.freeWords n).length = n := by simp [State.freeWords]
  have hwords : ((List.range n).zip ((readWords s.sramByte src n).zip (s.freeWords n))).map (fun p => p.2.1) =
      readWords s.sramByte src n := by
    rw [show (fun p : Nat × Word × Word => p.2.1) = Prod.fst ∘ Prod.snd from rfl, ← List.map_map,
      List.map_snd_zip (by simp [hfree, hlen]), List.map_fst_zip (by simp [hfree, hlen])]
  simp only [State.readSram, eccHits, Bool.false_eq_true, if_false, hwords]

/-- A clean read of one aligned 64-bit word meets an error where that word is poisoned (R736). -/
theorem State.uncorrWords_doubleword (s : State) (k : Nat) : s.uncorrWords (k * 8) 2 .clean =
    if lookup false s.mem.poison k then [k] else [] := by
  have hcount : (k * 8 + 4 * 2 + 7) / 8 - k = 1 := by omega
  have hplace : k * 8 / 8 = k := by omega
  simp only [State.uncorrWords, hplace, hcount, eccHits, Bool.or_false, List.range_one, List.map_cons, List.map_nil,
    Nat.add_zero, List.filter_cons, List.filter_nil]

section Request

variable {s : State} {p : Fin 8} {addr : Word} {r : Nat} {b : RegionBody}

/-- The 64-bit word that a request addresses (R630). -/
def sramPlace (addr : Word) : Nat := addr.toNat % 0x800000 / 8

/-- The state in which a bank has granted a request (R731). -/
def State.sramGranted (s : State) (p : Fin 8) (r : Nat) (addr : Word) : State :=
  (State.ringsBefore (bankOf (sramPlace addr * 8)) (s.sramClass r p.val) s.mem.rings.length s).grant
    (bankOf (sramPlace addr * 8)) (s.sramClass r p.val) false

/-- The reply to a request leaves its bank (R346, R630). -/
def State.sramReplied (p : Fin 8) (r lat : Nat) (z : State) (err : Bool) (data : BitVec 64) : State :=
  z.launchReply { port := p.val, region := r, due := z.now + lat, tags := [z.tagNow (0x20 + r), z.tagNow 0x3C], err := err,
                  data := data }

variable (howner : s.portOwner (16 + p.val) = some r) (hrun : s.isRunning 0x3C = true) (hbody : s.body r = some b)
include howner hrun hbody

/-- A request outside the windows of its port answers ERR (R630). -/
theorem execFabricSramRequest_outside (hout : ∀ base size, (p.val, base, size) ∈ b.windows →
      sramPlace addr * 8 < base ∨ base + size < sramPlace addr * 8 + 8) (wr : Option (BitVec 64)) (ecc : Ecc) (lat : Nat) :
    execFabricSramRequest p addr wr ⟨ecc, lat⟩ s =
      let z := s.landReplies (s.now + 1)
      .next (State.sramReplied p r lat z true (lookup (false, 0) z.mem.replies p.val).2) := by
  have hnone : (b.windows.any fun w => w.1 == p.val && w.2.1 ≤ sramPlace addr * 8 &&
      sramPlace addr * 8 + 8 ≤ w.2.1 + w.2.2) = false := by
    refine List.any_eq_false.2 fun ⟨q, base, size⟩ hmem hin => ?_
    simp only [Bool.and_eq_true, beq_iff_eq, decide_eq_true_eq] at hin
    obtain ⟨⟨rfl, hlo⟩, hhi⟩ := hin
    rcases hout base size hmem with h | h <;> omega
  simp only [execFabricSramRequest, howner, hrun, hbody]
  exact congrArg Host.Outcome.next ((if_neg (by decide)).trans (if_pos (congrArg not hnone)))

variable {base size : Nat} (hwin : (p.val, base, size) ∈ b.windows) (hlo : base ≤ sramPlace addr * 8)
  (hhi : sramPlace addr * 8 + 8 ≤ base + size)
include hwin hlo hhi

theorem execFabricSramRequest_inside (wr : Option (BitVec 64)) (ecc : Ecc) (lat : Nat) :
    execFabricSramRequest p addr wr ⟨ecc, lat⟩ s = .next (
      let z := s.sramGranted p r addr
      match wr with
      | some d => ((z.setSramWord (sramPlace addr * 8) (d.setWidth 32)).setSramWord (sramPlace addr * 8 + 4)
          ((d >>> 32).setWidth 32)).unpoison (sramPlace addr * 8 / 8)
      | none =>
        let y := z.landReplies (z.now + 1)
        let q := y.readSram (sramPlace addr * 8) 2 ecc
        State.sramReplied p r lat q.1 (!(y.uncorrWords (sramPlace addr * 8) 2 ecc).isEmpty)
          ((q.2.getD 1 0).setWidth 64 <<< 32 ||| (q.2.getD 0 0).setWidth 64)) := by
  have hin : (b.windows.any fun w => w.1 == p.val && w.2.1 ≤ sramPlace addr * 8 &&
      sramPlace addr * 8 + 8 ≤ w.2.1 + w.2.2) = true :=
    List.any_eq_true.2 ⟨_, hwin, by simp [hlo, hhi]⟩
  simp only [execFabricSramRequest, howner, hrun, hbody]
  refine congrArg Host.Outcome.next ((if_neg (by decide)).trans
    ((if_neg (by rw [Bool.not_eq_true]; exact congrArg not hin)).trans ?_))
  cases wr <;> rfl

/-- A read inside a window replies its word, with ERR where the word is poisoned (R346, R630, R736). -/
theorem execFabricSramRequest_reads (lat : Nat) :
    let z := s.sramGranted p r addr
    let y := z.landReplies (z.now + 1)
    let e := lookup false y.mem.poison (sramPlace addr)
    execFabricSramRequest p addr none ⟨.clean, lat⟩ s =
      .next (State.sramReplied p r lat (if e then y.eccUncorr (sramPlace addr) else y) e
        ((y.sramWord (sramPlace addr * 8 + 4)).setWidth 64 <<< 32 ||| (y.sramWord (sramPlace addr * 8)).setWidth 64)) := by
  intro z y e
  rw [execFabricSramRequest_inside howner hrun hbody hwin hlo hhi]
  simp only [State.readSram_clean_eq, State.uncorrWords_doubleword]
  cases he : lookup false y.mem.poison (sramPlace addr) <;> simp only [e, y, z, he] <;> rfl

end Request

@[simp] theorem State.unpoison_sramByte (s : State) (k a : Nat) : (s.unpoison k).sramByte a = s.sramByte a := rfl
@[simp] theorem State.unpoison_sramWord (s : State) (k a : Nat) : (s.unpoison k).sramWord a = s.sramWord a := rfl
@[simp] theorem State.unpoison_psram (s : State) (k : Nat) : (s.unpoison k).mem.psram = s.mem.psram := rfl

/-- A 64-bit word that is stored as two words, the lower one first, stands at its place (R2, R630); no other byte
changes. -/
theorem State.storeDoubleword {z : State} (hz : z.memoryWf = true) (a k : Nat) (lo hi : Word) :
    let t := ((z.setSramWord a lo).setSramWord (a + 4) hi).unpoison k
    t.sramWord a = lo ∧ t.sramWord (a + 4) = hi ∧ (∀ x, x < a ∨ a + 8 ≤ x → t.sramByte x = z.sramByte x) ∧
      t.mem.psram = z.mem.psram ∧ t.img = z.img ∧ t.regs = z.regs := by
  intro t
  have hlo : (z.setSramWord a lo).memoryWf = true := State.memoryWf_setSramWord hz a lo
  have hstay : ∀ x, x < a + 4 ∨ a + 4 + 4 ≤ x → t.sramByte x = (z.setSramWord a lo).sramByte x :=
    fun x hx => (State.unpoison_sramByte ..).trans (State.sramByte_setSramWord hlo hi hx)
  have hword : t.sramWord a = (z.setSramWord a lo).sramWord a := by
    simp only [State.sramWord, readWord]
    rw [hstay _ (.inl (by omega)), hstay _ (.inl (by omega)), hstay _ (.inl (by omega)), hstay _ (.inl (by omega))]
  have hpsram : ∀ (y : State) b w, (y.setSramWord b w).mem.psram = y.mem.psram := fun y b w => by rw [y.setSramWord_eq b w]
  have hframe : State.OnlyMemory t z := (State.unpoison_onlyMemory _ k).trans
    ((State.setSramWord_onlyMemory _ _ hi).trans (z.setSramWord_onlyMemory a lo))
  refine ⟨?low, ?high, fun x hx => ?other, ?psram, hframe.proj State.img, hframe.proj State.regs⟩
  case low => exact hword.trans (State.sramWord_setSramWord hz a lo)
  case high => exact (State.unpoison_sramWord ..).trans (State.sramWord_setSramWord hlo (a + 4) hi)
  case other => rw [hstay x (by omega), State.sramByte_setSramWord hz lo (by omega)]
  case psram => exact (State.unpoison_psram ..).trans ((hpsram ..).trans (hpsram ..))

/-- Settles O44: a request inside a window writes or reads its word, one outside answers ERR. -/
theorem fabricSramRequestsAct : Obligations.FabricSramRequestsAct := by
  intro s p addr r b lat a cls reply howner hrun hbody
  refine ⟨fun base size hwin hlo hhi => ⟨fun d ecc hwf => ?_, ?_⟩, fun hout wr ecc => ?_⟩
  · exact ⟨_, execFabricSramRequest_inside howner hrun hbody hwin hlo hhi (some d) ecc lat,
      State.storeDoubleword (z := s.sramGranted p r addr) hwf ..⟩
  · have hplace : a / 8 = sramPlace addr := Nat.mul_div_cancel _ (by decide)
    rw [hplace]
    exact execFabricSramRequest_reads howner hrun hbody hwin hlo hhi lat
  · exact execFabricSramRequest_outside howner hrun hbody hout wr ecc lat

end Sys2Proof.Machine
end

section
/-! PROOFS. The steps of a region's load, and the configuration that the end of a freeze makes active (R624, R711, R713). -/

namespace Sys2Proof.Machine

/-! ### Loads -/

/-- A load of a region. -/
def JobKind.isRegionLoad (r : Fin 8) : JobKind → Bool
  | .regionLoad q .. => q == r.val
  | _ => false

/-- A step that does not end the load copies 4 KiB (R711). -/
theorem execRegionLoadStep_copies {s : State} {r : Fin 8} {j : Job} {done total : Nat}
    (hjob : s.findJob (JobKind.isRegionLoad r) = some j) (hkind : j.kind = .regionLoad r.val false done total)
    (hst : (s.unit (0x20 + r.val)).st = .ready ∨ (s.unit (0x20 + r.val)).st = .running)
    (hmore : done + 4096 < (s.loadImage r.val false).length) : execRegionLoadStep r s =
      .next (s.setJob j.num (.regionLoad r.val false (done + 4096) total)) := by
  unfold execRegionLoadStep
  dsimp only
  split
  · next h => exact absurd (h.symm.trans hjob) (by simp)
  · next i h =>
    obtain rfl : i = j := Option.some.inj (h.symm.trans hjob)
    rw [hkind]
    rcases hst with h | h <;> simp [h, hmore]

/-! ### The configurations of the regions -/

section Regions

@[simp] theorem State.ite_region (c : Prop) [Decidable c] (a b : State) :
    (if c then a else b).region = if c then a.region else b.region := by
  split <;> rfl

@[simp] theorem State.each_region {α : Type} {f : State → α → State} (hf : ∀ z a, (f z a).region = z.region)
    (l : List α) (s : State) : (s.each l f).region = s.region := State.each_proj (p := State.region) hf l s

variable (s : State)

@[simp] theorem State.keepUp_region : s.keepUp.region = s.region := by
  unfold State.keepUp
  split <;> rfl

@[simp] theorem State.discard_region (u : Nat) : (s.discard u).region = s.region := rfl

@[simp] theorem State.bumpBy_region (id sub n : Nat) : (s.bumpBy id sub n).region = s.region := rfl

@[simp] theorem State.dropWireRuns_region (f : WireRun → Bool) : (s.dropWireRuns f).region = s.region := rfl

@[simp] theorem State.landReplies_region (before : Nat) : (s.landReplies before).region = s.region := by
  refine State.each_region (f := State.landReply) (fun z f => ?_) _ _
  unfold State.landReply
  split <;> rfl

@[simp] theorem State.dropFlights_region (p : Flight → Bool) : (s.dropFlights p).region = s.region :=
  State.each_region (f := fun z (f : Flight) => z.discard (0x20 + f.region)) (fun z _ => z.discard_region _) _ _

/-- A region that leaves RUNNING changes no configuration (R630). -/
theorem State.onLeave_region (r : Fin 8) (dst : UState) : (s.onLeave (0x20 + r.val) dst).region = s.region := by
  unfold State.onLeave
  rw [if_neg (by omega), if_neg (by omega), if_pos (by omega), State.leaveReplies, State.dropFlights_region,
    State.landReplies_region]

@[simp] theorem State.endJob_region (num status : Nat) (ws : List Word) : (s.endJob num status ws).region = s.region := by
  unfold State.endJob
  split <;> rfl

@[simp] theorem State.refreshHold_region (boundary : Bool) : (s.refreshHold boundary).region = s.region := by
  unfold State.refreshHold
  split
  · rfl
  · exact State.each_region (fun z f => by rw [State.emit_region]) _ _

@[simp] theorem State.cutBurst_region (n : Nat) : (s.cutBurst n).region = s.region := by simp [State.cutBurst]

@[simp] theorem State.cutDrain_region (q : Nat) : (s.cutDrain q).region = s.region := by
  unfold State.cutDrain
  dsimp only
  split <;> simp

@[simp] theorem State.dropSeqItem_region (n idx : Nat) : (s.dropSeqItem n idx).region = s.region := by
  simp [State.dropSeqItem, State.dropRun, State.dropRunA]

end Regions

/-- What a region's configuration consists of: the active one, the shadow and whether it is complete, and the slices. -/
def RegionSt.config (g : RegionSt) : Option RegionCfg × Option RegionCfg × Bool × List (Nat × MacSt) :=
  (g.active, g.shadow, g.complete, g.mac)

/-- The clock and the soundness of the regions stay, and each region keeps its configuration. -/
structure State.KeepsConfigs (t s : State) : Prop where
  now : t.now = s.now
  wf : wfMap {} s.region = true → wfMap {} t.region = true
  config : wfMap {} s.region = true → ∀ r, (t.regionOf r).config = (s.regionOf r).config

theorem State.KeepsConfigs.of_region {t s : State} (hnow : t.now = s.now) (h : t.region = s.region) :
    State.KeepsConfigs t s :=
  ⟨hnow, fun hs => h ▸ hs, fun _ r => by rw [State.regionOf, State.regionOf, h]⟩

theorem State.KeepsConfigs.refl (s : State) : State.KeepsConfigs s s := .of_region rfl rfl

theorem State.KeepsConfigs.trans {t z s : State} (htz : State.KeepsConfigs t z) (hzs : State.KeepsConfigs z s) :
    State.KeepsConfigs t s :=
  ⟨htz.now.trans hzs.now, fun hs => htz.wf (hzs.wf hs), fun hs r => (htz.config (hzs.wf hs) r).trans (hzs.config hs r)⟩

theorem State.KeepsConfigs.frame {t z s : State} (h : State.KeepsConfigs z s) (hnow : t.now = z.now)
    (hregion : t.region = z.region) : State.KeepsConfigs t s := .trans (.of_region hnow hregion) h

theorem State.setRegion_keepsConfigs {s : State} {r : Nat} {g : RegionSt} (hg : g.config = (s.regionOf r).config) :
    State.KeepsConfigs (s.setRegion r g) s := by
  refine ⟨rfl, fun hs => wfMap_insert hs r g, fun hs q => ?_⟩
  rw [State.regionOf, State.setRegion, lookup_insert hs]
  split
  · next h => rw [h, hg]
  · rfl

theorem State.each_keepsConfigs {α : Type} {f : State → α → State} (hf : ∀ z a, State.KeepsConfigs (f z a) z) (l : List α)
    (s : State) : State.KeepsConfigs (s.each l f) s :=
  State.each_keeps (P := fun z => State.KeepsConfigs z s) (fun z a h => (hf z a).trans h) l s (.refl s)

theorem State.ite_keepsConfigs (c : Prop) [Decidable c] {t s : State} (h : State.KeepsConfigs t s) :
    State.KeepsConfigs (if c then t else s) s := by
  split
  · exact h
  · exact .refl s

theorem State.setTick_keepsConfigs (s : State) (x : TickSt) : State.KeepsConfigs { s with tick := x } s :=
  .of_region rfl rfl

theorem State.setUnit_keepsConfigs (s : State) (u : Nat) (x : UnitSt) : State.KeepsConfigs (s.setUnit u x) s :=
  .of_region rfl rfl

theorem State.refreshHold_keepsConfigs (s : State) (boundary : Bool) : State.KeepsConfigs (s.refreshHold boundary) s :=
  .of_region (State.refreshHold_sameTime s boundary).1 (s.refreshHold_region boundary)

/-- A plan item that stops leaves the configurations (Table TICK-3). -/
theorem State.dropItem_keepsConfigs (s : State) (i : RunItem) : State.KeepsConfigs (s.dropItem i) s := by
  by_cases hstrobe : i.item.action = 6
  · have hdrop : s.dropItem i = s.setRegion (i.item.unit - 0x20) { s.regionOf (i.item.unit - 0x20) with
        strobes := (s.regionOf (i.item.unit - 0x20)).strobes.setBit (i.item.arg % 8) false } := by
      simp [State.dropItem, hstrobe]
    rw [hdrop]
    exact State.setRegion_keepsConfigs rfl
  · refine .of_region (State.dropItem_sameTime s i).1 ?_
    simp only [State.dropItem, hstrobe, if_false]
    repeat' split
    all_goals simp

/-- So does a region that the hardware forces into FAULT (R353, R626). -/
theorem State.forceFault_keepsConfigs (s : State) (r : Fin 8) : State.KeepsConfigs (s.forceFault (0x20 + r.val)) s := by
  have hleave : State.KeepsConfigs (if (s.unit (0x20 + r.val)).st = .running
      then s.keepUp.onLeave (0x20 + r.val) .fault else s.keepUp) s :=
    .of_region (by simp) (by rw [State.ite_region, State.onLeave_region, State.keepUp_region, ite_self])
  have hitems : ∀ (z : State) (i : RunItem), State.KeepsConfigs ((z.dropItem i).bump 0x0108) z :=
    fun z i => (z.dropItem_keepsConfigs i).frame rfl rfl
  unfold State.forceFault
  dsimp only
  rw [if_neg (by omega), if_neg (by omega), if_neg (by omega)]
  exact (State.refreshHold_keepsConfigs _ _).trans ((State.setTick_keepsConfigs _ _).trans
    ((State.each_keepsConfigs hitems _ _).trans ((State.setUnit_keepsConfigs _ _ _).trans hleave)))

theorem State.pulseStrobe_keepsConfigs (s : State) (r k : Nat) : State.KeepsConfigs (s.pulseStrobe r k) s :=
  State.setRegion_keepsConfigs rfl

/-- Plan items that start, or are skipped, at the end of a freeze leave the configurations (R61). -/
theorem State.startWaiting_keepsConfigs (s : State) (r : Nat) : State.KeepsConfigs (s.startWaiting r) s := by
  refine (State.each_keepsConfigs (fun z p => ?_) _ _).trans (.of_region rfl rfl)
  dsimp only
  split
  · exact (State.pulseStrobe_keepsConfigs ..).trans (.of_region rfl rfl)
  · exact .of_region rfl rfl

/-- A region that leaves a freeze changes its state and no configuration (R624). -/
theorem State.goState_region {s : State} {r : Fin 8} (hst : (s.unit (0x20 + r.val)).st = .reloading) {dst : UState}
    (hdst : dst = .ready ∨ dst = .running ∨ dst = .draining) (cause : Nat) :
    (s.goState (0x20 + r.val) dst cause).region = s.region := by
  rcases hdst with rfl | rfl | rfl <;> simp [State.goState, hst]

/-- The state in which the shadow of a region is its active configuration (R624). -/
def State.swapped (s : State) (r : Nat) (c : RegionCfg) : State :=
  (s.setRegion r { s.regionOf r with
    active := some c, shadow := none, complete := false, invalid := false, upset := false, afterFrz := none, strobes := 0
    pdone := 0, held := [], shown := [], gate := [], pulse := 0, pstb := 0, thawed := s.now }).fabricInit r

theorem State.swapped_config {s : State} (hs : wfMap {} s.region = true) (r : Nat) (c : RegionCfg) :
    wfMap {} (s.swapped r c).region = true ∧ ((s.swapped r c).regionOf r).config = (some c, none, false, []) := by
  have hset := wfMap_insert (d := ({} : RegionSt)) hs r
  refine ⟨wfMap_insert (hset _) r _, ?_⟩
  simp only [State.swapped, State.fabricInit, State.regionOf, State.setRegion, lookup_insert (hset _), lookup_insert hs, if_true]
  rfl

/-- Where a region goes at the end of its freeze: what the host asked for in the freeze, or the state before it (R299, R370). -/
def State.thawTo (s : State) (r : Nat) (g : RegionSt) : State :=
  match g.afterFrz with
  | none => s.goState (0x20 + r) (if g.wasRun then .running else .ready) 3
  | some off =>
    let z := s.goState (0x20 + r) .draining (if off then 2 else 1)
    z.setUnit (0x20 + r) { z.unit (0x20 + r) with
      next := some (if off then .off else .waking, if off then 2 else 1), restart := !off }

theorem State.thawTo_keepsConfigs {s : State} {r : Fin 8} (hst : (s.unit (0x20 + r.val)).st = .reloading) (g : RegionSt) :
    State.KeepsConfigs (s.thawTo r.val g) s := by
  have hgo : ∀ dst, dst = .ready ∨ dst = .running ∨ dst = .draining → ∀ cause,
      State.KeepsConfigs (s.goState (0x20 + r.val) dst cause) s := fun dst hdst cause =>
    .of_region (State.goState_sameTime s _ dst cause).1 (State.goState_region hst hdst cause)
  unfold State.thawTo
  split
  · refine hgo _ ?_ _
    cases g.wasRun
    · exact .inl rfl
    · exact .inr (.inl rfl)
  · exact (hgo .draining (.inr (.inr rfl)) _).frame rfl rfl

/-- The end of a freeze makes the shadow active, and what follows keeps the configurations (R61, R370, R624, R641). -/
theorem execRegionFreezeEnd_swaps {s : State} {r : Fin 8} (hst : (s.unit (0x20 + r.val)).st = .reloading) {c : RegionCfg}
    (hshadow : (s.regionOf r.val).shadow = some c) :
    ∃ t, execRegionFreezeEnd r s = .next t ∧ State.KeepsConfigs t (s.swapped r.val c) := by
  have hunit : ((s.swapped r.val c).unit (0x20 + r.val)).st = .reloading := hst
  have hthaw : ∀ ev d, State.KeepsConfigs (((s.swapped r.val c).thawTo r.val (s.regionOf r.val)).emit (0x20 + r.val) ev d)
      (s.swapped r.val c) := fun ev d =>
    (State.thawTo_keepsConfigs hunit _).frame (State.emit_now ..) (State.emit_region ..)
  simp only [execRegionFreezeEnd, hst, hshadow, Option.some_or]
  refine ⟨_, rfl, ?_⟩
  refine .trans (State.refreshHold_keepsConfigs ..) (.trans (State.startWaiting_keepsConfigs ..)
    (.trans (State.ite_keepsConfigs _ (State.forceFault_keepsConfigs ..)) ?_))
  split
  · exact hthaw _ _
  · exact (hthaw _ _).frame (State.endJob_sameTime ..).1 (State.endJob_region ..)

/-- Settles O33: the step of a load, and the configuration of the region after the swap. -/
theorem regionLoadsAndSwaps : Obligations.RegionLoadsAndSwaps := by
  intro s r
  refine ⟨fun j done total hjob hkind hst hmore => ?_, fun hst hs c hshadow => ?_⟩
  · exact execRegionLoadStep_copies hjob hkind hst hmore
  · obtain ⟨t, ht, hkeep⟩ := execRegionFreezeEnd_swaps hst hshadow
    obtain ⟨hwf, hconf⟩ := State.swapped_config hs r.val c
    have hend := (hkeep.config hwf r.val).trans hconf
    simp only [RegionSt.config, Prod.mk.injEq] at hend
    obtain ⟨hactive, hshadow', hcomplete, hmac⟩ := hend
    exact ⟨t, ht, hactive, hshadow', hcomplete, hmac, hkeep.now⟩

end Sys2Proof.Machine
end

section
/-! PROOFS. DMA bursts and Geyser drains at their end (R743, R754, R759; log 45). -/

namespace Sys2Proof.Machine

section Movers

variable (s : State)

@[simp] theorem State.endMover_tick (who : Nat) : (s.endMover who).tick = s.tick := State.reach_tick ..
@[simp] theorem State.endMover_units (who : Nat) : (s.endMover who).units = s.units := State.reach_units ..

/-- The end of a mover's work leaves the states of the units. -/
theorem State.endMover_isRunning (who u : Nat) : (s.endMover who).isRunning u = s.isRunning u := by
  simp only [State.isRunning, State.unit, State.endMover_units]
theorem State.endMover_isActive (who u : Nat) : (s.endMover who).isActive u = s.isActive u := by
  simp only [State.isActive, State.unit, State.endMover_units]

end Movers

/-- A descriptor that ends without an error leaves the channel's configuration (R759). -/
theorem State.dmaCfg_endDesc {s : State} (hs : s.regsWf = true) (n : Nat) {status : Nat} (hok : status ≤ 2) :
    (s.endDesc n status).dmaCfg n = s.dmaCfg n := by
  have hbyte : (s.setSramByte (s.descAddr (fun a b => s.reg a b) n + 12) (BitVec.ofNat 8 status)).regsWf = true := hs
  simp only [State.endDesc, State.dmaCfg]
  rw [if_neg (by omega), State.reg_setReg hbyte, if_neg (by simp only [regKey]; omega)]
  rfl

/-! ### Bursts -/

/-- The state in which the lanes have moved a channel's burst (R754). -/
def State.burstMoved (s : State) (n : Nat) : State :=
  (s.endMover n).setDma n { (s.endMover n).dmaOf n with burst := none, tags := [] }

theorem State.burstMoved_regsWf {s : State} (hs : s.regsWf = true) (n : Nat) : (s.burstMoved n).regsWf = true :=
  State.FormsKept.regsWf (s := s) (by simp [State.burstMoved]) hs

/-- A burst within SRAM that reads without an error writes its words and ends its descriptor with STATUS 1 (R759). -/
theorem execDmaBurstComplete_sram {s : State} (hs : s.regsWf = true) {ch : Fin 24} (hburst : (s.dmaOf ch.val).burst = some none)
    (hactive : s.isActive 0x38 = true) (hrun : s.isRunning 0x3C = true) (hend : (s.moverEnd ch.val).1 ≤ s.tickEnd) :
    let z := s.burstMoved ch.val
    z.staleTags (s.dmaOf ch.val).tags = false → z.dmaToX ch.val = false → z.descSpace ch.val = 0 →
    (z.dmaCfg ch.val).bit 9 = false → (z.dmaCfg ch.val).bit 16 = false →
    z.uncorrWords (z.descWord ch.val 0).toNat (z.descLength ch.val / 4) .clean = [] →
    execDmaBurstComplete ch .clean s = .next
      ((z.writeBurst ch.val (z.burstWords ch.val (z.descLength ch.val / 4))).endDesc ch.val 1) := by
  intro z htags hx hspace hring hmark hclean
  have hz : z.regsWf = true := State.burstMoved_regsWf hs ch.val
  have hactive' : z.isActive 0x38 = true := (s.endMover_isActive ..).trans hactive
  have hrun' : z.isRunning 0x3C = true := (s.endMover_isRunning ..).trans hrun
  have hwords : readWords z.sramByte (z.descWord ch.val 0).toNat (z.descLength ch.val / 4) =
      z.burstWords ch.val (z.descLength ch.val / 4) := by
    rw [State.burstWords, hspace]
    rfl
  have hcfg : ∀ ws, ((z.writeBurst ch.val ws).endDesc ch.val 1).dmaCfg ch.val = z.dmaCfg ch.val := fun ws => by
    rw [State.dmaCfg_endDesc (by rw [State.regsWf, State.writeBurst_regs]; exact hz) _ (by decide), State.dmaCfg,
      State.reg, State.writeBurst_regs]
    rfl
  have hmoved : (s.endMover ch.val).setDma ch.val { (s.endMover ch.val).dmaOf ch.val with burst := none, tags := [] } = z :=
    rfl
  simp only [execDmaBurstComplete, hburst, if_neg (Nat.not_lt.2 hend), hmoved]
  simp [hactive', hrun', htags, hx, hspace, State.readSram_clean_eq, hclean, hwords, hcfg, hring, hmark]

/-! ### Drains -/

/-- A drain writes the words that it has taken from its queue, and the rings of those words advance (R743). -/
theorem execDrainComplete_writes {s : State} {q : Fin 16} {k : Nat} (hburst : (s.queue q.val).burst = some (k, none))
    (hactive : s.isActive 0x39 = true) (hrun : s.isRunning 0x3B = true) (hend : (s.moverEnd (24 + q.val)).1 ≤ s.tickEnd) :
    let x := s.queue q.val
    let z := (s.endMover (24 + q.val)).setQueue q.val { x with burst := none, tags := [] }
    z.staleTags x.tags = false → execDrainComplete q s = .next ((((z.writeDrain (x.words.take k)).setQueue q.val
        { x with words := x.words.drop k, burst := none, tags := [] }).countBytes true (4 * (x.words.take k).length)).each
          (x.words.take k) fun z p => (z.advanceWr p.1).refreshThresh p.1) := by
  intro x z htags
  have hactive' : z.isActive 0x39 = true := (s.endMover_isActive ..).trans hactive
  have hrun' : z.isRunning 0x3B = true := (s.endMover_isRunning ..).trans hrun
  have hmoved : (s.endMover (24 + q.val)).setQueue q.val { s.queue q.val with burst := none, tags := [] } = z := rfl
  simp only [execDrainComplete, hburst, if_neg (Nat.not_lt.2 hend), hmoved]
  simp [hactive', hrun', htags, x]

/-- Settles O28: a burst within SRAM and a drain that no item has started. -/
theorem burstsMoveWords : Obligations.BurstsMoveWords := by
  intro s hs
  refine ⟨fun ch hburst hactive hrun hend => ?_, fun q k hburst hactive hrun hend => ?_⟩
  · exact execDmaBurstComplete_sram hs hburst hactive hrun hend
  · exact execDrainComplete_writes hburst hactive hrun hend

end Sys2Proof.Machine
end

section
/-! PROOFS. What ends the work of plan items (R430, R473, R475, R632, R743, R759). -/

namespace Sys2Proof.Machine

/-! ### Wire checks -/

section Checks

/-- A check that is carried on stays the check of its item (R427). -/
theorem State.goOn_idx (s : State) (r : WireRun) : (s.goOn r).idx = r.idx := by
  unfold State.goOn
  split
  · unfold State.nextLine
    dsimp only
    repeat' split
    all_goals rfl
  · rfl
  · dsimp only
    split <;> rfl

theorem State.carryOn_idx (s : State) (t : Nat) : ∀ n r, (s.carryOn t n r).idx = r.idx
  | 0, _ => rfl
  | n + 1, r => by
    unfold State.carryOn
    split
    · rfl
    · split
      · exact (s.carryOn_idx t n (s.goOn r)).trans (s.goOn_idx r)
      · rfl

/-- The clock, the checks and the tick as they stand. -/
def State.checkWork (s : State) : Nat × List WireRun × TickSt := (s.now, s.wire.runs, s.tick)

/-- A verdict marks its pin, and changes neither the clock, nor a check, nor the tick (R434, R438). -/
theorem State.applyVerdict_checkWork (s : State) (c : PinFound) : (s.applyVerdict c).checkWork = s.checkWork := by
  unfold State.applyVerdict
  dsimp only
  repeat' split
  all_goals simp [State.checkWork, State.setSus]

/-- The verdicts of a check take effect, and the pins that it found due are due no longer (R426, R434). -/
def State.concluded (s : State) (q : WireRun) : State :=
  (s.each q.found State.applyVerdict).each (q.found.map PinFound.pin ++ q.idle) fun s p => s.setRegBit 0x1B05 p 4 false

theorem State.concluded_checkWork (s : State) (q : WireRun) : (s.concluded q).checkWork = s.checkWork :=
  (State.each_proj (p := State.checkWork) (f := fun z p => z.setRegBit 0x1B05 p 4 false) (fun _ _ => rfl) _ _).trans
    (State.each_proj State.applyVerdict_checkWork q.found s)

/-- The check in progress finishes with its verdicts, and its item with it (R430). -/
theorem execWireCheckFinish_finishes {s : State} {r : WireRun} {rest : List WireRun} (hruns : s.wire.runs = r :: rest)
    (hend : (s.made r).finish < s.tickEnd) : ∃ t, execWireCheckFinish s = .next t ∧ t.now = max s.now (s.made r).finish ∧
      t.wire.runs = (rest.map fun (w : WireRun) => { w with at_ := max w.at_ (t.now + 1) }) ∧
      t.tick.items = s.tick.items.filter fun q => q.idx != r.idx := by
  let s1 := s.reach (s.made r).finish
  let next := rest.map fun (w : WireRun) => { w with at_ := max w.at_ (s1.now + 1) }
  let z := ({ s1 with wire := { s1.wire with runs := next } } : State).concluded (s.made r)
  have hwork : z.checkWork = (s1.now, next, s1.tick) := State.concluded_checkWork ..
  obtain ⟨hnow, hnext, htick⟩ : z.now = s1.now ∧ z.wire.runs = next ∧ z.tick = s1.tick := by
    simpa only [State.checkWork, Prod.mk.injEq] using hwork
  refine ⟨z.finishItem (s.made r).idx, ?exec, hnow.trans (s.reach_now _), hnext.trans ?runs, ?items⟩
  case exec =>
    simp only [execWireCheckFinish, hruns, if_neg (Nat.not_le.2 hend)]
    rfl
  case runs => rw [State.finishItem, hnow]
  case items => rw [State.finishItem, htick, State.made, State.carryOn_idx, State.reach_tick]

end Checks

/-! ### Bursts and drains -/

section Movers

variable (s : State)

theorem State.ite_sameTick {c : Prop} [Decidable c] {a b : State} (h : a.tick = b.tick) :
    (if c then a else b).tick = b.tick := by
  rw [State.ite_tick, h, ite_self]

@[simp] theorem State.discard_tick (u : Nat) : (s.discard u).tick = s.tick := rfl

@[simp] theorem State.each_tick {α : Type} {f : State → α → State} (hf : ∀ z a, (f z a).tick = z.tick) (l : List α)
    (s : State) : (s.each l f).tick = s.tick := State.each_proj (p := State.tick) hf l s

@[simp] theorem State.countBytes_tick (x1 : Bool) (n : Nat) : (s.countBytes x1 n).tick = s.tick := by
  cases x1 <;> rfl

@[simp] theorem State.endDesc_tick (n status : Nat) : (s.endDesc n status).tick = s.tick := by simp [State.endDesc]

@[simp] theorem State.dmaAbsent_tick (n : Nat) : (s.dmaAbsent n).tick = s.tick := by
  simp [State.dmaAbsent, State.absentDrop, State.gone]

@[simp] theorem State.advanceDring_tick (n bytes : Nat) : (s.advanceDring n bytes).tick = s.tick := by
  simp [State.advanceDring]

@[simp] theorem State.readSram_clean_tick (src n : Nat) : (s.readSram src n .clean).1.tick = s.tick := by
  rw [State.readSram_clean_eq]
  exact State.each_tick (fun z w => by simp [State.eccUncorr]) (s.uncorrWords src n .clean) s

@[simp] theorem State.advanceWr_tick (ring : Nat) : (s.advanceWr ring).tick = s.tick := by simp [State.advanceWr]

@[simp] theorem State.refreshThresh_tick (ring : Nat) : (s.refreshThresh ring).tick = s.tick := by
  simp [State.refreshThresh]

end Movers

/-- What finishes an item leaves the other items. -/
theorem State.finishItem_items {z s : State} (h : z.tick = s.tick) (i : Nat) :
    (z.finishItem i).tick.items = s.tick.items.filter fun q => q.idx != i := by
  rw [State.finishItem, h]

theorem State.ite_items {c : Prop} [Decidable c] {a b : State} {l : List RunItem} (ha : a.tick.items = l)
    (hb : b.tick.items = l) : (if c then a else b).tick.items = l := by
  split
  · exact ha
  · exact hb

/-- A burst that ends within its tick finishes the item that started it (R759). -/
theorem execDmaBurstComplete_finishes {s : State} {ch : Fin 24} {i : Nat} (hburst : (s.dmaOf ch.val).burst = some (some i))
    (hend : (s.moverEnd ch.val).1 ≤ s.tickEnd) : ∃ t, execDmaBurstComplete ch .clean s = .next t ∧
      t.tick.items = s.tick.items.filter fun q => q.idx != i := by
  unfold execDmaBurstComplete
  refine ⟨_, rfl, ?_⟩
  rw [hburst]
  extract_lets z x s0 len sp src bad strobe tag r s2 s3 s4 s5 s6
  have hmoved : s0.tick = s.tick := s.endMover_tick ch.val
  have hread : r.1.tick = s.tick := by
    unfold r
    split
    · exact (State.readSram_clean_tick ..).trans hmoved
    · split
      · exact (State.emit_tick ..).trans hmoved
      · exact hmoved
  have hcount : s3.tick = s2.tick := by simp [s3]
  have hwritten : s5.tick = s.tick := (State.endDesc_tick ..).trans
    ((State.ite_sameTick (State.countBytes_tick ..)).trans (hcount.trans ((State.writeBurst_tick ..).trans hread)))
  have hring : s6.tick = s.tick := (State.ite_sameTick (State.advanceDring_tick ..)).trans hwritten
  dsimp only
  rw [if_neg (Nat.not_lt.2 hend)]
  exact State.ite_items (State.finishItem_items hmoved i) (State.ite_items
    (State.finishItem_items ((State.endDesc_tick ..).trans ((State.discard_tick ..).trans hmoved)) i) (State.ite_items
      (State.finishItem_items ((State.endDesc_tick ..).trans ((State.dmaAbsent_tick ..).trans hmoved)) i)
      (State.finishItem_items ((State.ite_sameTick (State.emit_tick ..)).trans hring) i)))

/-- A drain that ends within its tick finishes the item that started it (R743). -/
theorem execDrainComplete_finishes {s : State} {q : Fin 16} {k i : Nat} (hburst : (s.queue q.val).burst = some (k, some i))
    (hend : (s.moverEnd (24 + q.val)).1 ≤ s.tickEnd) : ∃ t, execDrainComplete q s = .next t ∧
      t.tick.items = s.tick.items.filter fun r => r.idx != i := by
  have hmoved := s.endMover_tick (24 + q.val)
  simp only [execDrainComplete, hburst, if_neg (Nat.not_lt.2 hend)]
  refine ⟨_, rfl, ?_⟩
  exact State.ite_items (State.finishItem_items hmoved i) (State.ite_items
    (State.finishItem_items hmoved i) (State.finishItem_items (by simp) i))

/-! ### Done lines and spares -/

/-- A done line that an item awaits finishes it (R632). -/
theorem execFabricStrobeDone_finishes {s : State} {r k : Fin 8} {q : RunItem} (hactive : s.isActive (0x20 + r.val) = true)
    (hstrobe : (s.regionOf r.val).strobes.bit k.val = true) (hpulse : (s.regionOf r.val).pulse.bit k.val = false)
    (hitem : s.tick.items.find? (fun q => q.item.unit == 0x20 + r.val && q.item.action == 6 && q.item.arg % 8 == k.val) =
      some q) :
    execFabricStrobeDone r k s = .next ((s.setRegion r.val { s.regionOf r.val with
      strobes := (s.regionOf r.val).strobes.setBit k.val false
      pdone := (s.regionOf r.val).pdone.setBit k.val true }).finishItem q.idx) := by
  simp [execFabricStrobeDone, hactive, hstrobe, hpulse, hitem]

theorem State.swapSpare_tick (s : State) (n p : Nat) (w : Waiting) : (s.swapSpare n p w).tick = s.tick := by
  simp [State.swapSpare, State.keepConv, State.setTerms, State.markSlice, State.refreshHealth, State.refreshStalled]

/-- A measured spare takes its position at a sample instant of the tick, and the item that measured it finishes (R473, R475). -/
theorem execCalRotateSwap_finishes {s : State} {c : Side} {w : Waiting} {q : RunItem}
    (hwaiting : (s.convOf (sideN c)).waiting = some w) (hcold : w.cold = false)
    (hin : s.posInstant (sideN c) (s.regN (convUnit (sideN c) * 256 + 10) % s.positions (sideN c)) s.now < s.tickEnd)
    (hitem : s.tick.items.find? (fun r => r.item.unit == convUnit (sideN c) && r.item.action == 8) = some q) :
    let p := s.regN (convUnit (sideN c) * 256 + 10) % s.positions (sideN c)
    execCalRotateSwap c s = .next
      (((s.reach (s.posInstant (sideN c) p s.now)).swapSpare (sideN c) p w).finishItem q.idx) := by
  intro p
  have hitem' : ((s.reach (s.posInstant (sideN c) p s.now)).swapSpare (sideN c) p w).tick.items = s.tick.items := by
    rw [State.swapSpare_tick, State.reach_tick]
  rw [← hitem'] at hitem
  simp only [execCalRotateSwap, hwaiting, hcold, Bool.false_or, decide_eq_true_eq, if_neg (Nat.not_le.2 hin)]
  rw [hitem]

/-- Settles O27: each end of an item's work by its rule above. -/
theorem planItemsFinish : Obligations.PlanItemsFinish := by
  intro s
  refine ⟨fun r k q hactive hstrobe hpulse hitem => ?_, fun r rest hruns hend => ?_, fun ch i hburst hend => ?_,
    fun q k i hburst hend => ?_, fun c w q hwaiting hcold => ?_⟩
  · exact execFabricStrobeDone_finishes hactive hstrobe hpulse hitem
  · exact execWireCheckFinish_finishes hruns hend
  · exact execDmaBurstComplete_finishes hburst hend
  · exact execDrainComplete_finishes hburst hend
  · exact fun hin hitem => execCalRotateSwap_finishes hwaiting hcold hin hitem

end Sys2Proof.Machine
end
